-- ==== Sys2Proof/Word.lean ====
section
/-! DEFINITION. The word types of the links: bytes and two-byte numbers, high byte first (R159). -/

namespace Sys2Proof

/-- One byte of a frame. -/
abbrev Byte := BitVec 8

/-- A two-byte number of a frame, sent high byte first (R159). -/
abbrev Half := BitVec 16

end Sys2Proof
end

