-- ==== Sys2Proof/Syntax.lean ====
section
/-! DEFINITION. The commands: one constructor per row of spec/opcode_table.json, in the table's order, with
the operands the row's rule reads. -/

namespace Sys2Proof

/-- Stations 1 to 7 of the peripheral line (00_scope.md, Numbering); `0` stands for station 1. -/
abbrev StationId := Fin 7
/-- Zones A, B, C are index 0, 1, 2 (00_scope.md, Numbering). -/
abbrev ZoneId := Fin 3
/-- Thermistor channels A, B, C, evaporator (00_scope.md, Numbering). -/
abbrev ChannelId := Fin 4
/-- Columns 0 to 63. -/
abbrev ColumnId := Fin 64
/-- Selections 0 to 99. -/
abbrev SelectionId := Fin 100
/-- Tubes 0 to 5. -/
abbrev TubeId := Fin 6
/-- Coin types 0 to 15. -/
abbrev CoinId := Fin 16
/-- Bill types 0 to 7. -/
abbrev BillId := Fin 8

/-- The door switch (R184). -/
inductive Door where
  | opened
  | closed
  deriving DecidableEq, Repr

/-- What the header of a request that passed R178 still says: the station field (0 to 7) and whether
R161 corrected the header. -/
structure ReqHeader where
  station : Fin 8
  corrected : Bool
  deriving DecidableEq, Repr

/-- A coin or bill record as R177 carries it: value, then flags (bit 0 accept, bit 1 assured). -/
structure RawValue where
  value : Half
  flags : Byte
  deriving DecidableEq, Repr

/-- A tube record as R177 carries it. -/
structure RawTube where
  coinType : Byte
  count : Byte
  capacity : Byte
  full : Byte
  low : Byte
  deriving DecidableEq, Repr

/-- A selection record as R177 carries it. -/
structure RawSelection where
  price : Half
  head : Byte
  cursor : Byte
  modes : Byte
  deriving DecidableEq, Repr

/-- A column record as R177 carries it. -/
structure RawColumn where
  stateZone : Byte
  turns : Byte
  count : Byte
  next : Byte
  deriving DecidableEq, Repr

/-- A breakpoint of the calibration table as R177 carries it. -/
structure RawBreakpoint where
  code : Half
  temperature : Half
  deriving DecidableEq, Repr

/-- A zone record as R177 carries it. -/
structure RawZone where
  mode : Byte
  setpoint : Half
  differential : Byte
  healthFlag : Byte
  healthLimit : Half
  allowance : Byte
  deriving DecidableEq, Repr

/-- The settings record as R177 carries it. -/
structure RawSettings where
  creditMax : Half
  columnTries : Byte
  multiVend : Byte
  budget : Byte
  minOff : Half
  minRun : Half
  defrostInterval : Byte
  heaterMax : Byte
  termination : Half
  drip : Half
  deriving DecidableEq, Repr

/-- The two requesters whose requests are of class COOLING (R116). -/
inductive CoolingLoad where
  | compressor
  | heater
  deriving DecidableEq, Repr

/-- The commands of spec/opcode_table.json. -/
inductive Instr where
  | powerOn
  | doorSwitch (door : Door)
  | holdAsserted
  | holdReleased
  | frameTransmitted
  | serviceFrameDiscarded (bytes : List Byte)
  | serviceByteGap (bytes : List Byte)
  | read (h : ReqHeader) (table first count : Byte)
  | writeCoinTable (h : ReqHeader) (index : Byte) (records : List RawValue)
  | writeBillTable (h : ReqHeader) (index : Byte) (records : List RawValue)
  | writeTubeTable (h : ReqHeader) (index : Byte) (records : List RawTube)
  | writeSelectionTable (h : ReqHeader) (index : Byte) (records : List RawSelection)
  | writeColumnTable (h : ReqHeader) (index : Byte) (records : List RawColumn)
  | writeCalibrationTable (h : ReqHeader) (index : Byte) (points : List RawBreakpoint)
  | writeChannelTable (h : ReqHeader) (index : Byte) (offsets : List Byte)
  | writeZoneTable (h : ReqHeader) (index : Byte) (records : List RawZone)
  | writeSettings (h : ReqHeader) (index : Byte) (records : List RawSettings)
  | writeRelayTable (h : ReqHeader) (index : Byte) (rules : List Byte)
  | mode (h : ReqHeader) (value : Byte)
  | select (h : ReqHeader) (selection : Byte)
  | approve (h : ReqHeader) (number : Half) (yes : Byte)
  | lever (h : ReqHeader)
  | testDrive (h : ReqHeader) (column : Byte)
  | tubeOut (h : ReqHeader) (tube count : Byte)
  | fill (h : ReqHeader) (value : Byte)
  | release (h : ReqHeader) (zone : Byte)
  | defrost (h : ReqHeader)
  | status (h : ReqHeader) (part : Byte)
  | restart (h : ReqHeader)
  | relay (h : ReqHeader) (kind : Byte) (payload : List Byte)
  | lineBreakEnd
  | probeDue (station : StationId)
  | retryAt (station : StationId)
  | replyReceived (bytes : List Byte)
  | replyWindowExpiry
  | replyGap (bytes : List Byte := [])
  | stackingLimitExpiry
  | payLimitExpiry
  | hostApprovalLimitExpiry
  | readerApprovalLimitExpiry
  | loadLimitExpiry
  | homeSwitchOpens (current : Nat)
  | homeSwitchCloses
  | motorCurrentChange (current : Nat)
  | openCheckExpiry (current : Nat)
  | leaveHomeLimitExpiry (current : Nat)
  | turnLimitExpiry
  | jamRunExpiry
  | dropWindowExpiry
  | beamBroken
  | beamUnbroken
  | clearTimerExpiry
  | blockTimerExpiry
  | testLoadLimitExpiry
  | promotionTimerExpiry (load : CoolingLoad)
  | sample (channel : ChannelId) (code : Fin 1024)
  | dutyPhaseExpiry (zone : ZoneId)
  | minOffPassed
  | startWindowExpiry
  | minRunExpiry
  | defrostIntervalReached
  | heaterTimerExpiry
  | dripTimerExpiry
  | temps
  | excursionTimerExpiry (zone : ZoneId)
  deriving DecidableEq, Repr

end Sys2Proof
end

