-- ==== Sys2Proof/Config.lean ====
section
/-! DEFINITION. What the manual fixes once for the part (durations, limits, sizes) and the values it leaves
open. Every duration is in milliseconds (log 1). -/

namespace Sys2Proof.Config

/-- Largest credit and hold, R21, R24. -/
def moneyMax : Nat := 9999
/-- Largest coin value, R1. -/
def coinMax : Nat := 2000
/-- Largest pending payout, R23. -/
def pendingMax : Nat := 65535
/-- Largest tube capacity, R3. -/
def tubeMax : Nat := 250
/-- Coins in the largest PAY, R42. -/
def payMax : Nat := 15
/-- Entries of the line queue, R173. -/
def lineQueueMax : Nat := 16
/-- Relay entries of the line queue, R173. -/
def relayMax : Nat := 8
/-- Entries of the report queue, R191. -/
def reportMax : Nat := 32
/-- The reserve is open while more than this many entries are free, R191. -/
def reserveFree : Nat := 12
/-- Bytes of the longest payload, R159. -/
def payloadMax : Nat := 120
/-- The count that a merged COIN_IN entry does not pass, R192. -/
def coinInMax : Nat := 65535

/-- R15: stacking limit. -/
def stackingLimit : Nat := 8000
/-- R43: PAY limit. -/
def payLimit : Nat := 30000
/-- R98: host approval limit. -/
def hostLimit : Nat := 10000
/-- R101: reader approval limit. -/
def readerLimit : Nat := 30000
/-- R104: load limit of a column try. -/
def loadLimit : Nat := 30000
/-- R86: test load limit. -/
def testLoadLimit : Nat := 30000
/-- R76: open check. -/
def openCheck : Nat := 200
/-- R75: leave-home limit. -/
def leaveHome : Nat := 600
/-- R77: turn limit. -/
def turnLimit : Nat := 5000
/-- R78: jam run. -/
def jamRun : Nat := 150
/-- R80: drop window. -/
def dropWindow : Nat := 1200
/-- R83: clear and block timers. -/
def sensorTimer : Nat := 2000
/-- R78: the current above which a jam is judged, in mA. -/
def jamCurrent : Nat := 900
/-- R76: the current below which the motor is judged open, in mA. -/
def openCurrent : Nat := 40
/-- R123: promotion timer. -/
def promotion : Nat := 45000
/-- R128: sample period. -/
def samplePeriod : Nat := 1000
/-- R147: TEMPS period. -/
def tempsPeriod : Nat := 60000
/-- R135: DEMAND phase of the fault duty. -/
def dutyDemand : Nat := 600000
/-- R135: REST phase of the fault duty. -/
def dutyRest : Nat := 900000
/-- R139: start window of the compressor. -/
def startWindow : Nat := 3000
/-- R166: the line break. -/
def lineBreak : Nat := 100
/-- R168: reply window and gap. -/
def replyWindow : Nat := 25
/-- R170: retry after a WAIT. -/
def retryAfter : Nat := 50
/-- R170: limit of an unbroken run of WAITs. -/
def waitLimit : Nat := 5000
/-- R167: time from a failed JOIN, and from a loss, to the next probe. -/
def probeAfter : Nat := 2000

/-- R138: load units asked for the compressor. -/
def compressorUnits : Nat := 7
/-- R121: load units of the running compressor. -/
def runningUnits : Nat := 3
/-- R142: load units asked for the heater. -/
def heaterUnits : Nat := 4
/-- R90: load units of a spiral. -/
def spiralUnits : Nat := 2
/-- R15, R45: load units of a stacking and of a PAY. -/
def singleUnit : Nat := 1

/-- DESIGN CHOICE (log 11): the bound on the inner steps of one event. -/
def innerSteps : Nat := 8192

/-- The payload bytes a MIRROR surely carries: its four other fields (station, relay number, kind, cut mark)
take at most one byte each of the 120 (R176, log 13). -/
def mirrorRoom : Nat := 116

/-- FREE VALUE (log 13): how many further payload bytes fit, since the manual gives no layout of a MIRROR's
fields. -/
opaque mirrorSpare : Fin 4

/-- FREE VALUE (log 45): whether a sale settles by multi-vend as it stood at its acceptance (R92's first clause,
R114) or as it stands at the settlement (R92's last clause, R108). -/
opaque multiVendKept : Bool

/-- FREE VALUE (log 46): whether a sale in flight refuses a TUBE_OUT (R114) or does not (R53, R54). -/
opaque tubeOutWaitsForSale : Bool

end Sys2Proof.Config
end

