-- ==== Sys2Proof/Machine/State.lean ====
section
/-! DEFINITION. The state of the part: every table, record, queue, timer, mode and pin the manual names, as
plain data, and the machine right after power-on. -/

namespace Sys2Proof.Machine

/-- Why the machine stops. No rule of the manual stops the part (INVENTORY, Faults), so no meaning raises it. -/
inductive Fault where
  /-- Raised by no meaning: no rule stops the part. Safe. -/
  | stopped
  deriving DecidableEq, Repr

/-- Why a command has no meaning. -/
inductive Refusal where
  /-- Raised only by an arm of `exec` whose command has no meaning yet; no arm does. Safe. -/
  | notModelled (mnemonic : String)
  deriving DecidableEq, Repr

/-! ### Cash unit -/

/-- A record of the coin table (R1) or of the bill table (R2): value 0 marks the type unused. -/
structure MoneyType where
  value : Nat
  accept : Bool
  assured : Bool
  deriving DecidableEq, Repr

/-- Whether a tube's count was set or shown, or may differ (R3). -/
inductive Trust where
  | exact
  | estimated
  deriving DecidableEq, Repr

/-- A tube record (R3); `coinType = none` is NONE. -/
structure Tube where
  coinType : Option CoinId
  count : Nat
  capacity : Nat
  full : Nat
  low : Nat
  trust : Trust
  deriving DecidableEq, Repr

/-- A routing decision (R5). -/
inductive Route where
  | tube (n : TubeId)
  | cashbox
  deriving DecidableEq, Repr

/-- The escrow record (R13), with the stacking limit's expiry where it runs. -/
inductive Escrow where
  | empty
  | held (bill : BillId) (value : Nat)
  | stackWait (bill : BillId) (value : Nat) (limit : Nat)
  | stacking (bill : BillId) (value : Nat) (limit : Nat)
  | returning (bill : BillId) (value : Nat)
  deriving DecidableEq, Repr

/-- The acceptance set (R35) with one bit a type as ADMIT carries them (R164); `reader = none` is off. -/
structure AdmitSet where
  coins : BitVec 16
  bills : BitVec 8
  reader : Option Nat
  deriving DecidableEq, Repr

/-- The cash unit's tables and the parts of the acceptance set last handed on (R38). -/
structure Cash where
  coins : Vector MoneyType 16
  bills : Vector MoneyType 8
  tubes : Vector Tube 6
  routing : Vector Route 16
  escrow : Escrow
  acceptance : AdmitSet
  handed : AdmitSet
  deriving DecidableEq, Repr

/-- The credit ledger (R21) and the four cash totals modulo 2^32 (R22). -/
structure Ledger where
  credit : Nat
  hold : Nat
  pending : Nat
  cashIn : BitVec 32
  settled : BitVec 32
  changePaid : BitVec 32
  changeOwed : BitVec 32
  deriving DecidableEq, Repr

/-- The card record (R33); `funds = none` is UNKNOWN. -/
inductive Card where
  | absent
  | present (funds : Option Nat)
  deriving DecidableEq, Repr

/-! ### Payout unit -/

/-- The states of the payout unit (R43). -/
inductive PayPhase where
  | idle
  | plan
  | loadWait
  | paying
  deriving DecidableEq, Repr

/-- A PAY command: tube, coins and the value of one coin (R42). -/
structure PayCmd where
  tube : TubeId
  coins : Nat
  value : Nat
  deriving DecidableEq, Repr

/-- How a tube's last command ended (R52). -/
inductive PayEnding where
  | full
  | short
  | noPaid
  | lost
  deriving DecidableEq, Repr

/-- A tube entry of the payout record and of PAYOUT_DONE (R43, R52). -/
structure TubeEntry where
  tube : TubeId
  asked : Nat
  paid : Nat
  ending : Option PayEnding
  deriving DecidableEq, Repr

/-- The payout operation record (R43). `payJoined`: the line queue took the PAY in flight (log 24). -/
structure Payout where
  phase : PayPhase
  manual : Bool
  remaining : List PayCmd
  inFlight : Option PayCmd
  typesAtPlan : List (TubeId × CoinId)
  limit : Option Nat
  paid : Nat
  owed : Nat
  entries : List TubeEntry
  payJoined : Bool
  deriving DecidableEq, Repr

/-! ### Selection map -/

/-- How the next column is searched for (R56). -/
inductive SearchMode where
  | first
  | rotate
  deriving DecidableEq, Repr

/-- Whether a sale waits for the host (R56). -/
inductive Approval where
  | none
  | host
  deriving DecidableEq, Repr

/-- A selection record (R56); `none` is NONE. -/
structure Selection where
  price : Nat
  head : Option ColumnId
  search : SearchMode
  cursor : Option ColumnId
  approval : Approval
  deriving DecidableEq, Repr

/-- The states of a column (R57). -/
inductive ColState where
  | available
  | empty
  | jammed
  | fault
  | disabled
  deriving DecidableEq, Repr

/-- A column record (R57); `count = none` is UNCOUNTED, `next = none` is END. -/
structure Column where
  state : ColState
  zone : ZoneId
  turns : Nat
  count : Option Nat
  next : Option ColumnId
  deriving DecidableEq, Repr

/-- The health states of a zone (R148). -/
inductive HealthState where
  | none
  | proving
  | normal
  | warning
  | held
  deriving DecidableEq, Repr

/-- The selection map: its tables, the zone health last handed to it (R63) and P_min last handed on (R64). -/
structure SelMap where
  selections : Vector Selection 100
  columns : Vector Column 64
  zoneHealth : Vector HealthState 3
  pMin : Option Nat
  deriving DecidableEq, Repr

/-! ### Spiral drive -/

/-- Who asked for an attempt (R72). -/
inductive DriveRequester where
  | sale
  | test
  deriving DecidableEq, Repr

/-- The phases of a turn (R72). -/
inductive DrivePhase where
  | leavingHome
  | turning
  | dropWait
  deriving DecidableEq, Repr

/-- The results of an attempt (R72). -/
inductive DriveResult where
  | vended
  | noDrop
  | jam
  | noStart
  | openMotor
  | turned
  deriving DecidableEq, Repr

/-- The drive attempt record (R72). Timers hold their expiry; `result` is present from the moment it is set until R81
makes the record absent, within one event. `before` is the column's state at the start (R87). -/
structure Attempt where
  requester : DriveRequester
  column : ColumnId
  turnsAllowed : Nat
  turnsDone : Nat
  dropSeen : Bool
  judging : Bool
  phase : DrivePhase
  motor : Bool
  openCheck : Option Nat
  leaveHome : Option Nat
  turnLimit : Option Nat
  jamRun : Option Nat
  dropWindow : Option Nat
  result : Option DriveResult
  before : ColState
  deriving DecidableEq, Repr

/-- A test request waiting for its grant (R86). -/
structure TestRequest where
  column : ColumnId
  limit : Nat
  deriving DecidableEq, Repr

/-- The drop sensor's states (R83). -/
inductive SensorState where
  | pending
  | clear
  | blocked
  deriving DecidableEq, Repr

/-- The spiral drive and its drop sensor. -/
structure Drive where
  attempt : Option Attempt
  testRequest : Option TestRequest
  sensor : SensorState
  clearTimer : Option Nat
  blockTimer : Option Nat
  deriving DecidableEq, Repr

/-! ### Sale unit -/

/-- The stages of a sale at rest; IDLE is the absence of a sale record and SETTLING is never at rest (R91). -/
inductive Stage where
  | stacking
  | hostApproval
  | readerApproval
  | loadWait
  | driving
  | settling
  deriving DecidableEq, Repr

/-- Where a selection came from (R91). -/
inductive Origin where
  | panel
  | servicePort
  deriving DecidableEq, Repr

/-- How a sale is paid (R91). -/
inductive Source where
  | cash
  | cashless
  deriving DecidableEq, Repr

/-- Which reader frames a sale has queued (R91). -/
inductive ReaderTold where
  | none
  | asked
  | done
  | failed
  deriving DecidableEq, Repr

/-- How a sale ended (R91). -/
inductive SaleOutcome where
  | vended
  | failed
  | billFail
  | denied
  | timedOut
  | cardLost
  | noPower
  | heldZone
  deriving DecidableEq, Repr

/-- The result of a column try (R107, R106). -/
inductive TryResult where
  | drive (r : DriveResult)
  | sensorNotClear
  | driveBusy
  deriving DecidableEq, Repr

/-- An entry of the tried list (R91). -/
structure Try where
  column : ColumnId
  result : TryResult
  turns : Nat
  stopMark : Bool
  deriving DecidableEq, Repr

/-- The sale record (R91), present from acceptance to settlement; `outcome` is set as the sale ends (R108).
`multiVend` is the model's own: the setting as it stood at the acceptance (R114, log 45). -/
structure Sale where
  stage : Stage
  number : Nat
  origin : Origin
  selection : SelectionId
  source : Source
  price : Nat
  approval : Approval
  triesAllowed : Nat
  multiVend : Bool
  chosen : Option ColumnId
  tried : List Try
  told : ReaderTold
  outcome : Option SaleOutcome
  loadLimit : Option Nat
  approvalLimit : Option Nat
  billStacked : Bool
  deriving DecidableEq, Repr

/-- The panel messages (R110). -/
inductive ShowCode where
  | credit
  | closed
  | busy
  | unavailable
  | price
  | vending
  | approving
  | takeProduct
  | notVended
  deriving DecidableEq, Repr

/-- The sale unit (R91, R110); `current = none` is stage IDLE. -/
structure SaleUnit where
  current : Option Sale
  lastNumber : Nat
  pendingReturn : Bool
  lastShow : ShowCode × Nat
  deriving DecidableEq, Repr

/-! ### Load arbiter -/

/-- The six requesters (R116). -/
inductive Requester where
  | spiral
  | testDrive
  | payout
  | stacking
  | compressor
  | heater
  deriving DecidableEq, Repr

/-- A grant (R115). -/
structure Grant where
  holder : Requester
  units : Nat
  deriving DecidableEq, Repr

/-- A waiting request (R115, R117). -/
structure LoadRequest where
  requester : Requester
  asked : Nat
  counted : Nat
  time : Nat
  promoted : Bool
  deriving DecidableEq, Repr

/-- The load arbiter's record (R115). -/
structure Load where
  budget : Nat
  grants : List Grant
  requests : List LoadRequest
  deriving DecidableEq, Repr

/-! ### Cooling controller and health monitor -/

/-- The status of a thermistor channel (R127). -/
inductive ChannelStatus where
  | noData
  | valid
  | fault
  deriving DecidableEq, Repr

/-- The kind of a fault sample (R128). -/
inductive FaultKind where
  | short
  | opened
  deriving DecidableEq, Repr

/-- A channel record (R127). -/
structure Channel where
  offset : Int
  status : ChannelStatus
  faultRun : Nat
  validRun : Nat
  faultKind : Option FaultKind
  samples : List Int
  temperature : Option Int
  limitMark : Bool
  lastCode : Option Nat
  deriving DecidableEq, Repr

/-- A zone's cooling mode (R133). -/
inductive ZoneMode where
  | monitor
  | chill
  deriving DecidableEq, Repr

/-- A zone's demand (R133). -/
inductive Demand where
  | satisfied
  | demand
  deriving DecidableEq, Repr

/-- The phases of the fault duty (R135). -/
inductive DutyPhase where
  | demand
  | rest
  deriving DecidableEq, Repr

/-- A zone record (R133); `duty` holds the phase and its timer's expiry while the fault duty runs. -/
structure Zone where
  mode : ZoneMode
  setpoint : Int
  differential : Nat
  healthFlag : Bool
  healthLimit : Int
  allowance : Nat
  demand : Demand
  duty : Option (DutyPhase × Nat)
  deriving DecidableEq, Repr

/-- The eight states of the compressor and defrost record (section 8.4). -/
inductive PlantPhase where
  | lockout
  | ready
  | startWait
  | starting
  | running
  | heatWait
  | heating
  | drip
  deriving DecidableEq, Repr

/-- The compressor and defrost record (R137). The run time is kept in milliseconds (log 18). -/
structure Plant where
  phase : PlantPhase
  lastStop : Nat
  runMs : Nat
  due : Bool
  startWindow : Option Nat
  minRun : Option Nat
  heaterTimer : Option Nat
  dripTimer : Option Nat
  grantedAt : Nat
  heatedAt : Nat
  dripAt : Nat
  deriving DecidableEq, Repr

/-- The cooling controller. -/
structure Cooling where
  calibration : List (Nat × Int)
  channels : Vector Channel 4
  zones : Vector Zone 3
  plant : Plant
  nextSample : Vector Nat 4
  nextTemps : Nat
  deriving DecidableEq, Repr

/-- What made a hold (R148). -/
inductive HoldCause where
  | proveFailed
  | expired
  | sensor
  deriving DecidableEq, Repr

/-- The health record of a zone (R148): the excursion start is present in WARNING, the hold cause in HELD. -/
inductive Health where
  | none
  | proving
  | normal
  | warning (start : Nat)
  | held (cause : HoldCause)
  deriving DecidableEq, Repr

/-! ### Line master -/

/-- The kinds of the requests the line master sends (R163). -/
inductive LineKind where
  | join
  | call
  | admitSet
  | steer
  | pay
  | keepBill
  | giveBack
  | chargeAsk
  | chargeEnd
  | show
  | relayed (code : Byte)
  deriving DecidableEq, Repr

/-- A request: kind, payload (R164) and, for a relayed frame, its relay number (R175). -/
structure LineRequest where
  kind : LineKind
  payload : List Byte
  relayNo : Option Nat
  deriving DecidableEq, Repr

/-- An entry of the line queue (R173). -/
structure QueueEntry where
  station : StationId
  request : LineRequest
  deriving DecidableEq, Repr

/-- A station record (R166), with its relay rule (R175). -/
structure Station where
  active : Bool
  role : Option Byte
  level : Option Byte
  turn : Bool
  misses : Nat
  outstanding : Option LineRequest
  waitSince : Option Nat
  retryAt : Option Nat
  probeAt : Option Nat
  lastWrongRole : Option Byte
  downAllowed : Bool
  upMirror : Bool
  deriving DecidableEq, Repr

/-- The exchange in progress (R168): the request, the bytes sent, and the end of the reply window (log 17). -/
structure Exchange where
  station : StationId
  request : LineRequest
  turn : Bool
  wire : List Byte
  windowEnd : Nat
  deriving DecidableEq, Repr

/-- The line state (R166). -/
inductive LinePhase where
  | lineBreak (ends : Nat)
  | idle
  | exchange (x : Exchange)
  deriving DecidableEq, Repr

/-- The two kinds of slot (R172). -/
inductive Slot where
  | poll
  | command
  deriving DecidableEq, Repr

/-- The line master (R166, R173). `restartDue`: a RESTART waits for the exchange in progress to end. -/
structure Line where
  stations : Vector Station 7
  phase : LinePhase
  nextSlot : Slot
  lastPolled : StationId
  lastRelay : Nat
  queue : List QueueEntry
  restartDue : Bool
  deriving DecidableEq, Repr

/-- Where a COIN_SEEN says its coin went (R165). -/
inductive CoinDest where
  | tube (n : Fin 64)
  | cashbox
  | rejected
  deriving DecidableEq, Repr

/-- What a tube's level sensors see (R165). -/
inductive Sense where
  | empty
  | normal
  | full
  deriving DecidableEq, Repr

/-- What the validator did with a bill (R165). -/
inductive BillEvent where
  | escrowed
  | stacked
  | returned
  | rejected
  deriving DecidableEq, Repr

/-- The items of a REPLY (R165). -/
inductive Item where
  | coinSeen (coin : CoinId) (dest : CoinDest)
  | paid (tube : Fin 64) (coins : Nat)
  | tubeSense (tube : Fin 64) (sense : Sense)
  | billSeen (bill : BillId) (event : BillEvent)
  | cardOn (funds : Option Nat)
  | cardOff
  | chargeAnswer (number : Nat) (approve : Bool)
  | key (selection : Nat)
  | lever
  | fault (code : Byte)
  deriving DecidableEq, Repr

/-! ### Reports (sections 11.6 and the rules that make them) -/

/-- A count of a COIN_IN (R192). -/
structure CoinCount where
  coin : CoinId
  dest : Route
  count : Nat
  deriving DecidableEq, Repr

/-- The states of a BILL_IN line (R192). -/
inductive BillInState where
  | stacked
  | uncertain
  deriving DecidableEq, Repr

/-- A line of a BILL_IN (R192). -/
structure BillLine where
  bill : BillId
  state : BillInState
  count : Nat
  amount : Nat
  deriving DecidableEq, Repr

/-- The occasions of a PAYOUT_DONE (R52). -/
inductive Occasion where
  | shortfall
  | ending
  | limit
  | unasked
  deriving DecidableEq, Repr

/-- A PAYOUT_DONE (R52). -/
structure PayoutDone where
  occasion : Occasion
  manual : Bool
  paid : Nat
  owed : Nat
  entries : List TubeEntry
  deriving DecidableEq, Repr

/-- A SALE report (R109). -/
structure SaleReport where
  number : Nat
  origin : Origin
  selection : SelectionId
  source : Source
  price : Nat
  approval : Approval
  billStacked : Bool
  tries : List Try
  outcome : SaleOutcome
  told : ReaderTold
  creditAfter : Nat
  released : Nat
  deriving DecidableEq, Repr

/-- A CREDIT report (R31). -/
structure CreditReport where
  credit : Nat
  hold : Nat
  escrowValue : Nat
  pending : Nat
  card : Card
  deriving DecidableEq, Repr

/-- What changed a column's state (R70). -/
inductive ColCause where
  | write
  | vended
  | noDrop
  | jam
  | noStart
  | openMotor
  | test
  deriving DecidableEq, Repr

/-- A COLUMN report (R70). -/
structure ColumnReport where
  column : ColumnId
  before : ColState
  after : ColState
  count : Option Nat
  zone : ZoneId
  cause : ColCause
  sellable : Bool
  deriving DecidableEq, Repr

/-- The causes of a ZONE report (R146, R158). -/
inductive ZoneCause where
  | channel
  | limit
  | write
  | proved
  | proveFailed
  | excursion
  | recovered
  | expired
  | sensor
  | released
  | flagOn
  | flagOff
  deriving DecidableEq, Repr

/-- A ZONE report (R146). -/
structure ZoneReport where
  zone : ZoneId
  cause : ZoneCause
  mode : ZoneMode
  setpoint : Int
  differential : Nat
  demand : Demand
  duty : Option DutyPhase
  status : ChannelStatus
  temperature : Option Int
  limitMark : Bool
  faultKind : Option FaultKind
  health : HealthState
  deriving DecidableEq, Repr

/-- The part of a TEMPS that shows one channel (R147). -/
structure ChannelView where
  status : ChannelStatus
  temperature : Option Int
  limitMark : Bool
  faultKind : Option FaultKind
  lastCode : Option Nat
  deriving DecidableEq, Repr

/-- The part of a TEMPS that shows one zone (R147). -/
structure ZoneView where
  demand : Demand
  duty : Option DutyPhase
  damperOpen : Bool
  deriving DecidableEq, Repr

/-- A TEMPS report (R147); the run time is in seconds, the time since the last stop in milliseconds (log 35). -/
structure TempsReport where
  channels : List ChannelView
  zones : List ZoneView
  phase : PlantPhase
  compressor : Bool
  heater : Bool
  fan : Bool
  runSeconds : Nat
  due : Bool
  sinceStop : Nat
  deriving DecidableEq, Repr

/-- The causes of a STATION report (R171, and the station faults the owners' rules name). -/
inductive StationCause where
  | joined
  | misses
  | waitLimit
  | restart
  | roleWrong
  | misplaced
  | stationFault
  | queueFull
  /-- R9: a coin in a tube of another type. -/
  | coinWrongTube
  /-- R9: a coin in a tube numbered above 5. -/
  | coinNoTube
  /-- R9: a coin of a type of value 0. -/
  | coinNoValue
  /-- R11: a TUBE_SENSE for a tube above 5. -/
  | senseNoTube
  /-- R48: a PAID for a tube above 5. -/
  | paidNoTube
  /-- R46: more coins paid than asked. -/
  | overpaid
  /-- R14: an ESCROWED while a bill is in escrow. -/
  | secondBill
  /-- R16: a STACKED whose amount is 0. -/
  | stackedNoValue
  /-- R93: a KEY above 99. -/
  | keyNoSelection
  /-- R102: a CHARGE_ANSWER no sale waits for. -/
  | answerUnexpected
  deriving DecidableEq, Repr

/-- The detail of a STATION report (R171). -/
inductive StationDetail where
  | none
  | item (i : Item)
  | code (c : Byte)
  | role (r : Byte)
  | kind (k : LineKind)
  deriving DecidableEq, Repr

/-- A STATION report (R171). -/
structure StationReport where
  station : StationId
  cause : StationCause
  active : Bool
  role : Option Byte
  level : Option Byte
  detail : StationDetail
  deriving DecidableEq, Repr

/-- Why a relay frame will not be answered (R176). -/
inductive DiscardCause where
  | stationLost
  | restart
  | room
  deriving DecidableEq, Repr

/-- A DISCARDED report (R176). -/
structure DiscardedReport where
  station : StationId
  relayNo : Nat
  kind : LineKind
  sent : Bool
  cause : DiscardCause
  deriving DecidableEq, Repr

/-- A MIRROR report (R176). -/
structure MirrorReport where
  station : StationId
  relayNo : Nat
  kind : LineKind
  payload : List Byte
  cut : Bool
  deriving DecidableEq, Repr

/-- A STRAY_DROP report (R85); `attempt = none` is phase NONE. -/
structure StrayDropReport where
  attempt : Option (DrivePhase × ColumnId × Nat × DriveRequester)
  deriving DecidableEq, Repr

/-- The three modes (R184). -/
inductive Mode where
  | setup
  | vend
  | service
  deriving DecidableEq, Repr

/-- The causes of a MODE_NOTE (R186). -/
inductive ModeCause where
  | mode
  | door
  | fill
  | restart
  | start
  deriving DecidableEq, Repr

/-- A MODE_NOTE (R186). -/
structure ModeNote where
  before : Mode
  after : Mode
  requested : Mode
  door : Door
  fill : Bool
  cause : ModeCause
  deriving DecidableEq, Repr

/-- The outcomes of a test drive (R88). -/
inductive TestOutcome where
  | turned
  | noStart
  | jam
  | openMotor
  | noPower
  | cancelled
  | aborted
  deriving DecidableEq, Repr

/-- The drop field of a TEST_RESULT (R88). -/
inductive DropField where
  | seen
  | notSeen
  | notJudged
  deriving DecidableEq, Repr

/-- A TEST_RESULT (R88). -/
structure TestResult where
  column : ColumnId
  outcome : TestOutcome
  drop : DropField
  before : ColState
  after : ColState
  deriving DecidableEq, Repr

/-- A SALE_ASK (R98). -/
structure SaleAsk where
  number : Nat
  selection : SelectionId
  price : Nat
  source : Source
  origin : Origin
  deriving DecidableEq, Repr

/-- The reports (section 11.6, Report contents). -/
inductive Report where
  | sale (r : SaleReport)
  | coinIn (fillMark : Bool) (counts : List CoinCount)
  | billIn (lines : List BillLine)
  | payoutDone (r : PayoutDone)
  | credit (r : CreditReport)
  | column (r : ColumnReport)
  | zone (r : ZoneReport)
  | temps (r : TempsReport)
  | station (r : StationReport)
  | discarded (r : DiscardedReport)
  | mirror (r : MirrorReport)
  | strayDrop (r : StrayDropReport)
  | modeNote (r : ModeNote)
  | testResult (r : TestResult)
  | saleAsk (r : SaleAsk)
  deriving DecidableEq, Repr

/-! ### Service port -/

/-- The service-link request kinds (R163). -/
inductive ReqKind where
  | read
  | write
  | mode
  | select
  | approve
  | lever
  | testDrive
  | tubeOut
  | fill
  | release
  | defrost
  | status
  | restart
  | relay
  deriving DecidableEq, Repr

/-- The result codes of an ANSWER (section 11.2). -/
inductive ResultCode where
  | ok
  | clamped
  | badIndex
  | badValue
  | inUse
  | listError
  | conflict
  | closed
  | busy
  | busyReports
  | notSellable
  | insufficient
  | late
  | notHeld
  | notCold
  | absent
  | forbidden
  | queueFull
  deriving DecidableEq, Repr

/-- The eight conditions (R179). -/
inductive Condition where
  | headerCorrected
  | headerBad
  | stationInvalid
  | lengthBad
  | crcBad
  | kindUnknown
  | requestOverrun
  | statusLost
  deriving DecidableEq, Repr

/-- The condition set (R179): whether each condition has occurred. -/
structure Conditions where
  headerCorrected : Bool
  headerBad : Bool
  stationInvalid : Bool
  lengthBad : Bool
  crcBad : Bool
  kindUnknown : Bool
  requestOverrun : Bool
  statusLost : Bool
  deriving DecidableEq, Repr

/-- The settings of the settings record but the budget, which the load arbiter keeps (section 11.3). Times in
the units of R145: seconds, hours, minutes. -/
structure Settings where
  creditMax : Nat
  columnTries : Nat
  multiVend : Bool
  minOff : Nat
  minRun : Nat
  defrostInterval : Nat
  heaterMax : Nat
  termination : Int
  drip : Nat
  deriving DecidableEq, Repr

/-- The mode record (R184). -/
structure ModeRecord where
  requested : Mode
  fill : Bool
  door : Door
  effective : Mode
  deriving DecidableEq, Repr

/-- The records a READ answers with (R182, section 11.3). -/
inductive TableRecords where
  | coins (l : List MoneyType)
  | bills (l : List MoneyType)
  | tubes (l : List Tube)
  | selections (l : List Selection)
  /-- With each column's sellability. -/
  | columns (l : List (Column × Bool))
  | calibration (l : List (Nat × Int))
  | channels (l : List Channel)
  /-- With each zone's health state. -/
  | zones (l : List (Zone × HealthState))
  /-- With the budget. -/
  | settings (r : Settings) (budget : Nat)
  /-- Down allowed and up mirror. -/
  | relay (l : List (Bool × Bool))
  deriving DecidableEq, Repr

/-- The number of queued frames of each class, URGENT, MONEY, ROUTINE (R188). -/
structure LineCounts where
  urgent : Nat
  money : Nat
  routine : Nat
  deriving DecidableEq, Repr

/-- A station as STATUS(LINE) shows it (R188). -/
structure StationView where
  active : Bool
  role : Option Byte
  level : Option Byte
  turn : Bool
  misses : Nat
  deriving DecidableEq, Repr

/-- The sale as STATUS(SALE) shows it (R188); absent when the stage is IDLE. -/
structure SaleView where
  stage : Stage
  number : Nat
  selection : SelectionId
  source : Source
  tried : List Try
  deriving DecidableEq, Repr

/-- A zone as STATUS(HEALTH) shows it (R188). -/
structure HealthView where
  state : HealthState
  cause : Option HoldCause
  elapsed : Option Nat
  deriving DecidableEq, Repr

/-- The six cooling settings in force, as STATUS(COOLING) gives them (R145, log 53). -/
structure CoolingSettings where
  minOff : Nat
  minRun : Nat
  defrostInterval : Nat
  heaterMax : Nat
  termination : Int
  drip : Nat
  deriving DecidableEq, Repr

/-- The snapshots of STATUS (R188). -/
inductive Snapshot where
  | ledger (l : Ledger) (escrow : Escrow) (card : Card)
  | sale (v : Option SaleView) (pendingReturn : Bool)
  | payout (phase : PayPhase) (manual : Bool) (inFlight : Option PayCmd) (remaining : Nat)
  | drive (attempt : Option (DrivePhase × ColumnId × Nat)) (sensor : SensorState)
  | load (l : Load) (granted : Nat)
  | cooling (phase : PlantPhase) (runSeconds : Nat) (due : Bool) (sinceStop : Nat) (settings : CoolingSettings)
  | health (zones : List HealthView)
  | line (stations : List StationView) (counts : LineCounts)
  | port (mode : ModeRecord) (audit status : Nat) (reserveOpen : Bool)
  deriving DecidableEq, Repr

/-- The data of an ANSWER (R180). -/
inductive AnswerData where
  | empty
  | records (table first count : Nat) (r : TableRecords)
  | snapshot (v : Snapshot)
  /-- SELECT taken: the sale number and the source (R96). -/
  | sold (number : Nat) (source : Source)
  /-- SELECT refused INSUFFICIENT: the price (R94). -/
  | price (p : Nat)
  /-- LEVER: deferred or taken (R111). -/
  | lever (deferred : Bool)
  /-- RELAY: the relay number (R190). -/
  | relayNumber (n : Nat)
  deriving DecidableEq, Repr

/-- An ANSWER (R180). -/
structure Answer where
  kind : ReqKind
  code : ResultCode
  conditions : Conditions
  data : AnswerData
  deriving DecidableEq, Repr

/-- A frame going out on the service link (R181). -/
inductive OutFrame where
  | answer (a : Answer)
  | report (r : Report)
  deriving DecidableEq, Repr

/-- The service port's link state (R179 to R181, R191); `sending = none` is an idle transmitter. -/
structure Port where
  slot : Option Answer
  conditions : Conditions
  sending : Option OutFrame
  reports : List Report
  deriving DecidableEq, Repr

/-- The input pins but the door switch, which is the door field of the mode record (log 4). -/
structure Pins where
  hold : Bool
  beamBroken : Bool
  homeClosed : Vector Bool 64
  motorCurrent : Nat
  deriving DecidableEq, Repr

/-- The state of the part. `now` is the clock in milliseconds (log 1), `cutShort` the model's own mark (log 11),
`pending` the commands that wait, oldest first. -/
structure State where
  now : Nat
  pins : Pins
  cash : Cash
  ledger : Ledger
  card : Card
  payout : Payout
  map : SelMap
  drive : Drive
  sale : SaleUnit
  load : Load
  cool : Cooling
  health : Vector Health 3
  line : Line
  port : Port
  mode : ModeRecord
  settings : Settings
  cutShort : Bool
  pending : List Instr
  deriving DecidableEq, Repr

/-! ### Writing one block of the state -/

def State.setNow (s : State) (v : Nat) : State := { s with now := v }
def State.setPins (s : State) (v : Pins) : State := { s with pins := v }
def State.setCash (s : State) (v : Cash) : State := { s with cash := v }
def State.setLedger (s : State) (v : Ledger) : State := { s with ledger := v }
def State.setCard (s : State) (v : Card) : State := { s with card := v }
def State.setPayout (s : State) (v : Payout) : State := { s with payout := v }
def State.setMap (s : State) (v : SelMap) : State := { s with map := v }
def State.setDrive (s : State) (v : Drive) : State := { s with drive := v }
def State.setSale (s : State) (v : SaleUnit) : State := { s with sale := v }
def State.setLoad (s : State) (v : Load) : State := { s with load := v }
def State.setCool (s : State) (v : Cooling) : State := { s with cool := v }
def State.setHealth (s : State) (v : Vector Health 3) : State := { s with health := v }
def State.setLine (s : State) (v : Line) : State := { s with line := v }
def State.setPort (s : State) (v : Port) : State := { s with port := v }
def State.setMode (s : State) (v : ModeRecord) : State := { s with mode := v }
def State.setSettings (s : State) (v : Settings) : State := { s with settings := v }
def State.setCutShort (s : State) (v : Bool) : State := { s with cutShort := v }
def State.setPending (s : State) (v : List Instr) : State := { s with pending := v }

/-! ### Power-on values -/

/-- R1, R2: an unused type. -/
def MoneyType.powerOn : MoneyType := { value := 0, accept := false, assured := false }

/-- R3. -/
def Tube.powerOn : Tube :=
  { coinType := none, count := 0, capacity := 100, full := 100, low := 0, trust := .estimated }

/-- R35: nothing enabled, the reader off. -/
def AdmitSet.closed : AdmitSet := { coins := 0, bills := 0, reader := none }

/-- R1 to R5, R13, R35. What was last handed reads all clear while nothing has been handed (R38, log 51). -/
def Cash.powerOn : Cash where
  coins := Vector.replicate 16 MoneyType.powerOn
  bills := Vector.replicate 8 MoneyType.powerOn
  tubes := Vector.replicate 6 Tube.powerOn
  routing := Vector.replicate 16 Route.cashbox
  escrow := .empty
  acceptance := AdmitSet.closed
  handed := AdmitSet.closed

/-- R21, R22. -/
def Ledger.powerOn : Ledger :=
  { credit := 0, hold := 0, pending := 0, cashIn := 0, settled := 0, changePaid := 0, changeOwed := 0 }

/-- R43. -/
def Payout.powerOn : Payout where
  phase := .idle
  manual := false
  remaining := []
  inFlight := none
  typesAtPlan := []
  limit := none
  paid := 0
  owed := 0
  entries := []
  payJoined := false

/-- R56. -/
def Selection.powerOn : Selection :=
  { price := 0, head := none, search := .first, cursor := none, approval := .none }

/-- R57. -/
def Column.powerOn : Column :=
  { state := .disabled, zone := 0, turns := 2, count := none, next := none }

/-- R56, R57, R63, R64. -/
def SelMap.powerOn : SelMap where
  selections := Vector.replicate 100 Selection.powerOn
  columns := Vector.replicate 64 Column.powerOn
  zoneHealth := #v[.none, .none, .proving]
  pMin := none

/-- R72, R83, R86: the clear timer runs from power-on where the beam is unbroken. -/
def Drive.powerOn (beamBroken : Bool) : Drive where
  attempt := none
  testRequest := none
  sensor := .pending
  clearTimer := if beamBroken then none else some Config.sensorTimer
  blockTimer := none

/-- R91, R110. -/
def SaleUnit.powerOn : SaleUnit :=
  { current := none, lastNumber := 0, pendingReturn := false, lastShow := (.credit, 0) }

/-- R115. -/
def Load.powerOn : Load := { budget := 8, grants := [], requests := [] }

/-- R126: the default breakpoints. -/
def defaultCalibration : List (Nat × Int) :=
  [(150, 600), (250, 400), (350, 250), (450, 140), (550, 50), (650, -30), (750, -110), (850, -200)]

/-- R127. -/
def Channel.powerOn : Channel where
  offset := 0
  status := .noData
  faultRun := 0
  validRun := 0
  faultKind := none
  samples := []
  temperature := none
  limitMark := false
  lastCode := none

/-- R133: a zone's power-on record, from its mode and health flag. -/
def Zone.powerOn (mode : ZoneMode) (flag : Bool) : Zone where
  mode := mode
  setpoint := 30
  differential := 20
  healthFlag := flag
  healthLimit := 50
  allowance := 60
  demand := .satisfied
  duty := none

/-- R137: power-on is taken as the last stop. -/
def Plant.powerOn : Plant where
  phase := .lockout
  lastStop := 0
  runMs := 0
  due := false
  startWindow := none
  minRun := none
  heaterTimer := none
  dripTimer := none
  grantedAt := 0
  heatedAt := 0
  dripAt := 0

/-- R126 to R128, R133, R137, R147. -/
def Cooling.powerOn : Cooling where
  calibration := defaultCalibration
  channels := Vector.replicate 4 Channel.powerOn
  zones := #v[Zone.powerOn .monitor false, Zone.powerOn .chill false, Zone.powerOn .chill true]
  plant := Plant.powerOn
  nextSample := Vector.replicate 4 Config.samplePeriod
  nextTemps := Config.tempsPeriod

/-- R148. -/
def healthPowerOn : Vector Health 3 := #v[.none, .none, .proving]

/-- R166: a station's power-on record; its probe falls due at `probe`, the end of the break. -/
def Station.powerOn (probe : Nat) : Station where
  active := false
  role := none
  level := none
  turn := false
  misses := 0
  outstanding := none
  waitSince := none
  retryAt := none
  probeAt := some probe
  lastWrongRole := none
  downAllowed := false
  upMirror := false

/-- R166. -/
def Line.powerOn : Line where
  stations := Vector.replicate 7 (Station.powerOn Config.lineBreak)
  phase := .lineBreak Config.lineBreak
  nextSlot := .poll
  lastPolled := 6
  lastRelay := 0
  queue := []
  restartDue := false

/-- R179: the empty set. -/
def Conditions.none : Conditions where
  headerCorrected := false
  headerBad := false
  stationInvalid := false
  lengthBad := false
  crcBad := false
  kindUnknown := false
  requestOverrun := false
  statusLost := false

/-- R184: the MODE_NOTE with cause START. -/
def startNote (door : Door) : ModeNote where
  before := .setup
  after := .setup
  requested := .setup
  door := door
  fill := false
  cause := .start

/-- R32, R92, R145. -/
def Settings.powerOn : Settings where
  creditMax := 2000
  columnTries := 2
  multiVend := false
  minOff := 180
  minRun := 60
  defrostInterval := 6
  heaterMax := 30
  termination := 80
  drip := 180

/-- R179 to R181, R191: the port at the end of the power-on event. The MODE_NOTE of R184 has been queued;
the idle transmitter has begun it unless HOLD is asserted (log 5). -/
def Port.powerOn (hold : Bool) (door : Door) : Port where
  slot := none
  conditions := Conditions.none
  sending := if hold then none else some (.report (.modeNote (startNote door)))
  reports := if hold then [.modeNote (startNote door)] else []

/-- R184. -/
def ModeRecord.powerOn (door : Door) : ModeRecord :=
  { requested := .setup, fill := false, door := door, effective := .setup }

/-- The part at the end of the power-on event, with the pins as they read. -/
def State.powerOn (pins : Pins) (door : Door) : State where
  now := 0
  pins := pins
  cash := Cash.powerOn
  ledger := Ledger.powerOn
  card := .absent
  payout := Payout.powerOn
  map := SelMap.powerOn
  drive := Drive.powerOn pins.beamBroken
  sale := SaleUnit.powerOn
  load := Load.powerOn
  cool := Cooling.powerOn
  health := healthPowerOn
  line := Line.powerOn
  port := Port.powerOn pins.hold door
  mode := ModeRecord.powerOn door
  settings := Settings.powerOn
  cutShort := false
  pending := []

/-- DESIGN CHOICE (log 4): how the pins read at reset. -/
def Pins.reset : Pins where
  hold := false
  beamBroken := false
  homeClosed := Vector.replicate 64 true
  motorCurrent := 0

/-- The machine right after power-on (log 4, log 5). -/
def State.reset : State := State.powerOn Pins.reset .closed

end Sys2Proof.Machine
end

