-- ==== Sys2Proof/Machine/Frame.lean ====
section
/-! DEFINITION. The frame of both links (sections 10.1, 10.2, 10.8): header check, CRC, the line requests, the
replies and their items, the frames the part sends on the service link, and the payloads of the service-link
requests. -/

namespace Sys2Proof.Config

/-- FREE VALUE (log 50): the payload bytes of an ANSWER or a report, of which the manual gives the named fields and no
byte layout. -/
opaque payloadOf : Machine.OutFrame → List Byte

end Sys2Proof.Config

namespace Sys2Proof.Machine

/-! ### Header and CRC -/

/-- The four bytes after the sync byte (R159). -/
structure Header where
  h0 : Byte
  h1 : Byte
  h2 : Byte
  check : Byte
  deriving DecidableEq, Repr

/-- The 24 header bits as a number: header bit n of R160 is bit n - 1. -/
def Header.bits (h : Header) : Nat := h.h0.toNat + 256 * h.h1.toNat + 65536 * h.h2.toNat

/-- The code positions of header bits 1 to 24, in order (R160). -/
def codePositions : List Nat :=
  [3, 5, 6, 7, 9, 10, 11, 12, 13, 14, 15, 17, 18, 19, 20, 21, 22, 23, 24, 25, 26, 27, 28, 29]

/-- The exclusive-or of the code positions of the header bits that are 1; `bit` is the number of the first of
`ps` less one (R160). -/
def xorPositions (bits : Nat) : Nat → List Nat → Nat
  | _, [] => 0
  | bit, p :: ps => (if bits.testBit bit then p else 0) ^^^ xorPositions bits (bit + 1) ps

/-- Check bits 0 to 4 (R160). -/
def checkBits (bits : Nat) : Nat := xorPositions bits 0 codePositions

/-- Whether the number of ones among the low `n` bits is odd. -/
def oddOnes (n v : Nat) : Bool :=
  match n with
  | 0 => false
  | k + 1 => Bool.xor (v.testBit k) (oddOnes k v)

/-- The check byte of a header (R160). -/
def checkByte (bits : Nat) : Byte :=
  let c := checkBits bits
  BitVec.ofNat 8 (c + (if Bool.xor (oddOnes 24 bits) (oddOnes 5 c) then 32 else 0))

/-- What R161 makes of a header. -/
inductive HeaderJudgement where
  | clean (h : Header)
  | corrected (h : Header)
  | uncorrectable
  deriving DecidableEq, Repr

/-- The header with header bit `n + 1` inverted. -/
def Header.flip (h : Header) (n : Nat) : Header :=
  if n < 8 then { h with h0 := h.h0 ^^^ BitVec.ofNat 8 (2 ^ n) }
  else if n < 16 then { h with h1 := h.h1 ^^^ BitVec.ofNat 8 (2 ^ (n - 8)) }
  else { h with h2 := h.h2 ^^^ BitVec.ofNat 8 (2 ^ (n - 16)) }

/-- R161: the judgement of a received header. -/
def judgeHeader (h : Header) : HeaderJudgement :=
  let c := h.check.toNat
  if 64 ≤ c then .uncorrectable
  else
    let s := checkBits h.bits ^^^ (c % 32)
    let odd := Bool.xor (oddOnes 24 h.bits) (oddOnes 6 c)
    if s = 0 then (if odd then .corrected h else .clean h)
    else if !odd then .uncorrectable
    else if s = 1 ∨ s = 2 ∨ s = 4 ∨ s = 8 ∨ s = 16 then .corrected h
    else match codePositions.idxOf? s with
      | some n => .corrected (h.flip n)
      | none => .uncorrectable

/-- H1 bits 0 to 3 (R159). -/
def Header.station (h : Header) : Nat := h.h1.toNat % 16
/-- H1 bit 4 (R159). -/
def Header.turn (h : Header) : Bool := h.h1.getLsbD 4
/-- H1 bit 5 (R159). -/
def Header.direction (h : Header) : Bool := h.h1.getLsbD 5
/-- H1 bits 6 and 7 are 0 (R159). -/
def Header.spareClear (h : Header) : Bool := decide (h.h1.toNat < 64)
/-- H2, the payload length (R159). -/
def Header.length (h : Header) : Nat := h.h2.toNat

/-- One bit of the CRC register (R162). -/
def crcShift (r : Half) : Half := if r.msb then (r <<< 1) ^^^ 0x8005#16 else r <<< 1

/-- One payload byte, most significant bit first (R162). -/
def crcByte (r : Half) (b : Byte) : Half :=
  let r := r ^^^ (b.zeroExtend 16 <<< 8)
  crcShift (crcShift (crcShift (crcShift (crcShift (crcShift (crcShift (crcShift r)))))))

/-- The CRC of a payload (R162). -/
def crc (payload : List Byte) : Half := payload.foldl crcByte 0xFFFF#16

/-- A number as two bytes, high byte first (R159). -/
def twoBytes (n : Nat) : List Byte := [BitVec.ofNat 8 (n / 256), BitVec.ofNat 8 n]

/-- Two bytes as a number, high byte first (R159). -/
def half (hi lo : Byte) : Half := hi.zeroExtend 16 <<< 8 ||| lo.zeroExtend 16

/-- R159: the frame with the parts given. -/
def buildFrame (kind : Byte) (station : Nat) (turn direction : Bool) (payload : List Byte) : List Byte :=
  let h1 : Byte := BitVec.ofNat 8 (station + (if turn then 16 else 0) + (if direction then 32 else 0))
  let h2 : Byte := BitVec.ofNat 8 payload.length
  let h : Header := { h0 := kind, h1 := h1, h2 := h2, check := 0 }
  [0x5A#8, kind, h1, h2, checkByte h.bits] ++ payload ++
    (if payload.isEmpty then [] else twoBytes (crc payload).toNat)

/-- Bytes other than 0x5A are passed over where a sync byte is awaited; what follows the sync byte (R168, R178). -/
def afterSync : List Byte → Option (List Byte)
  | [] => none
  | b :: bs => if b = 0x5A#8 then some bs else afterSync bs

/-- The header and what follows it, when four bytes have come. -/
def splitHeader : List Byte → Option (Header × List Byte)
  | a :: b :: c :: d :: rest => some ({ h0 := a, h1 := b, h2 := c, check := d }, rest)
  | _ => none

/-- The payload of `n` bytes and whether its CRC is good; `none` while bytes are missing (R161, R162). -/
def splitPayload (n : Nat) (bytes : List Byte) : Option (List Byte × Bool) :=
  if n = 0 then some ([], true)
  else if bytes.length < n + 2 then none
  else some (bytes.take n, decide ((bytes.drop n).take 2 = twoBytes (crc (bytes.take n)).toNat))

/-! ### Requests of the peripheral line -/

/-- The kind codes of the line requests (R163). -/
def LineKind.code : LineKind → Byte
  | .join => 0x81#8
  | .call => 0x82#8
  | .admitSet => 0x83#8
  | .steer => 0x84#8
  | .pay => 0x85#8
  | .keepBill => 0x86#8
  | .giveBack => 0x87#8
  | .chargeAsk => 0x88#8
  | .chargeEnd => 0x89#8
  | .show => 0x8A#8
  | .relayed c => c

/-- The SHOW codes (R164). -/
def ShowCode.code : ShowCode → Byte
  | .credit => 1#8
  | .closed => 2#8
  | .busy => 3#8
  | .unavailable => 4#8
  | .price => 5#8
  | .vending => 6#8
  | .approving => 7#8
  | .takeProduct => 8#8
  | .notVended => 9#8

/-- A routing decision in a STEER (R164). -/
def Route.code : Route → Byte
  | .tube n => BitVec.ofNat 8 n.val
  | .cashbox => 0x40#8

/-- A request without payload (R164). -/
def LineRequest.plain (k : LineKind) : LineRequest := { kind := k, payload := [], relayNo := none }
/-- A request with a payload (R164). -/
def LineRequest.with (k : LineKind) (payload : List Byte) : LineRequest :=
  { kind := k, payload := payload, relayNo := none }

/-- The part of the acceptance set a station is told (R38, R164); empty for the other stations. -/
def AdmitSet.part (a : AdmitSet) (station : StationId) : List Byte :=
  match station.val with
  | 0 => twoBytes a.coins.toNat
  | 1 => [a.bills]
  | 2 => match a.reader with
    | none => [0#8, 0#8, 0#8]
    | some n => 1#8 :: twoBytes n
  | _ => []

/-- ADMIT to a station (R164). -/
def admitRequest (a : AdmitSet) (station : StationId) : LineRequest := .with .admitSet (a.part station)
/-- STEER (R164). -/
def steerRequest (r : Vector Route 16) : LineRequest := .with .steer (r.toList.map Route.code)
/-- PAY (R164). -/
def payRequest (c : PayCmd) : LineRequest :=
  .with .pay [BitVec.ofNat 8 c.tube.val, BitVec.ofNat 8 c.coins]
/-- CHARGE_ASK (R164). -/
def chargeAskRequest (number price : Nat) (sel : SelectionId) : LineRequest :=
  .with .chargeAsk (twoBytes number ++ twoBytes price ++ [BitVec.ofNat 8 sel.val])
/-- CHARGE_END (R164). -/
def chargeEndRequest (done : Bool) : LineRequest := .with .chargeEnd [if done then 1#8 else 0#8]
/-- SHOW (R164). -/
def showRequest (m : ShowCode × Nat) : LineRequest := .with .show (m.1.code :: twoBytes m.2)

/-- The bytes of a request to a station, with the turn bit (R159). -/
def LineRequest.wire (r : LineRequest) (station : StationId) (turn : Bool) : List Byte :=
  buildFrame r.kind.code (station.val + 1) turn false r.payload

/-! ### Frames the part sends on the service link -/

/-- The kind codes of the reports (R163). -/
def Report.code : Report → Byte
  | .sale _ => 0x30#8
  | .coinIn _ _ => 0x31#8
  | .billIn _ => 0x32#8
  | .payoutDone _ => 0x33#8
  | .credit _ => 0x38#8
  | .column _ => 0x39#8
  | .zone _ => 0x3A#8
  | .temps _ => 0x3B#8
  | .station _ => 0x3C#8
  | .discarded _ => 0x3D#8
  | .mirror _ => 0x3E#8
  | .strayDrop _ => 0x3F#8
  | .modeNote _ => 0x40#8
  | .testResult _ => 0x41#8
  | .saleAsk _ => 0x42#8

/-- The kind code of a frame going out (R163). -/
def OutFrame.code : OutFrame → Byte
  | .answer _ => 0x20#8
  | .report r => r.code

/-- Its payload, at most the 120 bytes of R159 (log 50). -/
def OutFrame.payload (f : OutFrame) : List Byte := (Config.payloadOf f).take Config.payloadMax

/-- The bytes of a frame on the service link: station field 0, turn bit 0, direction 1 (R159, R181). -/
def OutFrame.wire (f : OutFrame) : List Byte := buildFrame f.code 0 false true f.payload

/-! ### Items of a REPLY -/

/-- What the walk of R165 finds next. -/
inductive ItemStep where
  | item (i : Item) (rest : List Byte)
  | unknown
  | truncated
  | done
  deriving DecidableEq, Repr

/-- The destination field of a COIN_SEEN (R165). -/
def coinDest (b : Byte) : Option CoinDest :=
  if h : b.toNat < 64 then some (.tube ⟨b.toNat, h⟩)
  else if b = 0x40#8 then some .cashbox
  else if b = 0x41#8 then some .rejected
  else none

/-- The sense field of a TUBE_SENSE (R165). -/
def senseOf (b : Byte) : Option Sense :=
  match b.toNat with
  | 0 => some .empty
  | 1 => some .normal
  | 2 => some .full
  | _ => none

/-- The state field of a BILL_SEEN (R165). -/
def billEvent (b : Byte) : Option BillEvent :=
  match b.toNat with
  | 0 => some .escrowed
  | 1 => some .stacked
  | 2 => some .returned
  | 3 => some .rejected
  | _ => none

/-- The fields of a two-field item (codes 1 to 5). -/
def twoFieldItem (code a b : Byte) : Option Item :=
  match code.toNat with
  | 1 => if h : a.toNat < 16 then (coinDest b).map (.coinSeen ⟨a.toNat, h⟩) else none
  | 2 => if h : a.toNat < 64 then some (.paid ⟨a.toNat, h⟩ b.toNat) else none
  | 3 => if h : a.toNat < 64 then (senseOf b).map (.tubeSense ⟨a.toNat, h⟩) else none
  | 4 => if h : a.toNat < 8 then (billEvent b).map (.billSeen ⟨a.toNat, h⟩) else none
  | 5 => let n := (half a b).toNat
         some (.cardOn (if n = 65535 then none else some n))
  | _ => none

/-- R165: the next item. A known code whose fields run past the end is a bad length, whatever the fields hold
(log 16). -/
def nextItem (bytes : List Byte) : ItemStep :=
  match bytes with
  | [] => .done
  | code :: rest =>
    if code.toNat = 0 ∨ 10 < code.toNat then .unknown
    else if code.toNat ≤ 5 then
      match rest with
      | a :: b :: rest => match twoFieldItem code a b with
        | some i => .item i rest
        | none => .unknown
      | _ => .truncated
    else if code.toNat = 6 then .item .cardOff rest
    else if code.toNat = 7 then
      match rest with
      | a :: b :: c :: rest =>
        if c.toNat = 0 then .item (.chargeAnswer (half a b).toNat false) rest
        else if c.toNat = 1 then .item (.chargeAnswer (half a b).toNat true) rest
        else .unknown
      | _ => .truncated
    else if code.toNat = 9 then .item .lever rest
    else
      match rest with
      | a :: rest => .item (if code.toNat = 8 then .key a.toNat else .fault a) rest
      | [] => .truncated

/-- R165: the walk. `none`: the reply is of bad length. Otherwise the items that stand and whether an unknown
item stopped the walk. The fuel is the number of bytes, and each item takes at least one. -/
def walkItems : Nat → List Byte → Option (List Item × Bool)
  | 0, _ => some ([], false)
  | n + 1, bytes => match nextItem bytes with
    | .done => some ([], false)
    | .unknown => some ([], true)
    | .truncated => none
    | .item i rest => (walkItems n rest).map fun p => (i :: p.1, p.2)

/-- The items of a payload (R165). -/
def readItems (payload : List Byte) : Option (List Item × Bool) := walkItems payload.length payload

/-- Which station takes an item (R165). -/
def Item.takenFrom (i : Item) (station : StationId) : Bool :=
  match i with
  | .coinSeen _ _ | .paid _ _ | .tubeSense _ _ => station.val = 0
  | .billSeen _ _ => station.val = 1
  | .cardOn _ | .cardOff | .chargeAnswer _ _ => station.val = 2
  | .key _ | .lever => station.val = 3
  | .fault _ => station.val < 4

/-! ### Judging a reply -/

/-- The judgement of a reply (R168): a usable REPLY with its payload, the items that stand and whether the walk
met an unknown item; a usable WAIT; or a miss, with whether it flags KIND_UNKNOWN. -/
inductive ReplyJudgement where
  | reply (payload : List Byte) (items : List Item) (unknown : Bool)
  | wait
  | miss (kindUnknown : Bool)
  deriving DecidableEq, Repr

/-- The payload test of R168 for a REPLY: two bytes to a JOIN, the walk of R165 for stations 1 to 4, anything
for stations 5 to 7. -/
def judgePayload (x : Exchange) (payload : List Byte) : ReplyJudgement :=
  if x.request.kind = .join then
    (if payload.length = 2 then .reply payload [] false else .miss false)
  else if 4 ≤ x.station.val then .reply payload [] false
  else match readItems payload with
    | none => .miss false
    | some (items, unknown) => .reply payload items unknown

/-- R168: judging a reply whose header is `h`. A kind other than REPLY and WAIT flags KIND_UNKNOWN whatever else the
reply holds (log 15). -/
def judgeFrame (x : Exchange) (h : Header) (rest : List Byte) : ReplyJudgement :=
  if h.h0 ≠ 0x90#8 ∧ h.h0 ≠ 0x91#8 then .miss true
  else if h.station = x.station.val + 1 ∧ h.spareClear ∧ h.direction ∧ h.turn = x.turn then
    if Config.payloadMax < h.length then .miss false
    else match splitPayload h.length rest with
      | none => .miss false
      | some (payload, good) =>
        if !good then .miss false
        else if h.h0 = 0x91#8 then (if payload.isEmpty then .wait else .miss false)
        else judgePayload x payload
  else .miss false

/-- R168: judging the bytes that came within the window. -/
def judgeReply (x : Exchange) (bytes : List Byte) : ReplyJudgement :=
  match afterSync bytes with
  | none => .miss false
  | some bs => match splitHeader bs with
    | none => .miss false
    | some (h, rest) => match judgeHeader h with
      | .uncorrectable => .miss false
      | .clean h => judgeFrame x h rest
      | .corrected h => judgeFrame x h rest

/-- R168: whether the bytes that came before a gap flag KIND_UNKNOWN: their header came whole and can be read, and names
a kind other than REPLY and WAIT (log 15). -/
def gapUnknown (x : Exchange) (bytes : List Byte) : Bool := decide (judgeReply x bytes = .miss true)

/-! ### Payloads of the service-link requests -/

def rawValues : List Byte → List RawValue
  | a :: b :: f :: rest => { value := half a b, flags := f } :: rawValues rest
  | _ => []

def rawTubes : List Byte → List RawTube
  | t :: c :: k :: f :: l :: rest =>
    { coinType := t, count := c, capacity := k, full := f, low := l } :: rawTubes rest
  | _ => []

def rawSelections : List Byte → List RawSelection
  | a :: b :: h :: c :: m :: rest =>
    { price := half a b, head := h, cursor := c, modes := m } :: rawSelections rest
  | _ => []

def rawColumns : List Byte → List RawColumn
  | z :: t :: c :: n :: rest => { stateZone := z, turns := t, count := c, next := n } :: rawColumns rest
  | _ => []

def rawBreakpoints : List Byte → List RawBreakpoint
  | a :: b :: c :: d :: rest => { code := half a b, temperature := half c d } :: rawBreakpoints rest
  | _ => []

def rawZones : List Byte → List RawZone
  | m :: a :: b :: d :: f :: c :: e :: l :: rest =>
    { mode := m, setpoint := half a b, differential := d, healthFlag := f, healthLimit := half c e,
      allowance := l } :: rawZones rest
  | _ => []

def rawSettings : List Byte → List RawSettings
  | c1 :: c2 :: t :: m :: b :: o1 :: o2 :: r1 :: r2 :: i :: h :: t1 :: t2 :: d1 :: d2 :: rest =>
    { creditMax := half c1 c2, columnTries := t, multiVend := m, budget := b, minOff := half o1 o2,
      minRun := half r1 r2, defrostInterval := i, heaterMax := h, termination := half t1 t2,
      drip := half d1 d2 } :: rawSettings rest
  | _ => []

/-- The record size of a table whose WRITE carries whole records (R177). -/
def recordSize : Nat → Option Nat
  | 0 => some 3
  | 1 => some 3
  | 2 => some 5
  | 3 => some 5
  | 4 => some 4
  | 6 => some 1
  | 7 => some 8
  | 8 => some 15
  | 9 => some 1
  | _ => none

/-- R177: whether a WRITE's payload has a size the table admits. -/
def writeSizeFits (payload : List Byte) : Bool :=
  match payload with
  | table :: _ :: c :: more =>
    if table.toNat = 5 then decide (more.length = 4 * c.toNat)
    else match recordSize table.toNat with
      | some n => decide ((more.length + 1) % n = 0)
      | none => true
  | _ => false

/-- R177: whether the payload is of the size the kind requires; a kind that is no request requires none. -/
def sizeFits (kind : Byte) (payload : List Byte) : Bool :=
  match kind.toNat with
  | 1 => payload.length = 3
  | 2 => writeSizeFits payload
  | 3 => payload.length = 1
  | 4 => payload.length = 1
  | 5 => payload.length = 3
  | 6 => payload.length = 0
  | 7 => payload.length = 1
  | 8 => payload.length = 2
  | 9 => payload.length = 1
  | 10 => payload.length = 1
  | 11 => payload.length = 0
  | 12 => payload.length = 1
  | 13 => payload.length = 0
  | 14 => decide (1 ≤ payload.length)
  | _ => true

/-- A request read from a frame: a command of the table, or a WRITE of a table that does not exist. -/
inductive ReadRequest where
  | command (i : Instr)
  | writeNoTable (h : ReqHeader)
  deriving DecidableEq, Repr

/-- R177: the WRITE a payload spells. -/
def readWrite (h : ReqHeader) (table index : Byte) (body : List Byte) : ReadRequest :=
  match table.toNat with
  | 0 => .command (.writeCoinTable h index (rawValues body))
  | 1 => .command (.writeBillTable h index (rawValues body))
  | 2 => .command (.writeTubeTable h index (rawTubes body))
  | 3 => .command (.writeSelectionTable h index (rawSelections body))
  | 4 => .command (.writeColumnTable h index (rawColumns body))
  | 5 => .command (.writeCalibrationTable h index (rawBreakpoints (body.drop 1)))
  | 6 => .command (.writeChannelTable h index body)
  | 7 => .command (.writeZoneTable h index (rawZones body))
  | 8 => .command (.writeSettings h index (rawSettings body))
  | 9 => .command (.writeRelayTable h index body)
  | _ => .writeNoTable h

/-- R163, R177: the request that a kind and a payload of the right size spell. -/
def readRequest (h : ReqHeader) (kind : Byte) (payload : List Byte) : Option ReadRequest :=
  match kind.toNat, payload with
  | 1, [t, f, c] => some (.command (.read h t f c))
  | 2, t :: i :: body => some (readWrite h t i body)
  | 3, [v] => some (.command (.mode h v))
  | 4, [v] => some (.command (.select h v))
  | 5, [a, b, y] => some (.command (.approve h (half a b) y))
  | 6, [] => some (.command (.lever h))
  | 7, [v] => some (.command (.testDrive h v))
  | 8, [t, c] => some (.command (.tubeOut h t c))
  | 9, [v] => some (.command (.fill h v))
  | 10, [z] => some (.command (.release h z))
  | 11, [] => some (.command (.defrost h))
  | 12, [p] => some (.command (.status h p))
  | 13, [] => some (.command (.restart h))
  | 14, k :: body => some (.command (.relay h k body))
  | _, _ => none

/-- What R178 makes of bytes on the service link: no frame (no sync byte yet), a frame discarded with the
condition, or a request; with whether the header was corrected. -/
inductive FrameJudgement where
  | nothing
  | discarded (corrected : Bool) (c : Condition)
  | request (r : ReadRequest)
  deriving DecidableEq, Repr

/-- R178, steps 2 to 6. `gap`: the bytes end in a gap, so the frame never completes. -/
def judgeRequest (gap corrected : Bool) (h : Header) (rest : List Byte) : FrameJudgement :=
  if hs : h.station < 8 then
    if !h.spareClear || h.direction then .discarded corrected .headerBad
    else if Config.payloadMax < h.length || gap then .discarded corrected .lengthBad
    else match splitPayload h.length rest with
      | none => .discarded corrected .lengthBad
      | some (payload, good) =>
        if !sizeFits h.h0 payload then .discarded corrected .lengthBad
        else if !good then .discarded corrected .crcBad
        else match readRequest { station := ⟨h.station, hs⟩, corrected := corrected } h.h0 payload with
          | some r => .request r
          | none => .discarded corrected .kindUnknown
  else .discarded corrected .stationInvalid

/-- R178, steps 1 to 6 (log 7, log 8). A frame whose header has not come whole is of bad length. -/
def judgeService (gap : Bool) (bytes : List Byte) : FrameJudgement :=
  match afterSync bytes with
  | none => .nothing
  | some bs => match splitHeader bs with
    | none => .discarded false .lengthBad
    | some (h, rest) => match judgeHeader h with
      | .uncorrectable => .discarded false .headerBad
      | .clean h => judgeRequest gap false h rest
      | .corrected h => judgeRequest gap true h rest

end Sys2Proof.Machine
end

