-- ==== Sys2Proof/Machine/Flags.lean ====
section
/-! DEFINITION. What the rules read off the state: the values the records imply, the judgements of sellability,
the reserve, and the part's outputs. -/

namespace Sys2Proof.Machine

/-! ### Stations -/

/-- Station 1. -/
def coinMech : StationId := 0
/-- Station 2. -/
def validator : StationId := 1
/-- Station 3. -/
def reader : StationId := 2
/-- Station 4. -/
def panel : StationId := 3

/-- Stations 1 to 7. -/
def allStations : List StationId := [0, 1, 2, 3, 4, 5, 6]
/-- Tubes 0 to 5. -/
def allTubes : List TubeId := [0, 1, 2, 3, 4, 5]
/-- Zones A, B, C. -/
def allZones : List ZoneId := [0, 1, 2]

/-- R166: the station's state is ACTIVE. -/
def State.active (s : State) (st : StationId) : Bool := s.line.stations[st].active

/-- R172: ACTIVE, and retry at is absent or past. -/
def Station.eligible (st : Station) (now : Nat) : Bool :=
  st.active && (match st.retryAt with
    | none => true
    | some t => decide (t ≤ now))

/-! ### Money -/

/-- R3: the value of a tube's coin type; 0 for an unusable tube. -/
def Tube.value (coins : Vector MoneyType 16) (t : Tube) : Nat :=
  match t.coinType with
  | none => 0
  | some c => coins[c].value

/-- R13: the escrow value. -/
def Escrow.value : Escrow → Nat
  | .empty => 0
  | .held _ v => v
  | .stackWait _ v _ => v
  | .stacking _ v _ => v
  | .returning _ _ => 0

/-- R13: escrow is full in HELD, STACK_WAIT and STACKING. -/
def Escrow.full : Escrow → Bool
  | .empty => false
  | .held _ _ => true
  | .stackWait _ _ _ => true
  | .stacking _ _ _ => true
  | .returning _ _ => false

/-- The escrow value, as the ledger reads it (R21). -/
def State.escrowValue (s : State) : Nat := s.cash.escrow.value

/-- Credit plus escrow value (R95, R110). -/
def State.funds (s : State) : Nat := s.ledger.credit + s.escrowValue

/-- R10: tube fill holds. -/
def State.fillOn (s : State) : Bool := decide (s.mode.effective = .service) && s.mode.fill

/-- R91: the sale unit is IDLE. -/
def State.saleIdle (s : State) : Bool := s.sale.current.isNone

/-- R43: the payout unit is IDLE. -/
def State.payIdle (s : State) : Bool := decide (s.payout.phase = .idle)

/-! ### Report queue, reply slot -/

/-- The free entries of the report queue (R191). -/
def State.freeReports (s : State) : Nat := Config.reportMax - s.port.reports.length

/-- R191: the reserve is open while more than 12 entries are free. -/
def State.reserveOpen (s : State) : Bool := decide (Config.reserveFree < s.freeReports)

/-- R181: ATTENTION. -/
def State.attention (s : State) : Bool := s.port.slot.isSome || !s.port.reports.isEmpty

/-- R159, R181: the bytes of the frame the transmitter is sending. -/
def State.sentBytes (s : State) : Option (List Byte) := s.port.sending.map OutFrame.wire

/-! ### Modes -/

/-- R184: the effective mode. -/
def deriveMode (requested : Mode) (door : Door) : Mode :=
  match requested, door with
  | .setup, _ => .setup
  | .service, _ => .service
  | .vend, .opened => .service
  | .vend, .closed => .vend

/-! ### Columns and selections -/

/-- R63: the health states whose zones may sell. -/
def HealthState.sells : HealthState → Bool
  | .none => true
  | .normal => true
  | .warning => true
  | .proving => false
  | .held => false

/-- R63, for a column record. -/
def SelMap.recordSells (m : SelMap) (c : Column) : Bool :=
  decide (c.state = .available) && (m.zoneHealth[c.zone]).sells

/-- R63: the column is sellable. -/
def SelMap.columnSells (m : SelMap) (c : ColumnId) : Bool := m.recordSells m.columns[c]

/-- The chain from a link, at most `n` columns (R58 bounds a chain at 64). -/
def chainFrom (cols : Vector Column 64) : Nat → Option ColumnId → List ColumnId
  | 0, _ => []
  | _, none => []
  | n + 1, some c => c :: chainFrom cols n cols[c].next

/-- The list of a selection record. -/
def SelMap.chain (m : SelMap) (sel : Selection) : List ColumnId := chainFrom m.columns 64 sel.head

/-- The list of a selection (section 4.3). -/
def SelMap.list (m : SelMap) (s : SelectionId) : List ColumnId := m.chain m.selections[s]

/-- R64, for a selection record. -/
def SelMap.selSells (m : SelMap) (sel : Selection) : Bool :=
  decide (0 < sel.price) && (m.chain sel).any m.columnSells

/-- R64: the selection is sellable. -/
def SelMap.selectionSells (m : SelMap) (s : SelectionId) : Bool := m.selSells m.selections[s]

/-- The lower of two prices, `none` standing for no price. -/
def lowerPrice (a : Option Nat) (b : Nat) : Option Nat :=
  match a with
  | none => some b
  | some x => some (min x b)

/-- R64: the lowest price among the sellable selections. -/
def SelMap.lowest (m : SelMap) : Option Nat :=
  m.selections.toList.foldl (fun a sel => if m.selSells sel then lowerPrice a sel.price else a) none

/-! ### Health -/

/-- R148: the health state of a record. -/
def Health.state : Health → HealthState
  | .none => .none
  | .proving => .proving
  | .normal => .normal
  | .warning _ => .warning
  | .held _ => .held

/-- The channel of a zone's letter (R133). -/
def zoneChannel (z : ZoneId) : ChannelId := ⟨z.val, by omega⟩

/-! ### Load units -/

/-- R115: granted. -/
def Load.granted (l : Load) : Nat := (l.grants.map Grant.units).sum

/-- R116: requests of class COOLING. -/
def Requester.cooling : Requester → Bool
  | .compressor => true
  | .heater => true
  | .spiral => false
  | .testDrive => false
  | .payout => false
  | .stacking => false

/-- R116: units asked. -/
def Requester.units : Requester → Nat
  | .spiral => Config.spiralUnits
  | .testDrive => Config.spiralUnits
  | .payout => Config.singleUnit
  | .stacking => Config.singleUnit
  | .compressor => Config.compressorUnits
  | .heater => Config.heaterUnits

/-- The requester of a cooling load (R116). -/
def coolingRequester : CoolingLoad → Requester
  | .compressor => .compressor
  | .heater => .heater

/-! ### Cooling outputs (R136) -/

/-- R136: the compressor output. -/
def PlantPhase.compressorOn : PlantPhase → Bool
  | .starting => true
  | .running => true
  | .lockout => false
  | .ready => false
  | .startWait => false
  | .heatWait => false
  | .heating => false
  | .drip => false

/-- R136: the defrost heater output. -/
def PlantPhase.heaterOn (p : PlantPhase) : Bool := decide (p = .heating)

/-- R136: the evaporator fan. -/
def PlantPhase.fanOn (p : PlantPhase) : Bool := !decide (p = .heating ∨ p = .drip)

/-- R136: a zone's damper is open. -/
def Cooling.damperOpen (c : Cooling) (z : ZoneId) : Bool :=
  decide (c.zones[z].demand = .demand) && c.plant.phase.compressorOn

/-- R138: some CHILL zone is in DEMAND. -/
def Cooling.anyDemand (c : Cooling) : Bool :=
  allZones.any fun z => decide (c.zones[z].mode = .chill) && decide (c.zones[z].demand = .demand)

/-! ### Motor matrix (R71) -/

/-- R71: the row and line driven or selected. -/
def Drive.selection (d : Drive) : Option (Nat × Nat) :=
  d.attempt.map fun a => (a.column.val / 8, a.column.val % 8)

/-- R71: the column whose motor is energised. -/
def Drive.energised (d : Drive) : Option ColumnId :=
  match d.attempt with
  | none => none
  | some a => if a.motor then some a.column else none

/-! ### Line queue classes (R173) -/

/-- The classes of R173. -/
inductive FrameClass where
  | urgent
  | money
  | routine
  deriving DecidableEq, Repr

/-- R173: the class of a kind; JOIN and CALL never stand in the queue. -/
def LineKind.cls : LineKind → FrameClass
  | .admitSet => .urgent
  | .steer => .urgent
  | .pay => .money
  | .keepBill => .money
  | .giveBack => .money
  | .chargeAsk => .money
  | .chargeEnd => .money
  | .join => .routine
  | .call => .routine
  | .show => .routine
  | .relayed _ => .routine

/-- A relayed kind (R163). -/
def LineKind.isRelayed : LineKind → Bool
  | .relayed _ => true
  | .join => false
  | .call => false
  | .admitSet => false
  | .steer => false
  | .pay => false
  | .keepBill => false
  | .giveBack => false
  | .chargeAsk => false
  | .chargeEnd => false
  | .show => false

/-- A relay entry of the line queue (R173). -/
def QueueEntry.isRelay (e : QueueEntry) : Bool := e.request.kind.isRelayed

/-- The relay entries held. -/
def Line.relayCount (l : Line) : Nat := (l.queue.filter QueueEntry.isRelay).length

/-- The entries held of a class (R188). -/
def Line.classCount (l : Line) (c : FrameClass) : Nat :=
  (l.queue.filter fun e => decide (e.request.kind.cls = c)).length

end Sys2Proof.Machine
end

