-- ==== Sys2Proof/Machine/Planner.lean ====
section
/-! DEFINITION. The change planner (section 3.1): ranking, the greatest exact plan or the best underpaying plan,
and the PAY commands of a plan. Sets of reachable totals are numbers whose bit t says that total t is
reachable. -/

namespace Sys2Proof.Machine

/-- A usable tube as it enters a request (R39). -/
structure RankedTube where
  tube : TubeId
  value : Nat
  avail : Nat
  deriving DecidableEq, Repr

/-- R39: `a` ranks before `b`. -/
def RankedTube.before (a b : RankedTube) : Bool :=
  decide (b.value < a.value) || (decide (a.value = b.value) && decide (a.tube < b.tube))

/-- Putting a tube in its place among ranked tubes (R39). -/
def rankInsert (t : RankedTube) : List RankedTube → List RankedTube
  | [] => [t]
  | u :: us => if t.before u then t :: u :: us else u :: rankInsert t us

/-- R39: the usable tubes in ranked order, with the caller's available counts. -/
def rankTubes (cash : Cash) (avail : Tube → Nat) : List RankedTube :=
  allTubes.foldr (fun n l =>
    let t := cash.tubes[n]
    let v := t.value cash.coins
    if v = 0 then l else rankInsert { tube := n, value := v, avail := avail t } l) []

/-- The totals reachable by adding up to `k` coins of value `v` to the totals in `m`. -/
def spread (v : Nat) : Nat → Nat → Nat
  | 0, m => m
  | k + 1, m => m ||| (spread v k m <<< v)

/-- The totals up to `a` that the tubes of a list reach. -/
def reach (a : Nat) : List RankedTube → Nat
  | [] => 1
  | t :: ts => spread t.value (min t.avail (a / t.value)) (reach a ts) % 2 ^ (a + 1)

/-- The largest count up to `k` that leaves a remainder in `m`; 0 where none does. -/
def pickCount (v rest m : Nat) : Nat → Nat
  | 0 => 0
  | k + 1 => if m.testBit (rest - (k + 1) * v) then k + 1 else pickCount v rest m k

/-- R40: the greatest plan whose total is `rest`, tube by tube. -/
def planFor (rest : Nat) : List RankedTube → List Nat
  | [] => []
  | t :: ts =>
    let k := pickCount t.value rest (reach rest ts) (min t.avail (rest / t.value))
    k :: planFor (rest - k * t.value) ts

/-- A result of the planner (R41). -/
structure PlanResult where
  plan : List (RankedTube × Nat)
  total : Nat
  shortfall : Nat
  exact : Bool
  deriving DecidableEq, Repr

/-- The total of a plan (R39). -/
def planTotal (plan : List (RankedTube × Nat)) : Nat := (plan.map fun p => p.2 * p.1.value).sum

/-- R40, R41: M of R41 is the largest reachable total, and is the amount itself when an exact plan exists. -/
def makePlan (amount : Nat) (tubes : List RankedTube) : PlanResult :=
  let m := (reach amount tubes).log2
  let plan := tubes.zip (planFor m tubes)
  { plan := plan, total := planTotal plan, shortfall := amount - planTotal plan,
    exact := decide (amount = planTotal plan) }

/-- R39: the payout unit's available count. -/
def payoutAvail (t : Tube) : Nat := t.count

/-- R36, R39: the assurance test's available count. -/
def assuranceAvail (t : Tube) : Nat :=
  match t.trust with
  | .exact => t.count - t.low
  | .estimated => 0

/-- R42: `coins` coins of one tube as commands. -/
def splitCoins (tube : TubeId) (value coins : Nat) : List PayCmd :=
  List.replicate (coins / Config.payMax) { tube := tube, coins := Config.payMax, value := value } ++
    (if coins % Config.payMax = 0 then []
     else [{ tube := tube, coins := coins % Config.payMax, value := value }])

/-- R42: the commands of a plan. -/
def planCommands (plan : List (RankedTube × Nat)) : List PayCmd :=
  plan.flatMap fun p => splitCoins p.1.tube p.1.value p.2

end Sys2Proof.Machine
end

