-- ==== Sys2Proof/Machine/Ops.lean ====
section
/-! DEFINITION. The named operations the blocks share: the clock, the condition set, ANSWERs, the report queue,
the line queue, the credit ledger, routing and tube results, and panel messages. -/

namespace Sys2Proof.Machine

/-! ### Clock (log 1) -/

/-- The clock moves on to `t` and the run time of the compressor with it (R137); a past `t` changes nothing. -/
def State.advanceTo (s : State) (t : Nat) : State :=
  if t ≤ s.now then s
  else
    let p := s.cool.plant
    let run := if p.phase.compressorOn then p.runMs + (t - s.now) else p.runMs
    (s.setCool { s.cool with plant := { p with runMs := run } }).setNow t

/-! ### Condition set (R179) and ANSWERs (R180) -/

/-- R179: flagging a condition in the set. -/
def Conditions.flag (c : Conditions) : Condition → Conditions
  | .headerCorrected => { c with headerCorrected := true }
  | .headerBad => { c with headerBad := true }
  | .stationInvalid => { c with stationInvalid := true }
  | .lengthBad => { c with lengthBad := true }
  | .crcBad => { c with crcBad := true }
  | .kindUnknown => { c with kindUnknown := true }
  | .requestOverrun => { c with requestOverrun := true }
  | .statusLost => { c with statusLost := true }

/-- R179: flagging a condition. -/
def State.flag (s : State) (c : Condition) : State :=
  s.setPort { s.port with conditions := s.port.conditions.flag c }

/-- R180, R179: the ANSWER is placed with a copy of the condition set, and the set is emptied. -/
def State.answer (s : State) (kind : ReqKind) (code : ResultCode) (data : AnswerData) : State :=
  s.setPort { s.port with
    slot := some { kind := kind, code := code, conditions := s.port.conditions, data := data }
    conditions := Conditions.none }

/-! ### Report queue (R191, R192) -/

/-- Section 11.6: the audit reports. -/
def Report.isAudit : Report → Bool
  | .sale _ => true
  | .coinIn _ _ => true
  | .billIn _ => true
  | .payoutDone _ => true
  | .credit _ => false
  | .column _ => false
  | .zone _ => false
  | .temps _ => false
  | .station _ => false
  | .discarded _ => false
  | .mirror _ => false
  | .strayDrop _ => false
  | .modeNote _ => false
  | .testResult _ => false
  | .saleAsk _ => false

/-- A SALE_ASK (R98). -/
def Report.isSaleAsk : Report → Bool
  | .saleAsk _ => true
  | .sale _ => false
  | .coinIn _ _ => false
  | .billIn _ => false
  | .payoutDone _ => false
  | .credit _ => false
  | .column _ => false
  | .zone _ => false
  | .temps _ => false
  | .station _ => false
  | .discarded _ => false
  | .mirror _ => false
  | .strayDrop _ => false
  | .modeNote _ => false
  | .testResult _ => false

/-- R191: a report that room may be made of: a status report other than a SALE_ASK. -/
def Report.removable (r : Report) : Bool := !r.isAudit && !r.isSaleAsk

/-- The eight joining classes (R192). -/
inductive JoinClass where
  | coinIn (fill : Bool)
  | billIn
  | shortfall
  | limit
  | unasked
  | ending (manual : Bool)
  deriving DecidableEq, Repr

/-- R192: the joining class of a report. -/
def Report.joinClass : Report → Option JoinClass
  | .coinIn f _ => some (.coinIn f)
  | .billIn _ => some .billIn
  | .payoutDone r => match r.occasion with
    | .shortfall => some .shortfall
    | .limit => some .limit
    | .unasked => some .unasked
    | .ending => some (.ending r.manual)
  | .sale _ => none
  | .credit _ => none
  | .column _ => none
  | .zone _ => none
  | .temps _ => none
  | .station _ => none
  | .discarded _ => none
  | .mirror _ => none
  | .strayDrop _ => none
  | .modeNote _ => none
  | .testResult _ => none
  | .saleAsk _ => none

/-- R192: a sum of a joined report, modulo 2^32. -/
def joinAdd (a b : Nat) : Nat := (a + b) % 2 ^ 32

/-- R192: a count added to the counts of a COIN_IN. -/
def addCoinCount (l : List CoinCount) (c : CoinCount) : List CoinCount :=
  match l with
  | [] => [c]
  | d :: ds =>
    if d.coin = c.coin ∧ d.dest = c.dest then { d with count := joinAdd d.count c.count } :: ds
    else d :: addCoinCount ds c

/-- R192: a line added to the lines of a BILL_IN. -/
def addBillLine (l : List BillLine) (b : BillLine) : List BillLine :=
  match l with
  | [] => [b]
  | d :: ds =>
    if d.bill = b.bill ∧ d.state = b.state then
      { d with count := joinAdd d.count b.count, amount := joinAdd d.amount b.amount } :: ds
    else d :: addBillLine ds b

/-- R192: a tube entry added to the entries of a PAYOUT_DONE, with the ending of the newer. -/
def addTubeEntry (l : List TubeEntry) (e : TubeEntry) : List TubeEntry :=
  match l with
  | [] => [e]
  | d :: ds =>
    if d.tube = e.tube then
      { d with asked := joinAdd d.asked e.asked, paid := joinAdd d.paid e.paid, ending := e.ending } :: ds
    else d :: addTubeEntry ds e

/-- R192: two reports of one joining class become one. What the newer report adds to no part of the older stands at the
end, in the newer's order (log 55). -/
def joinReports (older newer : Report) : Report :=
  match older, newer with
  | .coinIn f a, .coinIn _ b => .coinIn f (b.foldl addCoinCount a)
  | .billIn a, .billIn b => .billIn (b.foldl addBillLine a)
  | .payoutDone a, .payoutDone b =>
    .payoutDone { a with paid := joinAdd a.paid b.paid, owed := joinAdd a.owed b.owed,
                         entries := b.entries.foldl addTubeEntry a.entries }
  | o, _ => o

/-- The oldest report of a class, and the list without it. -/
def takeClass (k : JoinClass) : List Report → Option (Report × List Report)
  | [] => none
  | r :: rs =>
    if r.joinClass = some k then some (r, rs)
    else (takeClass k rs).map fun p => (p.1, r :: p.2)

/-- R191: the two oldest reports of the class whose oldest stands oldest are joined at the place of the older. -/
def joinOldest : List Report → Option (List Report)
  | [] => none
  | r :: rs => match r.joinClass.bind fun k => takeClass k rs with
    | some (r2, rest) => some (joinReports r r2 :: rest)
    | none => (joinOldest rs).map (r :: ·)

/-- R191: the newest status report other than a SALE_ASK is removed. -/
def dropNewestStatus : List Report → Option (List Report)
  | [] => none
  | r :: rs => match dropNewestStatus rs with
    | some rs' => some (r :: rs')
    | none => if r.removable then some rs else none

/-- A report that joins as newest. -/
def State.pushReport (s : State) (r : Report) : State :=
  s.setPort { s.port with reports := s.port.reports ++ [r] }

/-- R191: a report that must join: room is made for it where the queue is full (log 27). -/
def State.mustJoin (s : State) (r : Report) : State :=
  if s.port.reports.length < Config.reportMax then s.pushReport r
  else match dropNewestStatus s.port.reports with
    | some rs => ((s.setPort { s.port with reports := rs }).pushReport r).flag .statusLost
    | none => match joinOldest s.port.reports with
      | some rs => (s.setPort { s.port with reports := rs }).pushReport r
      | none => s

/-- R191: admitting a report a block hands. The merging of R192 is `coinIn` below. -/
def State.report (s : State) (r : Report) : State :=
  if r.removable then (if s.reserveOpen then s.pushReport r else s.flag .statusLost)
  else s.mustJoin r

/-- R192: one coin added to counts; `none` where a count would pass 65535. -/
def mergeCoin (l : List CoinCount) (coin : CoinId) (dest : Route) : Option (List CoinCount) :=
  match l with
  | [] => some [{ coin := coin, dest := dest, count := 1 }]
  | d :: ds =>
    if d.coin = coin ∧ d.dest = dest then
      (if d.count < Config.coinInMax then some ({ d with count := d.count + 1 } :: ds) else none)
    else (mergeCoin ds coin dest).map (d :: ·)

/-- R192: one coin merged into the newest queued report, where that is a COIN_IN of the same fill mark. -/
def mergeNewest (fill : Bool) (coin : CoinId) (dest : Route) : List Report → Option (List Report)
  | [] => none
  | [.coinIn f counts] =>
    if f = fill then (mergeCoin counts coin dest).map fun c => [.coinIn f c] else none
  | [_] => none
  | r :: r2 :: rs => (mergeNewest fill coin dest (r2 :: rs)).map (r :: ·)

/-- R192: one coin counted in a COIN_IN (log 26). -/
def State.coinIn (s : State) (fill : Bool) (coin : CoinId) (dest : Route) : State :=
  match mergeNewest fill coin dest s.port.reports with
  | some rs => s.setPort { s.port with reports := rs }
  | none => s.report (.coinIn fill [{ coin := coin, dest := dest, count := 1 }])

/-- R192: a BILL_IN of one line. -/
def State.billIn (s : State) (bill : BillId) (state : BillInState) (amount : Nat) : State :=
  s.report (.billIn [{ bill := bill, state := state, count := 1, amount := amount }])

/-- R171: a STATION report with the station's fields as they stand. -/
def State.stationReport (s : State) (st : StationId) (cause : StationCause) (detail : StationDetail) : State :=
  let r := s.line.stations[st]
  s.report (.station { station := st, cause := cause, active := r.active, role := r.role, level := r.level,
                       detail := detail })

/-! ### Line queue (R173, R174) -/

def State.setQueue (s : State) (q : List QueueEntry) : State := s.setLine { s.line with queue := q }

def State.setStation (s : State) (st : StationId) (r : Station) : State :=
  s.setLine { s.line with stations := s.line.stations.set st r }

/-- R174: the unsent entries of a station whose kind is in the list are removed. -/
def State.removeFrames (s : State) (st : StationId) (kinds : List LineKind) : State :=
  s.setQueue (s.line.queue.filter fun e => !(decide (e.station = st) && kinds.contains e.request.kind))

/-- R173: whether a handed kind rewrites an unsent entry of the kind `old`. -/
def LineKind.rewrites (new old : LineKind) : Bool :=
  match new, old with
  | .admitSet, .admitSet => true
  | .steer, .steer => true
  | .show, .show => true
  | .keepBill, .keepBill => true
  | .keepBill, .giveBack => true
  | .giveBack, .keepBill => true
  | .giveBack, .giveBack => true
  | _, _ => false

/-- R173: the queue with the unsent entry that a frame rewrites rewritten in place; `none` where none stands. -/
def rewriteEntry (st : StationId) (r : LineRequest) : List QueueEntry → Option (List QueueEntry)
  | [] => none
  | e :: es =>
    if e.station = st ∧ r.kind.rewrites e.request.kind then some ({ e with request := r } :: es)
    else (rewriteEntry st r es).map (e :: ·)

/-- R173: the newest relay entry, and the queue without it. -/
def dropNewestRelay : List QueueEntry → Option (QueueEntry × List QueueEntry)
  | [] => none
  | e :: es => match dropNewestRelay es with
    | some p => some (p.1, e :: p.2)
    | none => if e.isRelay then some (e, es) else none

/-- R176: a DISCARDED report. -/
def State.discarded (s : State) (st : StationId) (r : LineRequest) (sent : Bool) (cause : DiscardCause) : State :=
  s.report (.discarded { station := st, relayNo := r.relayNo.getD 0, kind := r.kind, sent := sent, cause := cause })

/-- R173: a frame handed for an ACTIVE station that rewrites no entry; with whether it is queued. -/
def State.joinQueue (s : State) (st : StationId) (r : LineRequest) : State × Bool :=
  if s.line.queue.length < Config.lineQueueMax then
    (s.setQueue (s.line.queue ++ [{ station := st, request := r }]), true)
  else match dropNewestRelay s.line.queue with
    | some (old, q) =>
      ((s.setQueue (q ++ [{ station := st, request := r }])).discarded old.station old.request false .room, true)
    | none => (s.stationReport st .queueFull (.kind r.kind), false)

/-- R174: a CHARGE_END(failed) removes the unsent CHARGE_ASK. -/
def State.dropStaleAsk (s : State) (st : StationId) (r : LineRequest) : State :=
  if r = chargeEndRequest false then s.removeFrames st [.chargeAsk] else s

/-- R173: a frame handed by an owner; with whether it stands in the queue afterwards. A frame is not handed for a
station that is not ACTIVE. -/
def State.handFrame (s : State) (st : StationId) (r : LineRequest) : State × Bool :=
  if s.active st then
    let s := s.dropStaleAsk st r
    match rewriteEntry st r s.line.queue with
    | some q => (s.setQueue q, true)
    | none => s.joinQueue st r
  else (s, false)

/-- As `handFrame`, where the owner does not ask what became of the frame. -/
def State.hand (s : State) (st : StationId) (r : LineRequest) : State := (s.handFrame st r).1

/-- R110: handing the panel a message; the sale unit keeps it whether or not it is sent. -/
def State.show (s : State) (code : ShowCode) (amount : Nat) : State :=
  (s.setSale { s.sale with lastShow := (code, amount) }).hand panel (showRequest (code, amount))

/-! ### Credit ledger (R23 to R28) -/

/-- R23: the part of an addition to pending payout above 65535. -/
def Ledger.excess (l : Ledger) (x : Nat) : Nat := l.pending + x - Config.pendingMax

/-- R23: adding to pending payout; the part above 65535 is owed. -/
def Ledger.addPending (l : Ledger) (x : Nat) : Ledger :=
  { l with pending := min Config.pendingMax (l.pending + x)
           changeOwed := l.changeOwed + BitVec.ofNat 32 (l.excess x) }

/-- R24, R26: the part of an addition to credit above 9999. -/
def Ledger.over (l : Ledger) (v : Nat) : Nat := l.credit + v - Config.moneyMax

/-- R24. -/
def Ledger.deposit (l : Ledger) (v : Nat) : Ledger :=
  { l with cashIn := l.cashIn + BitVec.ofNat 32 v, credit := min Config.moneyMax (l.credit + v) }.addPending (l.over v)

/-- R25: take_hold is taken. -/
def Ledger.canHold (l : Ledger) (p : Nat) : Bool := decide (p ≤ l.credit) && decide (l.hold = 0)

/-- R25. -/
def Ledger.takeHold (l : Ledger) (p : Nat) : Ledger :=
  if l.canHold p then { l with credit := l.credit - p, hold := p } else l

/-- R26. -/
def Ledger.returnHold (l : Ledger) : Ledger :=
  { l with credit := min Config.moneyMax (l.credit + l.hold), hold := 0 }.addPending (l.over l.hold)

/-- R26. -/
def Ledger.settle (l : Ledger) : Ledger :=
  { l with settled := l.settled + BitVec.ofNat 32 l.hold, hold := 0 }

/-- R27. -/
def Ledger.releaseAll (l : Ledger) : Ledger := { l with credit := 0 }.addPending l.credit

/-- R28: a booking is limited to pending payout. -/
def Ledger.payBooked (l : Ledger) (x : Nat) : Ledger :=
  { l with changePaid := l.changePaid + BitVec.ofNat 32 (min x l.pending), pending := l.pending - x }

/-- R28. -/
def Ledger.owe (l : Ledger) (x : Nat) : Ledger :=
  { l with changeOwed := l.changeOwed + BitVec.ofNat 32 (min x l.pending), pending := l.pending - x }

/-- R23: the PAYOUT_DONE with occasion LIMIT, where an addition passed 65535. -/
def State.limitReport (s : State) (excess : Nat) : State :=
  if excess = 0 then s
  else s.report (.payoutDone { occasion := .limit, manual := false, paid := 0, owed := excess, entries := [] })

/-- R24 with the report of R23. -/
def State.deposit (s : State) (v : Nat) : State :=
  (s.setLedger (s.ledger.deposit v)).limitReport (s.ledger.excess (s.ledger.over v))

/-- R26 with the report of R23. -/
def State.returnHold (s : State) : State :=
  (s.setLedger s.ledger.returnHold).limitReport (s.ledger.excess (s.ledger.over s.ledger.hold))

/-- R27 with the report of R23. -/
def State.releaseAll (s : State) : State :=
  (s.setLedger s.ledger.releaseAll).limitReport (s.ledger.excess s.ledger.credit)

/-! ### Tubes and routing (R5, R12) -/

/-- R5: the decision for a coin type. -/
def routeFor (tubes : Vector Tube 6) (t : CoinId) : Route :=
  match allTubes.find? fun n => decide (tubes[n].coinType = some t) && decide (tubes[n].count < tubes[n].full) with
  | some n => .tube n
  | none => .cashbox

/-- R5: the sixteen decisions. -/
def routesFor (tubes : Vector Tube 6) : Vector Route 16 := Vector.ofFn fun t => routeFor tubes t

/-- R5, R6: the decisions are recomputed, and a change is handed on as a STEER. -/
def State.reroute (s : State) : State :=
  let r := routesFor s.cash.tubes
  if r = s.cash.routing then s
  else (s.setCash { s.cash with routing := r }).hand coinMech (steerRequest r)

def State.setTube (s : State) (n : TubeId) (t : Tube) : State :=
  s.setCash { s.cash with tubes := s.cash.tubes.set n t }

/-- R12: a full PAID of `k` coins. -/
def Tube.paidFull (t : Tube) (k : Nat) : Tube :=
  if t.count < k then { t with count := 0, trust := .estimated } else { t with count := t.count - k }

/-- R12: a short PAID. -/
def Tube.paidShort (t : Tube) : Tube := { t with count := 0, trust := .exact }

/-- R12: no PAID within the limit, or station 1 lost with the PAY outstanding. -/
def Tube.doubted (t : Tube) : Tube := { t with trust := .estimated }

/-- R7, R10: one coin of the tube's type. -/
def Tube.coinAdded (t : Tube) : Tube :=
  if t.count < t.capacity then { t with count := t.count + 1 } else { t with trust := .estimated }

/-- R11. -/
def Tube.sensed (t : Tube) : Sense → Tube
  | .empty => { t with count := 0, trust := .exact }
  | .full => if t.count < t.full then { t with count := t.full, trust := .estimated } else t
  | .normal => if t.count = 0 then { t with trust := .estimated } else t

/-- R12: a tube result, and the routing after it. -/
def State.tubeResult (s : State) (n : TubeId) (f : Tube → Tube) : State :=
  (s.setTube n (f s.cash.tubes[n])).reroute

end Sys2Proof.Machine
end

