-- ==== Sys2Proof/Machine/Jobs.lean ====
section
/-! DEFINITION. The inner steps of an event. What one block hands another inside an event is a `Job`; a block's
step answers the state and the jobs that follow it, oldest first (Machine/Cascade.lean runs them). -/

namespace Sys2Proof.Machine

/-- What reaches the load arbiter (R119). -/
inductive LoadOp where
  /-- R117. -/
  | ask (who : Requester)
  /-- R121. -/
  | release (who : Requester)
  /-- R121: the compressor's reduction to its running size. -/
  | reduce
  /-- R122. -/
  | withdraw (who : Requester)
  /-- R123. -/
  | promote (who : Requester)
  /-- R125. -/
  | recount
  deriving DecidableEq, Repr

/-- The causes of a sellability notice (R66). -/
inductive NoticeCause where
  | zone
  | state
  | removed
  deriving DecidableEq, Repr

/-- The inner steps. -/
inductive Job where
  /-- Something reaches the load arbiter. -/
  | load (op : LoadOp)
  /-- R120: a grant is handed. -/
  | give (who : Requester) (units : Nat)
  /-- R120: the end of a hand-on, with what was asked of the arbiter meanwhile. -/
  | handDone (ops : List LoadOp)
  /-- R23: the payout unit is told of pending payout above 0. -/
  | payTell
  /-- R7 to R10, the report. -/
  | coinReport (fill : Bool) (coin : CoinId) (dest : Route)
  /-- R16, steps 2 to 4. -/
  | billStacked (bill : BillId) (amount : Nat)
  /-- R16, step 4. -/
  | dropBillFrames
  /-- R15: the sale unit's stacking request. -/
  | stackAsk
  /-- R18: the end of an expiry in STACK_WAIT. -/
  | stackGaveUp
  /-- R18: steps 2 to 4 of an expiry in STACKING. -/
  | stackUncertain
  /-- R19: the effective mode has left VEND. -/
  | returnEscrow
  /-- R44, after the station check. -/
  | payPlan
  /-- R45. -/
  | payNext
  /-- R49, R50: the whole pending payout is owed and the operation ends. -/
  | payOweEnd
  /-- R51. -/
  | payEnd
  /-- R50. -/
  | payLost
  /-- R20. -/
  | escrowLost
  /-- R34: the loss of station 3. -/
  | cardGone
  /-- R97: the stacking's outcome. -/
  | stackOutcome (stacked : Bool)
  /-- R96, step 4: the panel message of an acceptance into STACKING. -/
  | showStacking
  /-- R96, step 4: the ANSWER to a SELECT. -/
  | soldAnswer (number : Nat) (source : Source)
  /-- R104. -/
  | saleTry
  /-- R107, steps 2 and 3. -/
  | saleDriven (column : ColumnId) (result : DriveResult) (turns : Nat) (stopMark : Bool)
  /-- R108: an outcome is set. -/
  | saleEnd (outcome : SaleOutcome)
  /-- R108, steps 2 to 6. -/
  | saleFinish (released : Nat)
  /-- R112: the flag is tested. -/
  | returnTest
  /-- R112. -/
  | returnAct
  /-- R66. -/
  | notice (column : ColumnId) (cause : NoticeCause)
  /-- R100, R103: the card record has closed. -/
  | cardLost
  /-- R88: TEST_RESULT of a test attempt. -/
  | testReport (column : ColumnId) (outcome : TestOutcome) (drop : DropField) (before : ColState)
  /-- R86, R89: TEST_RESULT of a test request that never ran. -/
  | testNever (column : ColumnId) (outcome : TestOutcome)
  /-- R89, R55: the effective mode has left SERVICE. -/
  | serviceLeft
  /-- R138 to R141: the compressor and defrost record acts. -/
  | coolAct
  /-- R138: LOCKOUT is judged against the last stop. -/
  | lockoutTest
  /-- R142: the termination temperature is tested. -/
  | heatTest
  /-- R145: heating ends where its timer's expiry is past. -/
  | heatPast
  /-- R145: DRIP ends where its timer's expiry is past. -/
  | dripTest
  /-- R149: the health monitor takes what a sample made; `cause` is the cooling controller's (R146). -/
  | healthSample (zone : ZoneId) (handed : Bool) (cause : Option ZoneCause)
  /-- R156, R158: the health records after a zone WRITE, with the cause of each written zone's ZONE report. -/
  | healthWrite (changes : List (ZoneId × Health × ZoneCause))
  /-- R146, R158: a ZONE report. -/
  | zoneReport (zone : ZoneId) (cause : ZoneCause)
  /-- R171. -/
  | leaveActive (station : StationId) (cause : StationCause)
  /-- R171, step 4. -/
  | stationGone (station : StationId) (cause : StationCause)
  /-- R166: RESTART reaches the line master. -/
  | lineRestart
  /-- R166, steps 2 and 3 of RESTART. -/
  | lineBreak
  /-- R189, step 2. -/
  | saleRestart
  /-- R189, step 3. -/
  | modeRestart
  /-- R110: the last message handed after RESTART. -/
  | showRestart
  /-- R186, steps 3 to 5. -/
  | modeTail (before : Mode) (cause : ModeCause)
  deriving DecidableEq, Repr

/-- What a block's step answers. -/
abbrev Out := State × List Job

/-- A step that hands nothing on. -/
def State.only (s : State) : Out := (s, [])

end Sys2Proof.Machine
end

