-- ==== Sys2Proof/Machine/Arbiter.lean ====
section
/-! DEFINITION. The load arbiter (chapter 7). -/

namespace Sys2Proof.Machine

/-- R117, R125: the units counted under a budget. -/
def countedUnits (budget asked : Nat) : Nat := min asked budget

/-- R118: the waiting requests in rank order. The request list is in the order of the times of request. -/
def Load.ranked (l : Load) : List LoadRequest :=
  (l.requests.filter fun r => r.requester.cooling && r.promoted) ++
    (l.requests.filter fun r => !r.requester.cooling) ++
    (l.requests.filter fun r => r.requester.cooling && !r.promoted)

/-- R119: a pass looks at the ranked requests in turn and ends at the first that does not fit; the grants made,
in order, for `free` units. -/
def passGrants : Nat → List LoadRequest → List Grant
  | _, [] => []
  | free, r :: rs =>
    if r.counted ≤ free then { holder := r.requester, units := r.counted } :: passGrants (free - r.counted) rs
    else []

/-- R119: the grants a pass makes. -/
def Load.passMakes (l : Load) : List Grant := passGrants (l.budget - l.granted) l.ranked

/-- R119: the record after a pass. -/
def Load.pass (l : Load) : Load :=
  let gs := l.passMakes
  { l with grants := l.grants ++ gs
           requests := l.requests.filter fun r => !(gs.map Grant.holder).contains r.requester }

/-- R120: the hand-on of a pass's grants. -/
def handOn (gs : List Grant) : List Job :=
  if gs.isEmpty then [] else (gs.map fun g => .give g.holder g.units) ++ [.handDone []]

/-- R119: a pass, and the hand-on of what it grants. -/
def State.makePass (s : State) : Out := (s.setLoad s.load.pass, handOn s.load.passMakes)

/-- The requester has an entry in either list. -/
def Load.listed (l : Load) (who : Requester) : Bool :=
  (l.grants.any fun g => decide (g.holder = who)) || (l.requests.any fun r => decide (r.requester = who))

/-- R117: the record with a new request at its end. -/
def Load.asked (l : Load) (who : Requester) (now : Nat) : Load :=
  { l with requests := l.requests ++ [{ requester := who, asked := who.units,
                                        counted := countedUnits l.budget who.units, time := now,
                                        promoted := false }] }

/-- R121. -/
def Load.released (l : Load) (who : Requester) : Load :=
  { l with grants := l.grants.filter fun g => !decide (g.holder = who) }

/-- R121: the compressor's grant lowered to its running size. -/
def Load.reduced (l : Load) : Load :=
  { l with grants := l.grants.map fun g =>
      if g.holder = .compressor then { g with units := min g.units Config.runningUnits } else g }

/-- R122. -/
def Load.withdrawn (l : Load) (who : Requester) : Load :=
  { l with requests := l.requests.filter fun r => !decide (r.requester = who) }

/-- R123. -/
def Load.promoted (l : Load) (who : Requester) : Load :=
  { l with requests := l.requests.map fun r => if r.requester = who then { r with promoted := true } else r }

/-- R125, step 1. -/
def Load.recounted (l : Load) : Load :=
  { l with requests := l.requests.map fun r => { r with counted := countedUnits l.budget r.asked } }

/-- R117, R121 to R125. What gives nothing back and withdraws nothing makes no pass. -/
def loadStep (op : LoadOp) (s : State) : Out :=
  let l := s.load
  match op with
  | .ask who => if l.listed who then s.only else (s.setLoad (l.asked who s.now)).makePass
  | .release who =>
    if l.grants.any fun g => decide (g.holder = who) then (s.setLoad (l.released who)).makePass else s.only
  | .reduce => if l.reduced = l then s.only else (s.setLoad l.reduced).makePass
  | .withdraw who =>
    if l.requests.any fun r => decide (r.requester = who) then (s.setLoad (l.withdrawn who)).makePass else s.only
  | .promote who => (s.setLoad (l.promoted who)).makePass
  | .recount => (s.setLoad l.recounted).makePass

end Sys2Proof.Machine
end

