-- ==== Sys2Proof/Machine/Cash.lean ====
section
/-! DEFINITION. The cash unit (chapters 1 and 2): coin and bill items, the escrow record, the card record, and the
acceptance set. -/

namespace Sys2Proof.Machine

/-! ### Acceptance set (R35 to R38) -/

/-- Flags as a number, flag 0 in bit 0. -/
def packBits : List Bool → Nat
  | [] => 0
  | b :: bs => (if b then 1 else 0) + 2 * packBits bs

/-- R36: the assurance amount, 0 where credit, escrow and the value do not pass P_min. -/
def assuranceAmount (s : State) (pMin value : Nat) : Nat := s.funds + value - pMin

/-- R36: the assurance test. -/
def assured (s : State) (pMin value : Nat) : Bool :=
  decide (assuranceAmount s pMin value = 0) ||
    (makePlan (assuranceAmount s pMin value) (rankTubes s.cash assuranceAvail)).exact

/-- R35: a type is enabled while the set is open. -/
def typeEnabled (s : State) (pMin : Nat) (m : MoneyType) : Bool :=
  m.accept && decide (m.value ≠ 0) && (!m.assured || assured s pMin m.value)

/-- R5: the decision is a tube. -/
def Route.isTube : Route → Bool
  | .tube _ => true
  | .cashbox => false

/-- R35: the set while open in VEND. -/
def openSet (s : State) (pMin : Nat) : AdmitSet where
  coins := BitVec.ofNat 16 (packBits (s.cash.coins.toList.map (typeEnabled s pMin)))
  bills := BitVec.ofNat 8 (packBits (s.cash.bills.toList.map (typeEnabled s pMin)))
  reader := if s.ledger.credit = 0 ∧ s.cash.escrow.full = false then some pMin else none

/-- R35: the set in tube fill. -/
def fillSet (s : State) : AdmitSet where
  coins := BitVec.ofNat 16 (packBits (s.cash.routing.toList.map Route.isTube))
  bills := 0
  reader := none

/-- R35. -/
def acceptSet (s : State) : AdmitSet :=
  match s.mode.effective with
  | .setup => .closed
  | .service => if s.mode.fill then fillSet s else .closed
  | .vend =>
    match s.map.pMin with
    | none => .closed
    | some p => if !s.reserveOpen || decide (s.settings.creditMax ≤ s.ledger.credit) then .closed else openSet s p

/-- R38: the part of `new` for a station put in place of the part last handed. -/
def AdmitSet.withPart (old new : AdmitSet) (st : StationId) : AdmitSet :=
  match st.val with
  | 0 => { old with coins := new.coins }
  | 1 => { old with bills := new.bills }
  | 2 => { old with reader := new.reader }
  | _ => old

/-- R38: a station's part is handed on where it differs from the part last handed. -/
def State.handPart (s : State) (st : StationId) : State :=
  if s.active st ∧ s.cash.acceptance.part st ≠ s.cash.handed.part st then
    (s.setCash { s.cash with handed := s.cash.handed.withPart s.cash.acceptance st }).hand st
      (admitRequest s.cash.acceptance st)
  else s

/-- R37, R38: the set is recomputed, and the changed parts are handed on, station 1 before 2 before 3 (log 6). -/
def State.recomputeSet (s : State) : State :=
  let s := s.setCash { s.cash with acceptance := acceptSet s }
  ((s.handPart coinMech).handPart validator).handPart reader

/-- R37, with the crossing of the reserve that the handing itself may make (log 6). -/
def State.refreshSet (s : State) : State := s.recomputeSet.recomputeSet

/-! ### Coins (R7 to R11) -/

/-- R7, R8, R10: a coin is money outside tube fill and where its type has a value. -/
def State.coinMoney (s : State) (value : Nat) : Out :=
  if s.fillOn ∨ value = 0 then s.only else (s.deposit value, [.payTell])

/-- R9: a coin type of value 0 is a station fault. -/
def State.coinValueFault (s : State) (value : Nat) (item : Item) : State :=
  if value = 0 then s.stationReport coinMech .coinNoValue (.item item) else s

/-- R7 to R10: COIN_SEEN. A REJECTED coin makes no report, of value 0 too (log 56). -/
def coinSeen (coin : CoinId) (dest : CoinDest) (s : State) : Out :=
  let item := Item.coinSeen coin dest
  let v := s.cash.coins[coin].value
  match dest with
  | .rejected => s.only
  | .cashbox =>
    let o := (s.coinValueFault v item).coinMoney v
    (o.1, o.2 ++ [.coinReport s.fillOn coin .cashbox])
  | .tube n =>
    if h : n.val < 6 then
      let n' : TubeId := ⟨n.val, h⟩
      let t := s.cash.tubes[n']
      if t.coinType = some coin then
        let o := ((s.coinValueFault v item).tubeResult n' Tube.coinAdded).coinMoney v
        (o.1, o.2 ++ [.coinReport s.fillOn coin (.tube n')])
      else
        let s1 := (s.stationReport coinMech .coinWrongTube (.item item)).coinValueFault v item
        let o := (s1.setTube n' t.doubted).coinMoney v
        (o.1, o.2 ++ [.coinReport s.fillOn coin (.tube n')])
    else
      let s1 := (s.stationReport coinMech .coinNoTube (.item item)).coinValueFault v item
      let o := s1.coinMoney v
      (o.1, o.2 ++ [.coinReport s.fillOn coin .cashbox])

/-- R11: TUBE_SENSE. -/
def tubeSense (n : Fin 64) (sense : Sense) (s : State) : Out :=
  if h : n.val < 6 then (s.tubeResult ⟨n.val, h⟩ fun t => t.sensed sense).only
  else (s.stationReport coinMech .senseNoTube (.item (.tubeSense n sense))).only

/-! ### Escrow (R13 to R20) -/

def State.setEscrow (s : State) (e : Escrow) : State := s.setCash { s.cash with escrow := e }

/-- R14, R18, R19: GIVE_BACK is handed and escrow goes to RETURNING; with station 2 away R20 applies instead
(log 37). -/
def State.giveBack (s : State) (bill : BillId) (value : Nat) : State :=
  if s.active validator then (s.hand validator (.plain .giveBack)).setEscrow (.returning bill value)
  else s.setEscrow .empty

/-- R14: the three tests of admission. -/
def billAdmitted (s : State) (value : Nat) : Bool :=
  decide (s.mode.effective = .vend) && decide (value ≠ 0) &&
    decide (s.ledger.credit + value ≤ s.settings.creditMax)

/-- R14: ESCROWED. -/
def billEscrowed (b : BillId) (s : State) : Out :=
  match s.cash.escrow with
  | .empty =>
    let v := s.cash.bills[b].value
    if billAdmitted s v then (s.setEscrow (.held b v)).only else (s.giveBack b v).only
  | _ => (s.stationReport validator .secondBill (.item (.billSeen b .escrowed))).only

/-- R15: the sale unit's stacking request. -/
def stackAsk (s : State) : Out :=
  match s.cash.escrow with
  | .held b v => (s.setEscrow (.stackWait b v (s.now + Config.stackingLimit)), [.load (.ask .stacking)])
  | _ => (s, [.stackOutcome false])

/-- R15: the stacking unit is granted. A requester that no longer waits gives it back (log 33). -/
def stackGiven (s : State) : Out :=
  match s.cash.escrow with
  | .stackWait b v lim => ((s.hand validator (.plain .keepBill)).setEscrow (.stacking b v lim)).only
  | _ => (s, [.load (.release .stacking)])

/-- R16: the amount of a STACKED. -/
def stackedAmount (s : State) (b : BillId) : Nat :=
  match s.cash.escrow with
  | .held c v => if c = b then v else s.cash.bills[b].value
  | .stackWait c v _ => if c = b then v else s.cash.bills[b].value
  | .stacking c v _ => if c = b then v else s.cash.bills[b].value
  | _ => s.cash.bills[b].value

/-- R16: STACKED, the amount and its deposit. The STATION report of an amount of 0 stands before the BILL_IN
(log 23). -/
def billStackedItem (b : BillId) (s : State) : Out :=
  let v := stackedAmount s b
  if v = 0 then
    (s.stationReport validator .stackedNoValue (.item (.billSeen b .stacked)), [.billStacked b v])
  else (s.deposit v, [.payTell, .billStacked b v])

/-- R16, steps 2 and 3. -/
def billStackedTail (b : BillId) (amount : Nat) (s : State) : Out :=
  let s1 := (s.billIn b .stacked amount).setEscrow .empty
  match s.cash.escrow with
  | .stacking _ _ _ => (s1, [.load (.release .stacking), .stackOutcome true, .dropBillFrames])
  | .stackWait _ _ _ => (s1, [.load (.withdraw .stacking), .stackOutcome true, .dropBillFrames])
  | _ => (s1, [.dropBillFrames])

/-- R16, R17: an unsent KEEP_BILL or GIVE_BACK is removed (R174). -/
def State.dropBillFrames (s : State) : State := s.removeFrames validator [.keepBill, .giveBack]

/-- R17: RETURNED. -/
def billReturned (s : State) : Out :=
  let s1 := s.dropBillFrames.setEscrow .empty
  match s.cash.escrow with
  | .stackWait _ _ _ => (s1, [.load (.withdraw .stacking), .stackOutcome false])
  | .stacking _ _ _ => (s1, [.load (.release .stacking), .stackOutcome false])
  | _ => s1.only

/-- R14, R16, R17: BILL_SEEN. -/
def billSeen (b : BillId) (e : BillEvent) (s : State) : Out :=
  match e with
  | .escrowed => billEscrowed b s
  | .stacked => billStackedItem b s
  | .returned => billReturned s
  | .rejected => s.only

/-- R18: the end of an expiry in STACK_WAIT (log 23). -/
def stackGaveUp (s : State) : Out :=
  match s.cash.escrow with
  | .stackWait b v _ =>
    (if s.mode.effective = .vend then s.setEscrow (.held b v) else s.giveBack b v, [.stackOutcome false])
  | _ => s.only

/-- R18: steps 2 to 4 of an expiry in STACKING. -/
def stackUncertain (s : State) : Out :=
  match s.cash.escrow with
  | .stacking b v _ => ((s.setEscrow .empty).billIn b .uncertain v, [.stackOutcome false])
  | _ => s.only

/-- R19: the return of the escrowed bill. -/
def State.returnEscrow (s : State) : State :=
  match s.cash.escrow with
  | .held b v => s.giveBack b v
  | _ => s

/-- R20: the loss of station 2. -/
def escrowLost (s : State) : Out :=
  match s.cash.escrow with
  | .empty => s.only
  | .held _ _ => (s.setEscrow .empty).only
  | .returning _ _ => (s.setEscrow .empty).only
  | .stackWait _ _ _ => (s.setEscrow .empty, [.load (.withdraw .stacking), .stackOutcome false])
  | .stacking _ _ _ => (s, [.load (.release .stacking), .stackUncertain])

/-! ### Card record (R33, R34) -/

/-- R33: CARD_ON; funds above 9999 are taken as 9999. -/
def cardOn (funds : Option Nat) (s : State) : Out :=
  (s.setCard (.present (funds.map fun f => min f Config.moneyMax))).only

/-- R33, R34: the record closes, and the sale unit is then told. -/
def cardClose (s : State) : Out :=
  match s.card with
  | .absent => s.only
  | .present _ => (s.setCard .absent, [.cardLost])

/-- R34: CHARGE_END(done) queued for a sale of price `p`. -/
def Card.charged (c : Card) (p : Nat) : Card :=
  match c with
  | .absent => .absent
  | .present none => .present none
  | .present (some f) => .present (some (f - p))

end Sys2Proof.Machine
end

