-- ==== Sys2Proof/Machine/LineMaster.lean ====
section
/-! DEFINITION. The line master (sections 10.3 to 10.7): slots, replies, joins, losses and mirrors. -/

namespace Sys2Proof.Machine

/-! ### Slots (R172) -/

/-- R168, R170: a request is sent with the station's turn bit and is outstanding from then on; a JOIN never is. -/
def State.send (s : State) (st : StationId) (r : LineRequest) : State :=
  let rec0 := s.line.stations[st]
  let x : Exchange := { station := st, request := r, turn := rec0.turn, wire := r.wire st rec0.turn
                        windowEnd := s.now + Config.replyWindow }
  let s1 := if r.kind = .join then s else s.setStation st { rec0 with outstanding := some r }
  s1.setLine { s1.line with phase := .exchange x }

/-- R172: the ABSENT station whose probe is due, the lowest-numbered first. -/
def State.dueProbe (s : State) : Option StationId :=
  allStations.find? fun st =>
    let r := s.line.stations[st]
    !r.active && (match r.probeAt with
      | some t => decide (t ≤ s.now)
      | none => false)

/-- R172: the first eligible station after last polled. -/
def State.nextPolled (s : State) : Option StationId :=
  (allStations.map fun k => s.line.lastPolled + 1 + k).find? fun st => (s.line.stations[st]).eligible s.now

/-- R172: a poll slot. -/
def State.pollSlot (s : State) : State :=
  let s1 := s.setLine { s.line with nextSlot := .command }
  match s1.dueProbe with
  | some st => s1.send st (.plain .join)
  | none =>
    match s1.nextPolled with
    | some st =>
      (s1.setLine { s1.line with lastPolled := st }).send st
        ((s1.line.stations[st]).outstanding.getD (.plain .call))
    | none => s1.setLine { s1.line with phase := .idle }

/-- R172: the entry may be sent: its station is eligible and has no outstanding request. -/
def State.sendable (s : State) (e : QueueEntry) : Bool :=
  (s.line.stations[e.station]).eligible s.now && (s.line.stations[e.station]).outstanding.isNone

/-- The oldest entry that passes a test, and the queue without it. -/
def takeEntry (p : QueueEntry → Bool) : List QueueEntry → Option (QueueEntry × List QueueEntry)
  | [] => none
  | e :: es => if p e then some (e, es) else (takeEntry p es).map fun q => (q.1, e :: q.2)

/-- R172: the entry a command slot sends. -/
def State.commandEntry (s : State) : Option (QueueEntry × List QueueEntry) :=
  let ofClass (c : FrameClass) := takeEntry (fun e => decide (e.request.kind.cls = c) && s.sendable e) s.line.queue
  ((ofClass .urgent).or (ofClass .money)).or (ofClass .routine)

/-- R172: a slot begins when the line is IDLE and no RESTART waits. -/
def State.beginSlot (s : State) : State :=
  if s.line.phase = .idle ∧ s.line.restartDue = false then
    match s.line.nextSlot with
    | .poll => s.pollSlot
    | .command =>
      match s.commandEntry with
      | some p => ((s.setLine { s.line with queue := p.2, nextSlot := .poll }).send p.1.station p.1.request)
      | none => s.pollSlot
  else s

/-! ### Leaving ACTIVE (R171) and RESTART (R166) -/

/-- R171, step 1. -/
def Station.gone (r : Station) (now : Nat) : Station :=
  { r with active := false, misses := 0, outstanding := none, waitSince := none, retryAt := none
           probeAt := some (now + Config.probeAfter) }

/-- R176: the cause of a DISCARDED when a station leaves ACTIVE. -/
def discardCause (cause : StationCause) : DiscardCause := if cause = .restart then .restart else .stationLost

/-- R171, step 3. -/
def ownersTold (st : StationId) : List Job :=
  match st.val with
  | 0 => [.payLost]
  | 1 => [.escrowLost]
  | 2 => [.cardGone]
  | _ => []

/-- R171: a station leaves ACTIVE (log 31). -/
def leaveActive (st : StationId) (cause : StationCause) (s : State) : Out :=
  let r := s.line.stations[st]
  let s1 := (s.setStation st (r.gone s.now)).setQueue (s.line.queue.filter fun e => !decide (e.station = st))
  let lost := s.line.queue.filter fun e => decide (e.station = st) && e.isRelay
  let s2 := lost.foldl (fun s e => s.discarded st e.request false (discardCause cause)) s1
  let s3 := match r.outstanding with
    | some q => if q.kind.isRelayed then s2.discarded st q true (discardCause cause) else s2
    | none => s2
  (s3, ownersTold st ++ [.stationGone st cause])

/-- R166: a station at its power-on values but for the relay rule. -/
def Station.restarted (r : Station) (probe : Nat) : Station :=
  { Station.powerOn probe with downAllowed := r.downAllowed, upMirror := r.upMirror }

/-- R166: the ACTIVE stations leave, in ascending order (log 31), and the break is held. -/
def restartJobs (s : State) : List Job :=
  ((allStations.filter fun st => s.active st).map fun st => .leaveActive st .restart) ++ [.lineBreak]

/-- R166: RESTART reaches the line master: at once, or when the exchange in progress ends. -/
def lineRestart (s : State) : Out :=
  match s.line.phase with
  | .exchange _ => (s.setLine { s.line with restartDue := true }).only
  | _ => (s, restartJobs s)

/-- R166, steps 2 and 3 of RESTART. -/
def State.holdBreak (s : State) : State :=
  let ends := s.now + Config.lineBreak
  s.setLine { s.line with
    stations := Vector.ofFn fun i => (s.line.stations[i]).restarted ends
    phase := .lineBreak ends
    nextSlot := .poll
    lastPolled := 6
    restartDue := false }

/-- R168, R166: the exchange ends; a RESTART that waited is taken now. -/
def endExchange (s : State) : Out :=
  let s1 := s.setLine { s.line with phase := .idle, restartDue := false }
  if s.line.restartDue then (s1, [.lineRestart]) else s1.only

/-! ### Replies (R167 to R170) -/

/-- R167: the right role for a station. -/
def rightRole (st : StationId) (role : Byte) : Bool := decide (4 ≤ st.val) || decide (role.toNat = st.val + 1)

/-- R167: the next probe falls due 2 s later. -/
def State.probeLater (s : State) (st : StationId) : State :=
  s.setStation st { s.line.stations[st] with probeAt := some (s.now + Config.probeAfter) }

/-- R167: the record of a station that joins. -/
def Station.joined (r : Station) (role level : Byte) : Station :=
  { r with active := true, role := some role, level := some level, turn := false, misses := 0
           outstanding := none, waitSince := none, retryAt := none, probeAt := none, lastWrongRole := none }

/-- R167: the station's first frames. -/
def State.firstFrames (s : State) (st : StationId) : State :=
  let admitted := (s.setCash { s.cash with handed := s.cash.handed.withPart s.cash.acceptance st }).hand st
    (admitRequest s.cash.acceptance st)
  match st.val with
  | 0 => admitted.hand st (steerRequest s.cash.routing)
  | 1 => admitted
  | 2 => admitted
  | 3 => s.hand st (showRequest s.sale.lastShow)
  | _ => s

/-- R167: a good REPLY to a JOIN (log 43). The role is tested before the level (log 54). -/
def joinReply (st : StationId) (role level : Byte) (s : State) : State :=
  let r := s.line.stations[st]
  if rightRole st role then
    if level = 0#8 then s.probeLater st
    else
      let s1 := (s.setStation st (r.joined role level)).stationReport st .joined .none
      s1.firstFrames st
  else
    let s1 := s.probeLater st
    if r.lastWrongRole = some role then s1
    else
      (s1.setStation st { s1.line.stations[st] with lastWrongRole := some role }).stationReport st .roleWrong
        (.role role)

/-- R176: the payload of a MIRROR and its cut mark (log 13). -/
def mirrorCut (payload : List Byte) : List Byte × Bool :=
  if payload.length ≤ Config.mirrorRoom then (payload, false)
  else
    let room := Config.mirrorRoom + Config.mirrorSpare.val
    (payload.take room, decide (room < payload.length))

/-- R176: the MIRROR of a usable REPLY. -/
def State.mirror (s : State) (x : Exchange) (payload : List Byte) : State :=
  let report (no : Nat) := s.report (.mirror { station := x.station, relayNo := no, kind := x.request.kind
                                               payload := (mirrorCut payload).1, cut := (mirrorCut payload).2 })
  if x.request.kind.isRelayed then report (x.request.relayNo.getD 0)
  else if (s.line.stations[x.station]).upMirror ∧ payload ≠ [] then report 0
  else s

/-- R169, steps 1 to 3. -/
def Station.answered (r : Station) : Station :=
  { r with turn := !r.turn, misses := 0, waitSince := none, retryAt := none, outstanding := none }

/-- R179: an unknown item flags KIND_UNKNOWN (R165). -/
def State.flagUnknown (s : State) (unknown : Bool) : State := if unknown then s.flag .kindUnknown else s

/-- R170: a usable WAIT to a request but JOIN. -/
def Station.waited (r : Station) (now : Nat) : Station :=
  { r with misses := 0, waitSince := some (r.waitSince.getD now), retryAt := some (now + Config.retryAfter) }

/-- R167, R170: a usable WAIT. -/
def waitTaken (x : Exchange) (s : State) : Out :=
  if x.request.kind = .join then endExchange (s.probeLater x.station)
  else
    let r := (s.line.stations[x.station]).waited s.now
    let o := endExchange (s.setStation x.station r)
    if r.waitSince.getD s.now + Config.waitLimit ≤ s.now then (o.1, .leaveActive x.station .waitLimit :: o.2)
    else o

/-- R167, R170: a miss. -/
def missTaken (x : Exchange) (s : State) : Out :=
  if x.request.kind = .join then endExchange (s.probeLater x.station)
  else
    let r := s.line.stations[x.station]
    let o := endExchange (s.setStation x.station { r with misses := r.misses + 1 })
    if 3 ≤ r.misses + 1 then (o.1, .leaveActive x.station .misses :: o.2) else o

end Sys2Proof.Machine
end

