-- ==== Sys2Proof/Machine/Payout.lean ====
section
/-! DEFINITION. The payout unit (sections 3.2 and 3.3). -/

namespace Sys2Proof.Machine

def State.payoutDone (s : State) (occasion : Occasion) (manual : Bool) (paid owed : Nat)
    (entries : List TubeEntry) : State :=
  s.report (.payoutDone { occasion := occasion, manual := manual, paid := paid, owed := owed, entries := entries })

/-- R45, step 2: the tube's entry is made if absent, and its coins asked rise. -/
def askEntry (l : List TubeEntry) (tube : TubeId) (coins : Nat) : List TubeEntry :=
  match l with
  | [] => [{ tube := tube, asked := coins, paid := 0, ending := none }]
  | e :: es => if e.tube = tube then { e with asked := e.asked + coins } :: es else e :: askEntry es tube coins

/-- R46, R47, R49, R50: the tube's entry records the coins paid and the ending. -/
def endEntry (l : List TubeEntry) (tube : TubeId) (coins : Nat) (ending : PayEnding) : List TubeEntry :=
  l.map fun e => if e.tube = tube then { e with paid := e.paid + coins, ending := some ending } else e

/-- R28, R44: the whole pending payout is owed, and owed so far rises by it. -/
def State.oweWhole (s : State) : State :=
  let x := s.ledger.pending
  (s.setLedger (s.ledger.owe x)).setPayout { s.payout with owed := s.payout.owed + x }

/-- R44: the start of a change operation. -/
def payStart (s : State) : Out :=
  let s1 := s.setPayout { Payout.powerOn with phase := .plan }
  if s.active coinMech then (s1, [.payPlan]) else (s1.oweWhole, [.payEnd])

/-- R23: the payout unit starts when pending payout is above 0 while it is IDLE. -/
def payTell (s : State) : Out :=
  if s.payIdle ∧ 0 < s.ledger.pending then payStart s else s.only

/-- The coin types of the tubes of a plan (R44). -/
def typesOf (cash : Cash) (tubes : List RankedTube) : List (TubeId × CoinId) :=
  tubes.filterMap fun t => (cash.tubes[t.tube].coinType).map fun c => (t.tube, c)

/-- R44, from the point after the station check: a plan for the whole pending payout. -/
def payPlan (s : State) : Out :=
  let tubes := rankTubes s.cash payoutAvail
  let r := makePlan s.ledger.pending tubes
  let cmds := planCommands r.plan
  let s1 := s.setPayout { s.payout with phase := .plan, inFlight := none, limit := none, remaining := cmds
                                        typesAtPlan := typesOf s.cash tubes }
  let s2 := s1.setLedger (s1.ledger.owe r.shortfall)
  if cmds.isEmpty then
    (s2.setPayout { s2.payout with owed := s2.payout.owed + r.shortfall }, [.payEnd])
  else if r.shortfall = 0 then (s1, [.payNext])
  else (s2.payoutDone .shortfall false 0 r.shortfall [], [.payNext])

/-- R45: the check of a command against the tube table. -/
def commandHolds (s : State) (c : PayCmd) : Bool :=
  let t := s.cash.tubes[c.tube]
  match s.payout.typesAtPlan.find? fun p => decide (p.1 = c.tube) with
  | none => false
  | some p => decide (t.coinType = some p.2) && decide (s.cash.coins[p.2].value = c.value) &&
      decide (c.coins ≤ t.count)

/-- R45, R54: the next command, or the end of the operation. -/
def payNext (s : State) : Out :=
  match s.payout.remaining with
  | [] => (s, [.payEnd])
  | c :: cs =>
    if s.payout.manual ∨ commandHolds s c then
      (s.setPayout { s.payout with phase := .loadWait, inFlight := some c, remaining := cs },
        [.load (.ask .payout)])
    else (s.setPayout { s.payout with remaining := [] }, [.payPlan])

/-- R45: the payout unit is granted. A unit granted with no command waiting is released (R120). -/
def payGiven (s : State) : Out :=
  match s.payout.phase, s.payout.inFlight with
  | .loadWait, some c =>
    let r := s.handFrame coinMech (payRequest c)
    (r.1.setPayout { r.1.payout with
      phase := .paying
      entries := askEntry r.1.payout.entries c.tube c.coins
      limit := some (s.now + Config.payLimit)
      payJoined := r.2 }, [])
  | _, _ => (s, [.load (.release .payout)])

/-- R46: the PAY is neither unsent in the line queue nor outstanding at station 1. -/
def payAnswered (s : State) : Bool :=
  s.payout.payJoined &&
    !(s.line.queue.any fun e => decide (e.station = coinMech) && decide (e.request.kind = .pay)) &&
    (match s.line.stations[coinMech].outstanding with
      | none => true
      | some r => decide (r.kind ≠ .pay))

/-- The command in flight, where a PAID for the tube ends it (R46, R47). -/
def endsCommand (s : State) (tube : TubeId) : Option PayCmd :=
  match s.payout.phase, s.payout.inFlight with
  | .paying, some c => if c.tube = tube ∧ payAnswered s then some c else none
  | _, _ => none

/-- R28: pay_booked, which a manual operation does not call (R54). -/
def State.bookPaid (s : State) (x : Nat) : State :=
  if s.payout.manual then s else s.setLedger (s.ledger.payBooked x)

/-- The record after its command has ended (R46, R47, R49, R50). -/
def State.commandEnded (s : State) (tube : TubeId) (paid value : Nat) (ending : PayEnding) : State :=
  s.setPayout { s.payout with
    phase := .plan
    inFlight := none
    limit := none
    payJoined := false
    paid := s.payout.paid + value
    entries := endEntry s.payout.entries tube paid ending }

/-- R46: the STATION report of an overpayment. -/
def State.overpaidReport (s : State) (tube : Fin 64) (coins asked : Nat) : State :=
  if asked < coins then s.stationReport coinMech .overpaid (.item (.paid tube coins)) else s

/-- R46: a full PAID. A manual operation counts the value of the coins reported (log 25). The STATION report of an
overpayment stands after the tube results and before the release and what follows it (log 52). -/
def paidFull (c : PayCmd) (tube : Fin 64) (coins : Nat) (s : State) : Out :=
  let value := (if s.payout.manual then coins else c.coins) * c.value
  let s1 := (s.bookPaid (c.coins * c.value)).tubeResult c.tube fun t => t.paidFull coins
  let s2 := (s1.overpaidReport tube coins c.coins).commandEnded c.tube coins value .full
  (s2, [.load (.release .payout), .payNext])

/-- R47, R54: a short PAID. -/
def paidShort (c : PayCmd) (coins : Nat) (s : State) : Out :=
  let s1 := (s.bookPaid (coins * c.value)).tubeResult c.tube Tube.paidShort
  let s2 := s1.commandEnded c.tube coins (coins * c.value) .short
  (s2.setPayout { s2.payout with remaining := [] },
    [.load (.release .payout), if s.payout.manual then .payEnd else .payPlan])

/-- R48: a PAID that ends no command. The tube entry has no ending (log 44). -/
def paidUnasked (tube : TubeId) (coins : Nat) (s : State) : Out :=
  let v := (s.cash.tubes[tube]).value s.cash.coins
  let s1 := s.tubeResult tube fun t => t.paidFull coins
  (s1.payoutDone .unasked false (coins * v) 0 [{ tube := tube, asked := 0, paid := coins, ending := none }]).only

/-- R46 to R48: PAID. -/
def paidItem (tube : Fin 64) (coins : Nat) (s : State) : Out :=
  if h : tube.val < 6 then
    let n : TubeId := ⟨tube.val, h⟩
    match endsCommand s n with
    | some c => if c.coins ≤ coins then paidFull c tube coins s else paidShort c coins s
    | none => paidUnasked n coins s
  else (s.stationReport coinMech .paidNoTube (.item (.paid tube coins))).only

/-- R49: the PAY limit expires. -/
def payLimitEnds (c : PayCmd) (s : State) : Out :=
  let s1 := (s.removeFrames coinMech [.pay]).tubeResult c.tube Tube.doubted
  (s1.commandEnded c.tube 0 0 .noPaid, [.load (.release .payout), .payOweEnd])

/-- R49, R50, R54: the whole pending payout is owed but in a manual operation, and the operation ends. -/
def payOweEnd (s : State) : Out :=
  let s1 := if s.payout.manual then s else s.oweWhole
  (s1.setPayout { s1.payout with remaining := [] }, [.payEnd])

/-- R50: the loss of station 1. -/
def payLost (s : State) : Out :=
  match s.payout.phase, s.payout.inFlight with
  | .loadWait, _ =>
    (s.setPayout { s.payout with phase := .plan, inFlight := none }, [.load (.withdraw .payout), .payOweEnd])
  | .paying, some c =>
    ((s.tubeResult c.tube Tube.doubted).commandEnded c.tube 0 0 .lost, [.load (.release .payout), .payOweEnd])
  | _, _ => s.only

/-- R51: the end of an operation. -/
def payEnd (s : State) : Out :=
  let p := s.payout
  let s1 := (s.payoutDone .ending p.manual p.paid p.owed p.entries).setPayout Payout.powerOn
  (s1, if 0 < s1.ledger.pending then [.payTell] else [.returnTest])

/-- R55: the effective mode leaves SERVICE. -/
def payCut (s : State) : Out :=
  if s.payout.manual then
    match s.payout.phase with
    | .loadWait =>
      (s.setPayout { s.payout with phase := .plan, inFlight := none, remaining := [] },
        [.load (.withdraw .payout), .payEnd])
    | .paying => (s.setPayout { s.payout with remaining := [] }).only
    | _ => s.only
  else s.only

/-- R53: an accepted TUBE_OUT. -/
def payManual (tube : TubeId) (coins : Nat) (s : State) : Out :=
  (s.setPayout { Payout.powerOn with
      phase := .plan
      manual := true
      remaining := splitCoins tube ((s.cash.tubes[tube]).value s.cash.coins) coins },
    [.payNext])

end Sys2Proof.Machine
end

