-- ==== Sys2Proof/Machine/Map.lean ====
section
/-! DEFINITION. The selection map (chapter 4): recomputation, notices, column effects, searches and cursors. -/

namespace Sys2Proof.Machine

/-- R64: P_min is recomputed, and kept as the P_min handed on. -/
def SelMap.recompute (m : SelMap) : SelMap := { m with pMin := m.lowest }

/-- R66: a column's zone, or the health state of its zone, is another after an event. -/
def zoneChanged (before after : SelMap) (c : ColumnId) : Bool :=
  decide (before.columns[c].zone ≠ after.columns[c].zone) ||
    decide (before.zoneHealth[before.columns[c].zone] ≠ after.zoneHealth[after.columns[c].zone])

/-- R66: the cause of the notice for a column that ceased to be sellable: ZONE where its zone or its zone's health
changed, alone or with its state; STATE where its state alone did. -/
def noticeCause (before after : SelMap) (c : ColumnId) : NoticeCause :=
  if zoneChanged before after c then .zone else .state

/-- R66: the notice a column is given between two states of the map, for the sold selection. -/
def noticeFor (before after : SelMap) (sel : SelectionId) (c : ColumnId) : List Job :=
  if before.columnSells c ∧ ¬ after.columnSells c then [.notice c (noticeCause before after c)]
  else if c ∈ before.list sel ∧ c ∉ after.list sel then [.notice c .removed]
  else []

/-- The columns in ascending order. -/
def allColumns : List ColumnId := List.finRange 64

/-- R66: the notices of an event, in ascending column order; none while the sale unit is IDLE. -/
def noticesFor (before after : SelMap) (sale : Option Sale) : List Job :=
  match sale with
  | none => []
  | some x => allColumns.flatMap (noticeFor before after x.selection)

/-- R63, R64, R66: the map takes a new form, with the notices of the change. -/
def State.takeMap (s : State) (m : SelMap) : Out :=
  (s.setMap m.recompute, noticesFor s.map m s.sale.current)

/-- R70: a COLUMN report, on the map as the event left it. -/
def State.columnReport (s : State) (c : ColumnId) (before : ColState) (cause : ColCause) : State :=
  let r := s.map.columns[c]
  s.report (.column { column := c, before := before, after := r.state, count := r.count, zone := r.zone,
                      cause := cause, sellable := s.map.columnSells c })

/-- R70: the COLUMN report of a change, where the state did change. -/
def State.columnChanged (s : State) (c : ColumnId) (before : ColState) (cause : ColCause) : State :=
  if s.map.columns[c].state = before then s else s.columnReport c before cause

/-- R81, R88: a record takes the place of a column's, with the recomputation of R64 and the COLUMN report. The
result reaches its requester by itself, so no notice is made (R66). -/
def State.driveColumn (s : State) (c : ColumnId) (r : Column) (cause : ColCause) : State :=
  let before := s.map.columns[c].state
  (s.setMap { s.map with columns := s.map.columns.set c r }.recompute).columnChanged c before cause

/-- R81: the effect of a SALE result on the column. -/
def Column.afterSale (c : Column) (r : DriveResult) : Column :=
  match r with
  | .vended => match c.count with
    | none => c
    | some n => if n ≤ 1 then { c with count := some 0, state := .empty } else { c with count := some (n - 1) }
  | .noDrop => { c with state := .empty }
  | .jam => { c with state := .jammed }
  | .noStart => { c with state := .jammed }
  | .openMotor => { c with state := .fault }
  | .turned => c

/-- R81: the cause of the COLUMN report. -/
def DriveResult.cause : DriveResult → ColCause
  | .vended => .vended
  | .noDrop => .noDrop
  | .jam => .jam
  | .noStart => .noStart
  | .openMotor => .openMotor
  | .turned => .test

/-- R88: the effect of a TEST result on the column. -/
def Column.afterTest (c : Column) (r : DriveResult) : Column :=
  if r = .turned ∧ (c.state = .jammed ∨ c.state = .fault) then
    { c with state := if c.count = some 0 then .empty else .available }
  else c

/-- R68: a list turned so that it starts at a column; a column not in it leaves the list as it is. -/
def rotateTo (l : List ColumnId) (start : Option ColumnId) : List ColumnId :=
  match start with
  | none => l
  | some c => l.dropWhile (fun x => decide (x ≠ c)) ++ l.takeWhile (fun x => decide (x ≠ c))

/-- R67, R68: the order in which a selection's columns are looked at. -/
def SelMap.walk (m : SelMap) (s : SelectionId) : List ColumnId :=
  match (m.selections[s]).search with
  | .first => m.list s
  | .rotate => rotateTo (m.list s) (m.selections[s]).cursor

/-- R67, R68: the next column for a selection, excluding the tried ones. -/
def SelMap.search (m : SelMap) (s : SelectionId) (tried : List ColumnId) : Option ColumnId :=
  (m.walk s).find? fun c => m.columnSells c && !tried.contains c

/-- R69: the cursor after a sale of `c`. -/
def SelMap.movedCursor (m : SelMap) (s : SelectionId) (c : ColumnId) : Option ColumnId :=
  if c ∈ m.list s then
    (match (m.columns[c]).next with
      | some n => some n
      | none => (m.selections[s]).head)
  else none

/-- R69: the cursor of a ROTATE selection is moved. -/
def SelMap.moveCursor (m : SelMap) (s : SelectionId) (c : ColumnId) : SelMap :=
  let r := m.selections[s]
  match r.search with
  | .first => m
  | .rotate => { m with selections := m.selections.set s { r with cursor := m.movedCursor s c } }

/-- R61: a cursor whose column has left the list becomes NONE. -/
def SelMap.cleanCursor (m : SelMap) (r : Selection) : Selection :=
  match r.cursor with
  | none => r
  | some c => if c ∈ m.chain r then r else { r with cursor := none }

/-- R61. -/
def SelMap.cleanCursors (m : SelMap) : SelMap :=
  { m with selections := Vector.ofFn fun i => m.cleanCursor m.selections[i] }

/-- R58: the links into columns: the heads, then the nexts. -/
def SelMap.links (m : SelMap) : List ColumnId :=
  (m.selections.toList.filterMap Selection.head) ++ (m.columns.toList.filterMap Column.next)

/-- R58: the chain from a column reaches END within 64 steps. -/
def chainEnds (cols : Vector Column 64) : Nat → Option ColumnId → Bool
  | _, none => true
  | 0, some _ => false
  | n + 1, some c => chainEnds cols n cols[c].next

/-- No entry twice. -/
def noRepeats : List ColumnId → Bool
  | [] => true
  | c :: cs => !cs.contains c && noRepeats cs

/-- R58: one shape: no column has two links into it, and no chain loops. -/
def SelMap.linksKept (m : SelMap) : Bool :=
  noRepeats m.links && allColumns.all fun c => chainEnds m.columns 64 (some c)

end Sys2Proof.Machine
end

