-- ==== Sys2Proof/Machine/Drive.lean ====
section
/-! DEFINITION. The spiral drive, its drop sensor and test drives (chapter 5). -/

namespace Sys2Proof.Machine

def State.setAttempt (s : State) (a : Option Attempt) : State := s.setDrive { s.drive with attempt := a }

def State.setCurrent (s : State) (mA : Nat) : State := s.setPins { s.pins with motorCurrent := mA }

/-- R75, R77, R78: the entry to TURNING; the jam run starts with it where the current is above 900 mA. -/
def Attempt.enterTurning (a : Attempt) (now current : Nat) : Attempt :=
  { a with phase := .turning
           leaveHome := none
           turnLimit := some (now + Config.turnLimit)
           jamRun := if Config.jamCurrent < current then some (now + Config.jamRun) else none }

/-- R74: a turn begins. -/
def Attempt.energise (a : Attempt) (now current : Nat) (homeClosed : Bool) : Attempt :=
  let b := { a with motor := true, openCheck := some (now + Config.openCheck), dropWindow := none }
  if homeClosed then { b with phase := .leavingHome, leaveHome := some (now + Config.leaveHome) }
  else b.enterTurning now current

/-- R73, R87: the record of a new attempt, its first turn begun. -/
def newAttempt (s : State) (requester : DriveRequester) (c : ColumnId) (turns : Nat) (judging : Bool) : Attempt :=
  let a : Attempt :=
    { requester := requester, column := c, turnsAllowed := turns, turnsDone := 0, dropSeen := false
      judging := judging, phase := .leavingHome, motor := false, openCheck := none, leaveHome := none
      turnLimit := none, jamRun := none, dropWindow := none, result := none
      before := s.map.columns[c].state }
  a.energise s.now s.pins.motorCurrent s.pins.homeClosed[c]

/-- The refusals of R73. -/
inductive StartAnswer where
  | taken
  | driveBusy
  | sensorNotClear
  | unsellable
  deriving DecidableEq, Repr

/-- R73: the checks of a SALE start. -/
def startCheck (s : State) (c : ColumnId) : StartAnswer :=
  if s.drive.attempt.isSome then .driveBusy
  else if s.drive.sensor ≠ .clear then .sensorNotClear
  else if s.map.columnSells c then .taken
  else .unsellable

/-- R73: a SALE attempt starts. -/
def State.startSale (s : State) (c : ColumnId) : State :=
  s.setAttempt (some (newAttempt s .sale c s.map.columns[c].turns true))

/-- R86, R87: the grant of a waiting test request; without one the grant is given back (log 33). -/
def testGiven (s : State) : Out :=
  match s.drive.testRequest with
  | some r =>
    (s.setDrive { s.drive with
        testRequest := none
        attempt := some (newAttempt s .test r.column 1 (decide (s.drive.sensor = .clear))) }).only
  | none => (s, [.load (.release .testDrive)])

/-- R88: the drop field. -/
def Attempt.dropField (a : Attempt) : DropField :=
  if !a.judging then .notJudged else if a.dropSeen then .seen else .notSeen

/-- R88: the outcome of a test result. -/
def DriveResult.testOutcome : DriveResult → TestOutcome
  | .vended => .turned
  | .noDrop => .turned
  | .turned => .turned
  | .jam => .jam
  | .noStart => .noStart
  | .openMotor => .openMotor

/-- R81, step 1: the record once its result is set: the motor off and every timer stopped. -/
def Attempt.ended (a : Attempt) (r : DriveResult) : Attempt :=
  { a with result := some r, motor := false, openCheck := none, leaveHome := none, turnLimit := none, jamRun := none
           dropWindow := none }

/-- R81, steps 2 and 3: the column takes its new record, and the attempt record becomes absent. -/
def State.columnAfter (s : State) (c : ColumnId) (r : Column) (cause : ColCause) : State :=
  (s.driveColumn c r cause).setAttempt none

/-- R81, steps 2 to 4, for the result the record holds. Step 4 follows as jobs. -/
def handResult (stopMark : Bool) (s : State) : Out :=
  match s.drive.attempt with
  | none => s.only
  | some a =>
    let c := s.map.columns[a.column]
    match a.result, a.requester with
    | some r, .sale =>
      (s.columnAfter a.column (c.afterSale r) r.cause,
        [.load (.release .spiral), .saleDriven a.column r a.turnsDone stopMark])
    | some r, .test =>
      (s.columnAfter a.column (c.afterTest r) .test,
        [.load (.release .testDrive), .testReport a.column r.testOutcome a.dropField a.before])
    | none, _ => s.only

/-- R81: an attempt ends with a result. -/
def endAttempt (a : Attempt) (r : DriveResult) (stopMark : Bool) (s : State) : Out :=
  handResult stopMark ((s.setAttempt (some (a.ended r))).setCurrent 0)

/-- R79, R87: a turn stops early. -/
def stopEarly (a : Attempt) (r : DriveResult) (s : State) : Out :=
  if a.requester = .sale ∧ a.dropSeen then endAttempt a .vended true s else endAttempt a r false s

/-- R80: the result at the end of a drop window, or with a drop. -/
def windowResult (a : Attempt) (dropped : Bool) : DriveResult :=
  match a.requester with
  | .test => .turned
  | .sale => if dropped then .vended else .noDrop

/-- R77, R80: the home switch closes in TURNING. -/
def turnDone (a : Attempt) (s : State) : Out :=
  let b := { a with motor := false, turnsDone := a.turnsDone + 1, phase := .dropWait, openCheck := none
                    leaveHome := none, turnLimit := none, jamRun := none }
  if b.dropSeen then endAttempt b (windowResult b true) false s
  else if !b.judging then endAttempt b .turned false s
  else
    ((s.setAttempt (some { b with dropWindow := some (s.now + Config.dropWindow) })).setCurrent 0).only

/-- R80: the drop window expires without a drop. -/
def windowEnds (a : Attempt) (s : State) : Out :=
  if a.turnsDone < a.turnsAllowed then
    (s.setAttempt (some (a.energise s.now s.pins.motorCurrent s.pins.homeClosed[a.column]))).only
  else endAttempt a (windowResult a false) false s

/-- R85. -/
def State.strayDrop (s : State) : State :=
  s.report (.strayDrop { attempt := s.drive.attempt.map fun a => (a.phase, a.column, a.turnsDone, a.requester) })

/-- R84: a counted drop. -/
def dropCounted (s : State) : Out :=
  match s.drive.attempt with
  | none => s.strayDrop.only
  | some a =>
    match a.phase with
    | .leavingHome => s.strayDrop.only
    | .turning =>
      if a.judging then (s.setAttempt (some { a with dropSeen := true })).only else s.strayDrop.only
    | .dropWait =>
      let b := { a with dropSeen := true, dropWindow := none }
      endAttempt b (windowResult b true) false s

/-- R88: TEST_RESULT. -/
def State.testResult (s : State) (c : ColumnId) (outcome : TestOutcome) (drop : DropField)
    (before : ColState) : State :=
  s.report (.testResult { column := c, outcome := outcome, drop := drop, before := before
                          after := s.map.columns[c].state })

/-- R88: TEST_RESULT of a test that never ran. -/
def State.testNever (s : State) (c : ColumnId) (outcome : TestOutcome) : State :=
  s.testResult c outcome .notJudged s.map.columns[c].state

/-- R89: the effective mode leaves SERVICE. -/
def testLeave (s : State) : Out :=
  match s.drive.testRequest with
  | some r =>
    (s.setDrive { s.drive with testRequest := none },
      [.load (.withdraw .testDrive), .testNever r.column .cancelled])
  | none =>
    match s.drive.attempt with
    | some a =>
      if a.requester = .test then
        ((s.setAttempt none).setCurrent 0,
          [.load (.release .testDrive), .testReport a.column .aborted a.dropField a.before])
      else s.only
    | none => s.only

/-! ### Drop sensor (R83) -/

/-- R83: the beam is broken. -/
def beamBreaks (s : State) : Out :=
  match s.drive.sensor with
  | .pending => (s.setDrive { s.drive with clearTimer := none }).only
  | .blocked => (s.setDrive { s.drive with clearTimer := none }).only
  | .clear => dropCounted (s.setDrive { s.drive with blockTimer := some (s.now + Config.sensorTimer) })

/-- R83: the beam is unbroken. -/
def State.beamClears (s : State) : State :=
  match s.drive.sensor with
  | .pending => s.setDrive { s.drive with clearTimer := some (s.now + Config.sensorTimer) }
  | .blocked => s.setDrive { s.drive with clearTimer := some (s.now + Config.sensorTimer) }
  | .clear => s.setDrive { s.drive with blockTimer := none }

end Sys2Proof.Machine
end

