-- ==== Sys2Proof/Machine/SaleUnit.lean ====
section
/-! DEFINITION. The sale unit (chapter 6). -/

namespace Sys2Proof.Machine

def State.setCurrentSale (s : State) (x : Option Sale) : State := s.setSale { s.sale with current := x }

/-! ### Taking a selection (R93 to R96) -/

/-- What the checks of R94 answer. -/
inductive SaleCheck where
  | refused (code : ResultCode) (shown : ShowCode) (amount : Nat)
  | accepted (source : Source)
  deriving DecidableEq, Repr

/-- R95: how a sale of price `p` is paid. -/
def paySource (s : State) (p : Nat) : Option Source :=
  if p ≤ s.funds then some .cash
  else if s.ledger.credit = 0 ∧ s.cash.escrow.full = false then
    match s.card with
    | .absent => none
    | .present none => some .cashless
    | .present (some f) => if p ≤ f then some .cashless else none
  else none

/-- R94. -/
def checkSale (s : State) (sel : SelectionId) : SaleCheck :=
  let p := (s.map.selections[sel]).price
  if s.mode.effective ≠ .vend then .refused .closed .closed 0
  else if !(s.saleIdle && s.payIdle) then .refused .busy .busy 0
  else if !s.reserveOpen then .refused .busyReports .busy 0
  else if s.drive.sensor ≠ .clear then .refused .notSellable .unavailable 0
  else if !s.map.selectionSells sel then .refused .notSellable .unavailable 0
  else match paySource s p with
    | some src => .accepted src
    | none => .refused .insufficient .price p

/-- R96: the next sale number. -/
def nextSaleNumber (last : Nat) : Nat := if 65535 ≤ last then 1 else last + 1

/-- R96, step 1: the record of an accepted sale. -/
def newSale (s : State) (origin : Origin) (sel : SelectionId) (source : Source) : Sale where
  stage := .settling
  number := nextSaleNumber s.sale.lastNumber
  origin := origin
  selection := sel
  source := source
  price := (s.map.selections[sel]).price
  approval := (s.map.selections[sel]).approval
  triesAllowed := s.settings.columnTries
  multiVend := s.settings.multiVend
  chosen := none
  tried := []
  told := .none
  outcome := none
  loadLimit := none
  approvalLimit := none
  billStacked := false

/-- R98. -/
def enterHost (x : Sale) (s : State) : Out :=
  let s1 := s.setCurrentSale (some { x with stage := .hostApproval
                                            approvalLimit := some (s.now + Config.hostLimit) })
  ((s1.show .approving x.price).report
    (.saleAsk { number := x.number, selection := x.selection, price := x.price, source := x.source,
                origin := x.origin })).only

/-- R101. -/
def enterReader (x : Sale) (s : State) : Out :=
  let s1 := s.hand reader (chargeAskRequest x.number x.price x.selection)
  let s2 := s1.setCurrentSale (some { x with stage := .readerApproval, told := .asked
                                             approvalLimit := some (s.now + Config.readerLimit) })
  (s2.show .approving x.price).only

/-- R96, R99: READER_APPROVAL for a CASHLESS sale, else the first column try. -/
def enterReaderOrTry (x : Sale) (s : State) : Out :=
  match x.source with
  | .cashless => enterReader x s
  | .cash => (s.setCurrentSale (some x), [.saleTry])

/-- R96, step 3, leaving out STACKING. -/
def enterStage (x : Sale) (s : State) : Out :=
  match x.approval with
  | .host => enterHost x s
  | .none => enterReaderOrTry x s

/-- R96: acceptance; its step 4 follows as jobs. -/
def acceptSale (origin : Origin) (sel : SelectionId) (source : Source) (s : State) : Out :=
  let x := newSale s origin sel source
  let s1 := s.setSale { s.sale with current := some x, lastNumber := x.number }
  match source with
  | .cashless => enterStage x s1
  | .cash =>
    if x.price ≤ s.ledger.credit then enterStage x (s1.setLedger (s1.ledger.takeHold x.price))
    else (s1.setCurrentSale (some { x with stage := .stacking }), [.stackAsk, .showStacking])

/-- R96, step 4: VENDING, while the sale is in STACKING (log 9). -/
def State.showStacking (s : State) : State :=
  match s.sale.current with
  | some x => if x.stage = .stacking then s.show .vending x.price else s
  | none => s

/-- R93: a KEY. -/
def keyItem (n : Nat) (s : State) : Out :=
  if h : n < 100 then
    match checkSale s ⟨n, h⟩ with
    | .refused _ code amount => (s.show code amount).only
    | .accepted src => acceptSale .panel ⟨n, h⟩ src s
  else ((s.stationReport panel .keyNoSelection (.item (.key n))).show .unavailable 0).only

/-! ### Stages -/

/-- R97: the outcome of the stacking. -/
def stackOutcome (stacked : Bool) (s : State) : Out :=
  match s.sale.current with
  | none => s.only
  | some x =>
    if x.stage = .stacking then
      if stacked then
        let y := { x with billStacked := true }
        if s.ledger.canHold x.price then enterStage y (s.setLedger (s.ledger.takeHold x.price))
        else (s.setCurrentSale (some y), [.saleEnd .billFail])
      else (s, [.saleEnd .billFail])
    else s.only

/-- R104: a column try begins. The panel is shown VENDING before the grant is handed (log 34). -/
def saleTry (s : State) : Out :=
  match s.sale.current with
  | none => s.only
  | some x =>
    match s.map.search x.selection (x.tried.map Try.column) with
    | none => (s, [.saleEnd .failed])
    | some c =>
      let s1 := s.setCurrentSale (some { x with stage := .loadWait, chosen := some c, approvalLimit := none
                                                loadLimit := some (s.now + Config.loadLimit) })
      (s1.show .vending x.price, [.load (.ask .spiral)])

/-- R106: a try whose start the drive refuses for good. -/
def refusedTry (x : Sale) (c : ColumnId) (r : TryResult) (s : State) : Out :=
  (s.setCurrentSale (some { x with
      chosen := none, loadLimit := none
      tried := x.tried ++ [{ column := c, result := r, turns := 0, stopMark := false }] }),
    [.load (.release .spiral), .saleEnd .failed])

/-- R106: the grant of a try. A sale that no longer waits gives it back (log 33). -/
def saleGiven (s : State) : Out :=
  match s.sale.current with
  | none => (s, [.load (.release .spiral)])
  | some x =>
    match x.stage, x.chosen with
    | .loadWait, some c =>
      match startCheck s c with
      | .taken => ((s.setCurrentSale (some { x with stage := .driving, loadLimit := none })).startSale c).only
      | .sensorNotClear => refusedTry x c .sensorNotClear s
      | .driveBusy => refusedTry x c .driveBusy s
      | .unsellable =>
        (s.setCurrentSale (some { x with chosen := none, loadLimit := none }),
          [.load (.release .spiral), .saleTry])
    | _, _ => (s, [.load (.release .spiral)])

/-- R107, steps 2 and 3. -/
def saleDriven (c : ColumnId) (r : DriveResult) (turns : Nat) (stopMark : Bool) (s : State) : Out :=
  match s.sale.current with
  | none => s.only
  | some x =>
    let tried := x.tried ++ [{ column := c, result := .drive r, turns := turns, stopMark := stopMark }]
    (s.setCurrentSale (some { x with tried := tried, chosen := none }),
      [if r = .vended then .saleEnd .vended
       else if tried.length < x.triesAllowed then .saleTry
       else .saleEnd .failed])

/-! ### Settlement (R108, R109) -/

/-- R108, step 1: the reader is told; with the reader told field after it. -/
def tellReader (x : Sale) (outcome : SaleOutcome) (s : State) : State :=
  match outcome with
  | .vended =>
    let r := s.handFrame reader (chargeEndRequest true)
    if r.2 then (r.1.setCard (r.1.card.charged x.price)).setCurrentSale (some { x with told := .done })
    else r.1
  | _ =>
    if x.told = .asked then
      let r := s.handFrame reader (chargeEndRequest false)
      if r.2 then r.1.setCurrentSale (some { x with told := .failed }) else r.1
    else s

/-- R92, R108, R114: multi-vend as the settlement of a sale reads it. Where a WRITE changed it during the sale, a free
value says whether the setting at the acceptance or the one at the settlement counts (log 45). -/
def saleMultiVend (x : Sale) (s : State) : Bool :=
  if x.multiVend = s.settings.multiVend then s.settings.multiVend
  else if Config.multiVendKept then x.multiVend
  else s.settings.multiVend

/-- R108: the sale settles: the record takes the outcome, and the steps after the first read it there. -/
def saleEnd (outcome : SaleOutcome) (s : State) : Out :=
  match s.sale.current with
  | none => s.only
  | some x0 =>
    let x := { x0 with stage := .settling, outcome := some outcome, loadLimit := none, approvalLimit := none }
    let s1 := s.setCurrentSale (some x)
    match x.source with
    | .cashless => (tellReader x outcome s1, [.saleFinish 0])
    | .cash =>
      match outcome with
      | .vended =>
        let s2 := s1.setLedger s1.ledger.settle
        if saleMultiVend x s then (s2, [.saleFinish 0])
        else (s2.releaseAll, [.payTell, .saleFinish s2.ledger.credit])
      | _ => (s1.returnHold, [.payTell, .saleFinish 0])

/-- R69, R108, step 2: the cursor of a VENDED sale. -/
def State.vendedCursor (s : State) (x : Sale) (outcome : SaleOutcome) : State :=
  match outcome, x.tried.getLast? with
  | .vended, some t => s.setMap (s.map.moveCursor x.selection t.column)
  | _, _ => s

/-- R109. -/
def State.saleReport (s : State) (x : Sale) (outcome : SaleOutcome) (released : Nat) : State :=
  s.report (.sale { number := x.number, origin := x.origin, selection := x.selection, source := x.source
                    price := x.price, approval := x.approval, billStacked := x.billStacked
                    tries := x.tried, outcome := outcome, told := x.told
                    creditAfter := s.ledger.credit, released := released })

/-- R108, step 4. -/
def outcomeShow (outcome : SaleOutcome) : ShowCode :=
  match outcome with
  | .vended => .takeProduct
  | _ => .notVended

/-- R108, steps 2 to 6, for the outcome the record holds. -/
def saleFinish (released : Nat) (s : State) : Out :=
  match s.sale.current with
  | none => s.only
  | some x => match x.outcome with
    | none => s.only
    | some outcome =>
      let s1 := (s.vendedCursor x outcome).saleReport x outcome released
      let s2 := s1.show (outcomeShow outcome) s1.funds
      (s2.setCurrentSale none, [.returnTest])

/-! ### Returns (R111, R112) -/

/-- R112: the flag is tested when either unit becomes IDLE. -/
def returnTest (s : State) : Out :=
  if s.sale.pendingReturn ∧ s.saleIdle ∧ s.payIdle then (s, [.returnAct]) else s.only

/-- R112: the return is acted on. -/
def returnAct (s : State) : Out :=
  ((s.setSale { s.sale with pendingReturn := false }).returnEscrow.releaseAll, [.payTell])

/-- R111: both units are IDLE. -/
def State.leverFree (s : State) : Bool := s.saleIdle && s.payIdle

/-- R111: LEVER. -/
def leverPulled (s : State) : Out :=
  if s.leverFree then (s, [.returnAct]) else (s.setSale { s.sale with pendingReturn := true }).only

/-! ### What arrives during a sale -/

/-- R102: CHARGE_ANSWER. -/
def chargeAnswer (number : Nat) (approve : Bool) (s : State) : Out :=
  let unexpected := s.stationReport reader .answerUnexpected (.item (.chargeAnswer number approve))
  match s.sale.current with
  | none => unexpected.only
  | some x =>
    if x.stage = .readerApproval ∧ x.number = number then
      (s.setCurrentSale (some { x with approvalLimit := none }),
        [if approve then .saleTry else .saleEnd .denied])
    else unexpected.only

/-- R100, R103: the card record has closed. -/
def cardLost (s : State) : Out :=
  match s.sale.current with
  | none => s.only
  | some x =>
    match x.source, x.stage with
    | .cashless, .hostApproval => (s, [.saleEnd .cardLost])
    | .cashless, .readerApproval => (s.removeFrames reader [.chargeAsk], [.saleEnd .cardLost])
    | _, _ => s.only

/-- R105, R113: a sellability notice. During an approval the selection's list is the list as the event left it
(log 47). -/
def saleNotice (c : ColumnId) (cause : NoticeCause) (s : State) : Out :=
  match s.sale.current with
  | none => s.only
  | some x =>
    match x.stage with
    | .hostApproval =>
      if cause = .zone ∧ c ∈ s.map.list x.selection then (s, [.saleEnd .heldZone]) else s.only
    | .readerApproval =>
      if cause = .zone ∧ c ∈ s.map.list x.selection then (s, [.saleEnd .heldZone]) else s.only
    | .loadWait =>
      if x.chosen = some c then
        match cause with
        | .zone =>
          (s.setCurrentSale (some { x with loadLimit := none, chosen := none }),
            [.load (.withdraw .spiral), .saleEnd .heldZone])
        | .state =>
          match s.map.search x.selection (x.tried.map Try.column) with
          | some d => (s.setCurrentSale (some { x with chosen := some d })).only
          | none =>
            (s.setCurrentSale (some { x with loadLimit := none, chosen := none }),
              [.load (.withdraw .spiral), .saleEnd .failed])
        | .removed => s.only
      else s.only
    | .stacking => s.only
    | .driving => s.only
    | .settling => s.only

end Sys2Proof.Machine
end

