-- ==== Sys2Proof/Machine/ModeUnit.lean ====
section
/-! DEFINITION. The mode record (R184 to R187). -/

namespace Sys2Proof.Machine

def State.setModes (s : State) (requested : Mode) (fill : Bool) (door : Door) (effective : Mode) : State :=
  s.setMode { requested := requested, fill := fill, door := door, effective := effective }

/-- R186, step 5. -/
def State.modeNote (s : State) (before : Mode) (cause : ModeCause) : State :=
  s.report (.modeNote { before := before, after := s.mode.effective, requested := s.mode.requested
                        door := s.mode.door, fill := s.mode.fill, cause := cause })

/-- R89 and R55 as the effective mode leaves SERVICE: both records take their change as they stood at the mode change,
and what either gives back or withdraws reaches the arbiter after that. A payout granted meanwhile has no command in
flight and gives its unit back (R120). -/
def serviceLeft (s : State) : Out :=
  let test := testLeave s
  let pay := payCut test.1
  (pay.1, test.2 ++ pay.2)

/-- R186, step 2: what the owners take. -/
def modeOwners (before after : Mode) : List Job :=
  (if before = .service ∧ after ≠ .service then [.serviceLeft] else []) ++
    (if before = .vend ∧ after ≠ .vend then [.returnEscrow] else [])

/-- R184, R186: the effective mode is derived again and a change is applied; `none` where it stands. -/
def modeChange (cause : ModeCause) (s : State) : Option Out :=
  let m := s.mode
  let after := deriveMode m.requested m.door
  if after = m.effective then none
  else
    let fill := if m.effective = .service then false else m.fill
    some (s.setModes m.requested fill m.door after, modeOwners m.effective after ++ [.modeTail m.effective cause])

/-- R186, step 4. -/
def State.modePanel (s : State) (before : Mode) : State :=
  if before = .vend ∧ s.mode.effective ≠ .vend then s.show .closed 0
  else if before ≠ .vend ∧ s.mode.effective = .vend then s.show .credit s.funds
  else s

/-- R186, steps 3 to 5. -/
def State.modeTail (s : State) (before : Mode) (cause : ModeCause) : State :=
  (s.refreshSet.modePanel before).modeNote before cause

/-- R189, step 3. -/
def modeRestart (s : State) : Out :=
  let s1 := s.setMode { s.mode with requested := .setup }
  match modeChange .restart s1 with
  | some o => o
  | none => (s1.modeNote s1.mode.effective .restart).only

/-- R91, R189: the sale unit restarts. -/
def State.saleRestart (s : State) : State := s.setSale { s.sale with pendingReturn := false }

/-- R110: the last message handed after RESTART (log 22). -/
def State.showRestart (s : State) : State := s.setSale { s.sale with lastShow := (.credit, 0) }

end Sys2Proof.Machine
end

