-- ==== Sys2Proof/Machine/Plant.lean ====
section
/-! DEFINITION. The cooling controller (chapter 8) and the health monitor (chapter 9). -/

namespace Sys2Proof.Machine

/-! ### Conversion (R130 to R132) -/

/-- R131, R132: a quotient rounded to the nearest whole number, halves away from zero. -/
def roundDiv (num : Int) (den : Nat) : Int :=
  let q := (2 * num.natAbs + den) / (2 * den)
  if num < 0 then -(q : Int) else q

/-- R131: the temperature of a code inside the table, by the first segment whose upper code is above it. -/
def interpolate (code : Nat) : List (Nat × Int) → Int
  | (c0, t0) :: (c1, t1) :: rest =>
    if code < c1 then t0 + roundDiv ((code - c0 : Nat) * (t1 - t0)) (c1 - c0)
    else interpolate code ((c1, t1) :: rest)
  | _ => 0

/-- R130, R131: the sample temperature before the offset, and the LIMIT mark. A table without breakpoints, which
no WRITE leaves, gives 0 (log 38). -/
def convertCode (table : List (Nat × Int)) (code : Nat) : Int × Bool :=
  match table.head?, table.getLast? with
  | some lo, some hi =>
    if code ≤ lo.1 then (lo.2, true)
    else if hi.1 ≤ code then (hi.2, true)
    else (interpolate code table, false)
  | _, _ => (0, false)

/-- R132: the mean of the samples. -/
def meanOf (samples : List Int) : Int := roundDiv samples.sum samples.length

/-! ### Channels (R128, R129) -/

/-- R128: the class of a code. -/
def faultClass (code : Nat) : Option FaultKind :=
  if code ≤ 15 then some .short else if 1008 ≤ code then some .opened else none

/-- R128: a fault sample. -/
def Channel.faultSample (c : Channel) (kind : FaultKind) : Channel :=
  let d := { c with faultKind := some kind, validRun := 0 }
  match c.status with
  | .fault => { d with samples := [] }
  | _ =>
    if c.faultRun + 1 < 3 then { d with faultRun := c.faultRun + 1 }
    else { d with status := .fault, samples := [], temperature := none, limitMark := false, faultRun := 0 }

/-- R129: the samples list with a further sample, the oldest dropped when it would exceed 4. -/
def pushSample (l : List Int) (t : Int) : List Int :=
  let m := l ++ [t]
  if 4 < m.length then m.drop 1 else m

/-- R129: a valid sample. -/
def Channel.validSample (c : Channel) (t : Int) (limit : Bool) : Channel :=
  let l := pushSample c.samples t
  let d := { c with samples := l, limitMark := limit }
  match c.status with
  | .fault =>
    if c.validRun < 2 then { d with validRun := c.validRun + 1 }
    else { d with validRun := 0, status := .valid, temperature := some (meanOf l) }
  | _ => { d with faultRun := 0, status := .valid, temperature := some (meanOf l) }

/-- R128 to R131: a sample of a channel. -/
def Channel.sample (c : Channel) (table : List (Nat × Int)) (code : Nat) : Channel :=
  let d := { c with lastCode := some code }
  match faultClass code with
  | some kind => d.faultSample kind
  | none =>
    let r := convertCode table code
    d.validSample (r.1 + c.offset) r.2

/-- R127: the temperature of a VALID channel. -/
def Channel.reading (c : Channel) : Option Int :=
  match c.status with
  | .valid => c.temperature
  | _ => none

/-! ### Zones (R133 to R135) -/

/-- R134: the demand state on a temperature. -/
def Zone.judge (z : Zone) (t : Int) : Zone :=
  match z.mode with
  | .monitor => { z with demand := .satisfied }
  | .chill =>
    if z.setpoint + z.differential ≤ t then { z with demand := .demand }
    else if t ≤ z.setpoint then { z with demand := .satisfied }
    else z

/-- R135, step 1: the duty starts. -/
def Zone.startDuty (z : Zone) (now : Nat) : Zone :=
  { z with demand := .demand, duty := some (.demand, now + Config.dutyDemand) }

/-- R132, R134, R135: what a sample makes of the zone of its channel. -/
def Zone.afterSample (z : Zone) (before after : Channel) (now : Nat) : Zone :=
  match after.status with
  | .fault =>
    if before.status ≠ .fault ∧ z.mode = .chill then z.startDuty now else z
  | .valid =>
    if faultClass (after.lastCode.getD 0) = none then
      match after.temperature with
      | some t => ({ z with duty := none }).judge t
      | none => z
    else z
  | .noData => z

/-- R133: a written zone re-judged. -/
def Zone.rejudge (z : Zone) (c : Channel) (now : Nat) : Zone :=
  match z.mode with
  | .monitor => { z with demand := .satisfied, duty := none }
  | .chill =>
    match c.status with
    | .valid => match c.temperature with
      | some t => z.judge t
      | none => z
    | .fault => if z.duty.isSome then z else z.startDuty now
    | .noData => { z with demand := .satisfied }

/-- R135, steps 2 and 3. -/
def Zone.nextDuty (z : Zone) (now : Nat) : Zone :=
  match z.duty with
  | some (.demand, _) => { z with demand := .satisfied, duty := some (.rest, now + Config.dutyRest) }
  | some (.rest, _) => { z with demand := .demand, duty := some (.demand, now + Config.dutyDemand) }
  | none => z

/-! ### Compressor and defrost (R137 to R144) -/

def State.setPlant (s : State) (p : Plant) : State := s.setCool { s.cool with plant := p }

def State.setZone (s : State) (z : ZoneId) (r : Zone) : State :=
  s.setCool { s.cool with zones := s.cool.zones.set z r }

def State.setChannel (s : State) (c : ChannelId) (r : Channel) : State :=
  s.setCool { s.cool with channels := s.cool.channels.set c r }

/-- Seconds as milliseconds. -/
def seconds (n : Nat) : Nat := 1000 * n
/-- Minutes as milliseconds. -/
def minutes (n : Nat) : Nat := 60000 * n
/-- Hours as milliseconds. -/
def hours (n : Nat) : Nat := 3600000 * n

/-- R138: min off has passed since the last stop. -/
def State.minOffPassed (s : State) : Bool :=
  decide (s.cool.plant.lastStop + seconds s.settings.minOff ≤ s.now)

/-- R138 to R141: the record acts on its state, defrost due and the demands. Where nothing is to be done it does
nothing, so it may be asked after any event. -/
def coolAct (s : State) : Out :=
  let p := s.cool.plant
  match p.phase with
  | .ready =>
    if p.due then (s.setPlant { p with phase := .heatWait }, [.load (.ask .heater)])
    else if s.cool.anyDemand then (s.setPlant { p with phase := .startWait }, [.load (.ask .compressor)])
    else s.only
  | .startWait =>
    if p.due then
      (s.setPlant { p with phase := .heatWait }, [.load (.withdraw .compressor), .load (.ask .heater)])
    else if s.cool.anyDemand then s.only
    else (s.setPlant { p with phase := .ready }, [.load (.withdraw .compressor)])
  | .running =>
    if p.minRun.isNone ∧ (p.due ∨ s.cool.anyDemand = false) then
      (s.setPlant { p with phase := if p.due then .heatWait else .lockout, lastStop := s.now },
        .load (.release .compressor) :: (if p.due then [.load (.ask .heater)] else []))
    else s.only
  | .lockout => s.only
  | .starting => s.only
  | .heatWait => s.only
  | .heating => s.only
  | .drip => s.only

/-- R138: LOCKOUT ends where min off has passed, and READY acts at once. -/
def lockoutTest (s : State) : Out :=
  if s.cool.plant.phase = .lockout ∧ s.minOffPassed then
    (s.setPlant { s.cool.plant with phase := .ready }, [.coolAct])
  else s.only

/-- R139: the compressor's grant; with no start waiting it is given back (log 33). -/
def compressorGiven (s : State) : Out :=
  let p := s.cool.plant
  if p.phase = .startWait then
    (s.setPlant { p with phase := .starting
                         startWindow := some (s.now + Config.startWindow)
                         minRun := some (s.now + seconds s.settings.minRun)
                         grantedAt := s.now }).only
  else (s, [.load (.release .compressor)])

/-- R142: the entry to HEATING at the heater's grant. -/
def heaterGiven (s : State) : Out :=
  let p := s.cool.plant
  if p.phase = .heatWait then
    (s.setPlant { p with phase := .heating, runMs := 0, due := false, heatedAt := s.now
                         heaterTimer := some (s.now + minutes s.settings.heaterMax) },
      [.heatTest])
  else (s, [.load (.release .heater)])

/-- The evaporator's channel. -/
def evaporator : ChannelId := 3

/-- R142: heating ends. -/
def endHeating (s : State) : Out :=
  (s.setPlant { s.cool.plant with phase := .drip, heaterTimer := none, dripAt := s.now
                                  dripTimer := some (s.now + seconds s.settings.drip) },
    [.load (.release .heater)])

/-- R142: the evaporator's valid temperature is at or above the termination temperature. -/
def State.termReached (s : State) : Bool :=
  match s.cool.channels[evaporator].reading with
  | some t => decide (s.settings.termination ≤ t)
  | none => false

/-- R142: the termination temperature is tested. -/
def heatTest (s : State) : Out :=
  if s.cool.plant.phase = .heating ∧ s.termReached then endHeating s else s.only

/-- R145: heating ends at once where its timer's expiry is past, or is now (log 49). -/
def heatPast (s : State) : Out :=
  match s.cool.plant.heaterTimer with
  | some t => if s.cool.plant.phase = .heating ∧ t ≤ s.now then endHeating s else s.only
  | none => s.only

/-- R143: DRIP ends. -/
def endDrip (s : State) : Out :=
  (s.setPlant { s.cool.plant with dripTimer := none
                                  phase := if s.minOffPassed then .ready else .lockout },
    [.coolAct])

/-- R145: DRIP ends at once where its timer's expiry is past, or is now (log 49). -/
def dripTest (s : State) : Out :=
  match s.cool.plant.dripTimer with
  | some t => if s.cool.plant.phase = .drip ∧ t ≤ s.now then endDrip s else s.only
  | none => s.only

/-- R141: the accumulated run time has reached the defrost interval. -/
def State.intervalReached (s : State) : Bool := decide (hours s.settings.defrostInterval ≤ s.cool.plant.runMs)

/-- R141: defrost due is set. -/
def State.setDue (s : State) : State := s.setPlant { s.cool.plant with due := true }

/-! ### Health monitor (R150 to R156) -/

/-- R150, R151, R154: a valid temperature, with the cause of a change. -/
def healthOnTemperature (h : Health) (limit t : Int) (now : Nat) : Health × Option ZoneCause :=
  match h with
  | .none => (.none, none)
  | .proving => if t ≤ limit then (.normal, some .proved) else (.held .proveFailed, some .proveFailed)
  | .normal => if t ≤ limit then (.normal, none) else (.warning now, some .excursion)
  | .warning start => if t ≤ limit then (.normal, some .recovered) else (.warning start, none)
  | .held c => (.held c, none)

/-- R153, R154: the zone's channel becomes FAULT. -/
def healthOnFault (h : Health) : Health × Option ZoneCause :=
  match h with
  | .none => (.none, none)
  | .proving => (.held .sensor, some .sensor)
  | .normal => (.held .sensor, some .sensor)
  | .warning _ => (.held .sensor, some .sensor)
  | .held c => (.held c, none)

/-- R152: the expiry of an excursion timer with an allowance in minutes. -/
def excursionEnd (start allowance : Nat) : Nat := start + minutes allowance

/-- R156: a NORMAL or WARNING zone re-judged after a WRITE of its limit or allowance. An expiry at this very moment is
past (log 49). -/
def healthRejudge (h : Health) (z : Zone) (t : Int) (now : Nat) : Health × Option ZoneCause :=
  match h with
  | .normal => if t ≤ z.healthLimit then (.normal, none) else (.warning now, some .excursion)
  | .warning start =>
    if t ≤ z.healthLimit then (.normal, some .recovered)
    else if excursionEnd start z.allowance ≤ now then (.held .expired, some .expired)
    else (.warning start, none)
  | .none => (.none, none)
  | .proving => (.proving, none)
  | .held c => (.held c, none)

/-- R156: the health record after a taken zone WRITE. A WRITE that leaves the three health fields as they stand
leaves the record as it stands. -/
def healthAfterWrite (h : Health) (before after : Zone) (c : Channel) (now : Nat) : Health × Option ZoneCause :=
  match before.healthFlag, after.healthFlag with
  | false, false => (h, none)
  | true, false => (.none, some .flagOff)
  | false, true => if c.status = .fault then (.held .sensor, some .flagOn) else (.proving, some .flagOn)
  | true, true =>
    if before.healthLimit = after.healthLimit ∧ before.allowance = after.allowance then (h, none)
    else match c.reading with
      | some t => healthRejudge h after t now
      | none => (h, none)

/-- R158, step 1: a zone's new health is handed to the selection map. -/
def State.handHealth (s : State) (z : ZoneId) (h : Health) : Out :=
  let s1 := s.setHealth (s.health.set z h)
  if h.state = s.map.zoneHealth[z] then s1.only
  else s1.takeMap { s.map with zoneHealth := s.map.zoneHealth.set z h.state }

/-- The phase of a zone's duty (R146, R147). -/
def Zone.dutyPhase (z : Zone) : Option DutyPhase := z.duty.map Prod.fst

/-- R127: the kind of the last fault sample, shown while FAULT. -/
def Channel.shownKind (c : Channel) : Option FaultKind :=
  match c.status with
  | .fault => c.faultKind
  | _ => none

/-- R146, R158: a ZONE report. -/
def State.zoneReport (s : State) (z : ZoneId) (cause : ZoneCause) : State :=
  let r := s.cool.zones[z]
  let c := s.cool.channels[zoneChannel z]
  s.report (.zone { zone := z, cause := cause, mode := r.mode, setpoint := r.setpoint
                    differential := r.differential, demand := r.demand, duty := r.dutyPhase
                    status := c.status, temperature := c.reading, limitMark := c.limitMark
                    faultKind := c.shownKind, health := (s.health[z]).state })

/-- R149, R146, R158: what a sample made reaches the health monitor, and the ZONE report follows (log 30).
`handed`: the sample made a temperature or changed the status. -/
def healthSample (z : ZoneId) (handed : Bool) (cause : Option ZoneCause) (s : State) : Out :=
  let c := s.cool.channels[zoneChannel z]
  let h := s.health[z]
  let r : Health × Option ZoneCause :=
    if handed then
      match c.status with
      | .valid => match c.temperature with
        | some t => healthOnTemperature h s.cool.zones[z].healthLimit t s.now
        | none => (h, none)
      | .fault => healthOnFault h
      | .noData => (h, none)
    else (h, none)
  let o := s.handHealth z r.1
  match r.2.or cause with
  | some k => (o.1, o.2 ++ [.zoneReport z k])
  | none => o

/-- R156, R158: the health records of written zones, one recomputation of the map and its notices for all of them,
then their ZONE reports in zone order (log 28). -/
def healthWrite (changes : List (ZoneId × Health × ZoneCause)) (s : State) : Out :=
  let hs := changes.foldl (fun (v : Vector Health 3) (c : ZoneId × Health × ZoneCause) => v.set c.1 c.2.1) s.health
  let zh := changes.foldl (fun (v : Vector HealthState 3) (c : ZoneId × Health × ZoneCause) => v.set c.1 c.2.1.state) s.map.zoneHealth
  let o := (s.setHealth hs).takeMap { s.map with zoneHealth := zh }
  (o.1, o.2 ++ changes.map fun c => .zoneReport c.1 c.2.2)

/-- R132: a channel's sample taken whole. -/
def takeSample (ch : ChannelId) (code : Nat) (s : State) : Out :=
  let before := s.cool.channels[ch]
  let after := before.sample s.cool.calibration code
  let s1 := s.setChannel ch after
  if h : ch.val < 3 then
    let z : ZoneId := ⟨ch.val, h⟩
    let made := decide (faultClass code = none) && decide (after.status = .valid)
    let cause : Option ZoneCause :=
      if before.status ≠ after.status then some .channel
      else if before.limitMark ≠ after.limitMark then some .limit
      else none
    (s1.setZone z ((s.cool.zones[z]).afterSample before after s.now),
      [.coolAct, .healthSample z (made || decide (before.status ≠ after.status)) cause])
  else (s1, [.heatTest, .coolAct])

/-- R147: the TEMPS report. -/
def tempsReport (s : State) : TempsReport where
  channels := s.cool.channels.toList.map fun c =>
    { status := c.status, temperature := c.reading, limitMark := c.limitMark, faultKind := c.shownKind
      lastCode := c.lastCode }
  zones := allZones.map fun z =>
    { demand := (s.cool.zones[z]).demand, duty := (s.cool.zones[z]).dutyPhase, damperOpen := s.cool.damperOpen z }
  phase := s.cool.plant.phase
  compressor := s.cool.plant.phase.compressorOn
  heater := s.cool.plant.phase.heaterOn
  fan := s.cool.plant.phase.fanOn
  runSeconds := s.cool.plant.runMs / 1000
  due := s.cool.plant.due
  sinceStop := s.now - s.cool.plant.lastStop

end Sys2Proof.Machine
end

