-- ==== Sys2Proof/Machine/Cascade.lean ====
section
/-! DEFINITION. Running an event: the inner steps one by one, then what follows every event (R31, R110, R37), and
what ends a step (R181, R172). -/

namespace Sys2Proof.Machine

/-- R120: a grant is handed to its requester. -/
def giveGrant (who : Requester) (s : State) : Out :=
  match who with
  | .spiral => saleGiven s
  | .testDrive => testGiven s
  | .payout => payGiven s
  | .stacking => stackGiven s
  | .compressor => compressorGiven s
  | .heater => heaterGiven s

/-- One inner step. -/
def runOne (j : Job) (s : State) : Out :=
  match j with
  | .load op => loadStep op s
  | .give who _ => giveGrant who s
  | .handDone ops => (s, ops.map .load)
  | .payTell => payTell s
  | .coinReport fill coin dest => (s.coinIn fill coin dest).only
  | .billStacked bill amount => billStackedTail bill amount s
  | .dropBillFrames => s.dropBillFrames.only
  | .stackAsk => stackAsk s
  | .stackGaveUp => stackGaveUp s
  | .stackUncertain => stackUncertain s
  | .returnEscrow => s.returnEscrow.only
  | .payPlan => payPlan s
  | .payNext => payNext s
  | .payOweEnd => payOweEnd s
  | .payEnd => payEnd s
  | .payLost => payLost s
  | .escrowLost => escrowLost s
  | .cardGone => cardClose s
  | .stackOutcome stacked => stackOutcome stacked s
  | .showStacking => s.showStacking.only
  | .soldAnswer number source => (s.answer .select .ok (.sold number source)).only
  | .saleTry => saleTry s
  | .saleDriven column result turns stopMark => saleDriven column result turns stopMark s
  | .saleEnd outcome => saleEnd outcome s
  | .saleFinish released => saleFinish released s
  | .returnTest => returnTest s
  | .returnAct => returnAct s
  | .notice column cause => saleNotice column cause s
  | .cardLost => cardLost s
  | .testReport column outcome drop before => (s.testResult column outcome drop before).only
  | .testNever column outcome => (s.testNever column outcome).only
  | .serviceLeft => serviceLeft s
  | .coolAct => coolAct s
  | .lockoutTest => lockoutTest s
  | .heatTest => heatTest s
  | .heatPast => heatPast s
  | .dripTest => dripTest s
  | .healthSample zone handed cause => healthSample zone handed cause s
  | .healthWrite changes => healthWrite changes s
  | .zoneReport zone cause => (s.zoneReport zone cause).only
  | .leaveActive station cause => leaveActive station cause s
  | .stationGone station cause => (s.stationReport station cause .none).only
  | .lineRestart => lineRestart s
  | .lineBreak => s.holdBreak.only
  | .saleRestart => s.saleRestart.only
  | .modeRestart => modeRestart s
  | .showRestart => s.showRestart.only
  | .modeTail before cause => (s.modeTail before cause).only

/-- R120: while a hand-on is in progress, what reaches the arbiter waits for its end; where hand-ons are nested, for the
end of the innermost (log 12). -/
def deferTo (op : LoadOp) : List Job → Option (List Job)
  | [] => none
  | .handDone ops :: js => some (.handDone (ops ++ [op]) :: js)
  | j :: js => (deferTo op js).map (j :: ·)

/-- A job and the jobs behind it, one step on: what a job hands on is run before what stands behind it. -/
def runJob (j : Job) (js : List Job) (s : State) : State × List Job :=
  match j with
  | .load op =>
    match deferTo op js with
    | some js' => (s, js')
    | none => ((loadStep op s).1, (loadStep op s).2 ++ js)
  | j => ((runOne j s).1, (runOne j s).2 ++ js)

/-- The inner steps of an event, up to a bound (log 11). -/
def runJobs : Nat → List Job → State → State
  | _, [], s => s
  | 0, _ :: _, s => s.setCutShort true
  | n + 1, j :: js, s => runJobs n (runJob j js s).2 (runJob j js s).1

/-- An event's own effect, run to its end. -/
def runOut (o : Out) : State := runJobs Config.innerSteps o.2 o.1

/-- R31: what a CREDIT report carries. -/
def State.creditReport (s : State) : CreditReport where
  credit := s.ledger.credit
  hold := s.ledger.hold
  escrowValue := s.escrowValue
  pending := s.ledger.pending
  card := s.card

/-- R31: the CREDIT report of an event. -/
def State.creditEnd (s : State) (before : State) : State :=
  if s.creditReport = before.creditReport then s else s.report (.credit s.creditReport)

/-- R110: the event is not of a sale: IDLE before and after it, with no sale number given. -/
def saleApart (before after : State) : Bool :=
  before.saleIdle && after.saleIdle && decide (before.sale.lastNumber = after.sale.lastNumber)

/-- R186, step 4: a change of the effective mode has handed a message of its own. -/
def modeShown (before after : Mode) : Bool := decide (before = .vend) != decide (after = .vend)

/-- R110: the CREDIT message of an event (log 6, log 22). -/
def State.panelEnd (s : State) (before : State) : State :=
  if saleApart before s ∧ modeShown before.mode.effective s.mode.effective = false ∧
      (s.ledger.credit ≠ before.ledger.credit ∨ s.escrowValue ≠ before.escrowValue ∨ s.card ≠ before.card) then
    s.show .credit s.funds
  else s

/-- What follows an event taken whole (log 6). -/
def State.eventEnd (s : State) (before : State) : State := ((s.creditEnd before).panelEnd before).refreshSet

/-- An event from a state `before`, with its own effect `o`. -/
def event (before : State) (o : Out) : State := (runOut o).eventEnd before

/-- R181: an idle transmitter starts the next frame unless HOLD is asserted. -/
def State.transmit (s : State) : State :=
  if s.port.sending.isSome ∨ s.pins.hold then s
  else match s.port.slot with
    | some a => s.setPort { s.port with slot := none, sending := some (.answer a) }
    | none => match s.port.reports with
      | r :: rs => s.setPort { s.port with reports := rs, sending := some (.report r) }
      | [] => s

/-- What ends a step (log 6). -/
def State.stepEnd (s : State) : State := (s.transmit.refreshSet.transmit).beginSlot

/-- A command that is one event. -/
def finish (before : State) (o : Out) : Host.Outcome State Fault Refusal := .next (event before o).stepEnd

end Sys2Proof.Machine
end

