-- ==== Sys2Proof/Machine/Replies.lean ====
section
/-! DEFINITION. The commands of the peripheral line (R165 to R172). -/

namespace Sys2Proof.Machine

/-- LINE_BREAK_END (R166): the break ends, every probe falls due, and the line is IDLE. -/
def execLineBreakEnd (s : State) : Host.Outcome State Fault Refusal :=
  match s.line.phase with
  | .lineBreak ends =>
    let s1 := s.advanceTo ends
    finish s (s1.setLine { s1.line with phase := .idle }).only
  | .idle => .next s
  | .exchange _ => .next s

/-- PROBE_DUE (R167, R172): the probe of an ABSENT station falls due. -/
def execProbeDue (station : StationId) (s : State) : Host.Outcome State Fault Refusal :=
  match (s.line.stations[station]).active, (s.line.stations[station]).probeAt with
  | false, some t => finish s (s.advanceTo t).only
  | _, _ => .next s

/-- RETRY_AT (R170, R172): retry at of a station passes. -/
def execRetryAt (station : StationId) (s : State) : Host.Outcome State Fault Refusal :=
  match (s.line.stations[station]).retryAt with
  | some t => finish s (s.advanceTo t).only
  | none => .next s

/-- R165: an item, acted on by the block that owns it. -/
def itemOut (station : StationId) (i : Item) (s : State) : Out :=
  if i.takenFrom station then
    match i with
    | .coinSeen coin dest => coinSeen coin dest s
    | .paid tube coins => paidItem tube coins s
    | .tubeSense tube sense => tubeSense tube sense s
    | .billSeen bill event => billSeen bill event s
    | .cardOn funds => cardOn funds s
    | .cardOff => cardClose s
    | .chargeAnswer number approve => chargeAnswer number approve s
    | .key selection => keyItem selection s
    | .lever => leverPulled s
    | .fault code => (s.stationReport station .stationFault (.code code)).only
  else (s.stationReport station .misplaced (.item i)).only

/-- R165: the items that stand, in list order, each one event. -/
def takeItems (station : StationId) : List Item → State → State
  | [], s => s
  | i :: is, s => takeItems station is (event s (itemOut station i s))

/-- R169, steps 1 to 4. -/
def State.replyTaken (s : State) (x : Exchange) (payload : List Byte) (unknown : Bool) : State :=
  ((s.setStation x.station (s.line.stations[x.station]).answered).mirror x payload).flagUnknown unknown

/-- R167, R176: a usable REPLY to a JOIN (log 14). Its MIRROR stands before the STATION report (log 57). -/
def joinTaken (x : Exchange) (payload : List Byte) (s : State) : State :=
  match payload with
  | [role, level] => joinReply x.station role level (s.mirror x payload)
  | _ => s

/-- R169: a usable REPLY, up to the end of its items. -/
def takeReply (x : Exchange) (payload : List Byte) (items : List Item) (unknown : Bool) (s : State) : State :=
  if x.request.kind = .join then joinTaken x payload s
  else takeItems x.station items (s.replyTaken x payload unknown)

/-- R168: a judged reply, and the end of the exchange. -/
def exchangeEnds (x : Exchange) (j : ReplyJudgement) (s : State) : State :=
  match j with
  | .reply payload items unknown =>
    let s1 := takeReply x payload items unknown s
    event s1 (endExchange s1)
  | .wait => event s (waitTaken x s)
  | .miss kindUnknown => event s (missTaken x (s.flagUnknown kindUnknown))

/-- REPLY_RECEIVED (R168 to R170): the reply to the exchange in progress has come complete within the window. -/
def execReplyReceived (bytes : List Byte) (s : State) : Host.Outcome State Fault Refusal :=
  match s.line.phase with
  | .exchange x => .next (exchangeEnds x (judgeReply x bytes) s).stepEnd
  | .lineBreak _ => .next s
  | .idle => .next s

/-- REPLY_WINDOW_EXPIRY (R168, R170): no sync byte within the window. -/
def execReplyWindowExpiry (s : State) : Host.Outcome State Fault Refusal :=
  match s.line.phase with
  | .exchange x => .next (exchangeEnds x (.miss false) (s.advanceTo x.windowEnd)).stepEnd
  | .lineBreak _ => .next s
  | .idle => .next s

/-- REPLY_GAP (R168, R170): a gap leaves the reply incomplete, a miss whatever the bytes that came before it; a kind
other than REPLY and WAIT among them is flagged (log 15). With no bytes given none had come. -/
def execReplyGap (s : State) (bytes : List Byte := []) : Host.Outcome State Fault Refusal :=
  match s.line.phase with
  | .exchange x => .next (exchangeEnds x (.miss (gapUnknown x bytes)) (s.advanceTo x.windowEnd)).stepEnd
  | .lineBreak _ => .next s
  | .idle => .next s

end Sys2Proof.Machine
end

