-- ==== Sys2Proof/Machine/Operands.lean ====
section
/-! DEFINITION. The operands of the requests: index checks, clamps, and the records a WRITE carries read into the
part's own records (R177, R183). Each reader answers `none` where a field is outside its named values, and
otherwise the record with every number within its range and whether a number was clamped. -/

namespace Sys2Proof.Machine

/-- A number clamped into a range, and whether it was (00_scope.md, Refused and clamped). -/
def clampNat (lo hi n : Nat) : Nat × Bool := (max lo (min hi n), decide (n < lo) || decide (hi < n))

/-- A signed number clamped into a range, and whether it was. -/
def clampInt (lo hi n : Int) : Int × Bool := (max lo (min hi n), decide (n < lo) || decide (hi < n))

/-- R183, step 1: records at an index within a table of `size` records, no more than the most of a WRITE (log 10). -/
def indexFits (size most index n : Nat) : Bool :=
  decide (index < size) && decide (index + n ≤ size) && decide (n ≤ most)

/-- Records put into a table from an index on, each joined with the record it replaces. -/
def putRecords {α β : Type} {n : Nat} (v : Vector α n) (index : Nat) (l : List β) (f : α → β → α) : Vector α n :=
  Vector.ofFn fun k =>
    if index ≤ k.val then
      match l[k.val - index]? with
      | some r => f v[k] r
      | none => v[k]
    else v[k]

/-- Every record read, or `none` where one is outside its named values; with whether any was clamped. -/
def readAll {α β : Type} (f : α → Option (β × Bool)) : List α → Option (List β × Bool)
  | [] => some ([], false)
  | a :: l => match f a, readAll f l with
    | some b, some r => some (b.1 :: r.1, b.2 || r.2)
    | _, _ => none

/-- R1, R2, R177: a coin or bill record; `most` is the largest value. -/
def readMoney (most : Nat) (r : RawValue) : MoneyType × Bool :=
  let v := clampNat 0 most r.value.toNat
  ({ value := v.1, accept := r.flags.getLsbD 0, assured := r.flags.getLsbD 1 }, v.2)

/-- R177: a coin type, or 0xFF for NONE. -/
def readCoinType (b : Byte) : Option (Option CoinId) :=
  if h : b.toNat < 16 then some (some ⟨b.toNat, h⟩)
  else if b = 0xFF#8 then some none
  else none

/-- R4: a tube record. Every accepted WRITE makes the trust EXACT. -/
def readTube (r : RawTube) : Option (Tube × Bool) :=
  match readCoinType r.coinType with
  | none => none
  | some ct =>
    let cap := clampNat 1 Config.tubeMax r.capacity.toNat
    let count := clampNat 0 cap.1 r.count.toNat
    let full := clampNat 1 cap.1 r.full.toNat
    let low := clampNat 0 cap.1 r.low.toNat
    some ({ coinType := ct, count := count.1, capacity := cap.1, full := full.1, low := low.1, trust := .exact },
      cap.2 || count.2 || full.2 || low.2)

/-- R177: a column number, or 0xFF for NONE or END. -/
def readLink (b : Byte) : Option (Option ColumnId) :=
  if h : b.toNat < 64 then some (some ⟨b.toNat, h⟩)
  else if b = 0xFF#8 then some none
  else none

/-- R56, R177: a selection record; its cursor is not carried. -/
def readSelection (r : RawSelection) : Option (Selection × Bool) :=
  match readLink r.head with
  | none => none
  | some head =>
    if r.modes.toNat < 4 then
      let p := clampNat 0 Config.moneyMax r.price.toNat
      some ({ price := p.1, head := head
              search := if r.modes.getLsbD 0 then .rotate else .first
              cursor := none
              approval := if r.modes.getLsbD 1 then .host else .none }, p.2)
    else none

/-- R177: a column state. -/
def readColState (n : Nat) : Option ColState :=
  match n with
  | 0 => some .available
  | 1 => some .empty
  | 2 => some .jammed
  | 3 => some .fault
  | 4 => some .disabled
  | _ => none

/-- R177: a zone number. -/
def readZoneId (n : Nat) : Option ZoneId := if h : n < 3 then some ⟨n, h⟩ else none

/-- R57, R177: a product count, or 0xFF for UNCOUNTED; with whether it was clamped. -/
def readCount (b : Byte) : Option Nat × Bool :=
  if b = 0xFF#8 then (none, false)
  else
    let c := clampNat 0 99 b.toNat
    (some c.1, c.2)

/-- R57: a record written AVAILABLE with count 0 is stored EMPTY. -/
def storedState (st : ColState) (count : Option Nat) : ColState × Bool :=
  if st = .available ∧ count = some 0 then (.empty, true) else (st, false)

/-- R57, R177: a column record. Bits 3, 6 and 7 of its first byte are no named bits. -/
def readColumn (r : RawColumn) : Option (Column × Bool) :=
  let b := r.stateZone.toNat
  match readColState (b % 16), (if b < 64 then readZoneId (b / 16) else none), readLink r.next with
  | some st, some z, some next =>
    let turns := clampNat 1 3 r.turns.toNat
    let count := readCount r.count
    let kept := storedState st count.1
    some ({ state := kept.1, zone := z, turns := turns.1, count := count.1, next := next },
      turns.2 || count.2 || kept.2)
  | _, _, _ => none

/-- Each code above the one before it (R126). -/
def ascending : List Nat → Bool
  | a :: b :: l => decide (a < b) && ascending (b :: l)
  | _ => true

/-- R126: the calibration table. -/
def readCalibration (l : List RawBreakpoint) : Option (List (Nat × Int) × Bool) :=
  let codes := l.map fun p => p.code.toNat
  if 2 ≤ l.length ∧ l.length ≤ 16 ∧ codes.all (fun c => decide (c ≤ 1023)) ∧ ascending codes then
    let ts := l.map fun p => (p.code.toNat, clampInt (-400) 1200 p.temperature.toInt)
    some (ts.map fun p => (p.1, p.2.1), ts.any fun p => p.2.2)
  else none

/-- R127: an offset. -/
def readOffset (b : Byte) : Int × Bool := clampInt (-50) 50 b.toInt

/-- R133, R177: a zone record; the demand state and the duty are not carried. -/
def readZone (r : RawZone) : Option (Zone × Bool) :=
  if r.mode.toNat < 2 then
    let sp := clampInt (-50) 150 r.setpoint.toInt
    let df := clampNat 5 50 r.differential.toNat
    let hl := clampInt (-20) 100 r.healthLimit.toInt
    let al := clampNat 10 240 r.allowance.toNat
    some ({ mode := if r.mode = 0#8 then .monitor else .chill
            setpoint := sp.1, differential := df.1, healthFlag := decide (r.healthFlag ≠ 0#8)
            healthLimit := hl.1, allowance := al.1, demand := .satisfied, duty := none },
      sp.2 || df.2 || hl.2 || al.2)
  else none

/-- A settings record read: the settings, the budget, and whether a number was clamped (R32, R92, R124, R145). -/
def readSettings (r : RawSettings) : Settings × Nat × Bool :=
  let cm := clampNat 1 Config.moneyMax r.creditMax.toNat
  let ct := clampNat 1 4 r.columnTries.toNat
  let bg := clampNat 4 15 r.budget.toNat
  let mo := clampNat 120 600 r.minOff.toNat
  let mr := clampNat 30 300 r.minRun.toNat
  let di := clampNat 2 24 r.defrostInterval.toNat
  let hm := clampNat 10 60 r.heaterMax.toNat
  let tt := clampInt 20 150 r.termination.toInt
  let dr := clampNat 60 600 r.drip.toNat
  ({ creditMax := cm.1, columnTries := ct.1, multiVend := decide (r.multiVend ≠ 0#8), minOff := mo.1
     minRun := mr.1, defrostInterval := di.1, heaterMax := hm.1, termination := tt.1, drip := dr.1 },
    bg.1, cm.2 || ct.2 || bg.2 || mo.2 || mr.2 || di.2 || hm.2 || tt.2 || dr.2)

/-- R157: an allowance no longer than a defrost's heating and drip. -/
def conflicts (allowance heaterMax drip : Nat) : Bool := decide (allowance * 60 ≤ heaterMax * 60 + drip)

/-- R182: the count of a READ, and whether it was clamped. -/
def readCountOf (size most first count : Nat) : Nat × Bool := clampNat 1 (min most (size - first)) count

/-- R185: a mode number. -/
def readMode (b : Byte) : Option Mode :=
  match b.toNat with
  | 0 => some .setup
  | 1 => some .vend
  | 2 => some .service
  | _ => none

/-- R175: a relay rule byte: down allowed, up mirror. -/
def readRelay (b : Byte) : Bool × Bool := (b.getLsbD 0, b.getLsbD 1)

end Sys2Proof.Machine
end

