-- ==== Sys2Proof/Machine/Writes.lean ====
section
/-! DEFINITION. How the service port takes a request (R178, R180), and the ten WRITEs (R183 and the owners' rules
it names). -/

namespace Sys2Proof.Machine

/-! ### Taking a request -/

/-- R178: a header that R161 corrected flags HEADER_CORRECTED. -/
def State.noteHeader (s : State) (h : ReqHeader) : State := if h.corrected then s.flag .headerCorrected else s

/-- A request refused: its ANSWER, and nothing else of it. -/
def refuse (kind : ReqKind) (code : ResultCode) (s : State) : Out := (s.answer kind code .empty).only

/-- R178, R180: a frame that passed the other steps is discarded while the slot is full; otherwise it is a request,
refused BAD_INDEX where its station field is 1 to 7, and else taken as `body` says. -/
def takeRequest (h : ReqHeader) (kind : ReqKind) (body : State → Out) (s : State) :
    Host.Outcome State Fault Refusal :=
  let s1 := s.noteHeader h
  if s1.port.slot.isSome then .next (s1.flag .requestOverrun)
  else if h.station ≠ 0 then finish s (refuse kind .badIndex s1)
  else finish s (body s1)

/-- The code of a taken request (00_scope.md, Refused and clamped). -/
def takenCode (clamped : Bool) : ResultCode := if clamped then .clamped else .ok

/-- A taken WRITE: its ANSWER, then its consequences (log 9). -/
def takenWrite (clamped : Bool) (s : State) (jobs : List Job) : Out :=
  (s.answer .write (takenCode clamped) .empty, jobs)

/-! ### Coin and bill tables (R1, R2) -/

/-- R1: the WRITE would change the value of some coin type. -/
def changesValue (before after : Vector MoneyType 16) : Bool :=
  (List.finRange 16).any fun t => decide (before[t].value ≠ after[t].value)

/-- R1. -/
def writeCoins (index : Nat) (records : List RawValue) (s : State) : Out :=
  if indexFits 16 16 index records.length then
    let rs := records.map (readMoney Config.coinMax)
    let coins := putRecords s.cash.coins index rs fun _ r => r.1
    if changesValue s.cash.coins coins ∧ s.payIdle = false then refuse .write .inUse s
    else takenWrite (rs.any Prod.snd) (s.setCash { s.cash with coins := coins }) []
  else refuse .write .badIndex s

/-- WRITE of coin records (R1, R183). -/
def execWriteCoinTable (h : ReqHeader) (index : Byte) (records : List RawValue) (s : State) :
    Host.Outcome State Fault Refusal :=
  takeRequest h .write (writeCoins index.toNat records) s

/-- R2. -/
def writeBills (index : Nat) (records : List RawValue) (s : State) : Out :=
  if indexFits 8 8 index records.length then
    let rs := records.map (readMoney Config.moneyMax)
    takenWrite (rs.any Prod.snd)
      (s.setCash { s.cash with bills := putRecords s.cash.bills index rs fun _ r => r.1 }) []
  else refuse .write .badIndex s

/-- WRITE of bill records (R2, R183). -/
def execWriteBillTable (h : ReqHeader) (index : Byte) (records : List RawValue) (s : State) :
    Host.Outcome State Fault Refusal :=
  takeRequest h .write (writeBills index.toNat records) s

/-! ### Tube table (R4) -/

/-- R4: a PAY for one of `n` tubes from `index` on is outstanding: a command in flight names it. -/
def tubesInUse (s : State) (index n : Nat) : Bool :=
  match s.payout.inFlight with
  | some c => decide (index ≤ c.tube.val) && decide (c.tube.val < index + n)
  | none => false

/-- R4, R5. -/
def writeTubes (index : Nat) (records : List RawTube) (s : State) : Out :=
  if indexFits 6 6 index records.length then
    match readAll readTube records with
    | none => refuse .write .badValue s
    | some (ts, clamped) =>
      if tubesInUse s index records.length then refuse .write .inUse s
      else
        let s1 := s.setCash { s.cash with tubes := putRecords s.cash.tubes index ts fun _ t => t }
        ((takenWrite clamped s1 []).1.reroute).only
  else refuse .write .badIndex s

/-- WRITE of tube records (R4, R183). -/
def execWriteTubeTable (h : ReqHeader) (index : Byte) (records : List RawTube) (s : State) :
    Host.Outcome State Fault Refusal :=
  takeRequest h .write (writeTubes index.toNat records) s

/-! ### Selection and column tables (R56 to R62) -/

/-- R56: a written selection keeps its cursor unless its search mode changes. -/
def Selection.written (old new : Selection) : Selection :=
  { new with cursor := if old.search = new.search then old.cursor else none }

/-- R56, R59, R61, R64. -/
def writeSelections (index : Nat) (records : List RawSelection) (s : State) : Out :=
  if indexFits 100 20 index records.length then
    match readAll readSelection records with
    | none => refuse .write .badValue s
    | some (rs, clamped) =>
      let m := { s.map with selections := putRecords s.map.selections index rs Selection.written }
      if m.linksKept then
        let o := s.takeMap m.cleanCursors
        takenWrite clamped o.1 o.2
      else refuse .write .listError s
  else refuse .write .badIndex s

/-- WRITE of selection records (R56, R183). -/
def execWriteSelectionTable (h : ReqHeader) (index : Byte) (records : List RawSelection) (s : State) :
    Host.Outcome State Fault Refusal :=
  takeRequest h .write (writeSelections index.toNat records) s

/-- R60: a column of the WRITE is held by a drive attempt. -/
def columnsHeld (s : State) (index n : Nat) : Bool :=
  match s.drive.attempt with
  | some a => decide (index ≤ a.column.val) && decide (a.column.val < index + n)
  | none => false

/-- R62, R70: the COLUMN reports of a WRITE, in ascending column order. -/
def State.writtenReports (s : State) (before : SelMap) : State :=
  allColumns.foldl (fun s c => s.columnChanged c before.columns[c].state .write) s

/-- R57 to R64. The COLUMN reports stand before what the notices do (log 29). -/
def writeColumns (index : Nat) (records : List RawColumn) (s : State) : Out :=
  if indexFits 64 24 index records.length then
    match readAll readColumn records with
    | none => refuse .write .badValue s
    | some (cs, clamped) =>
      if columnsHeld s index records.length then refuse .write .inUse s
      else
        let m := { s.map with columns := putRecords s.map.columns index cs fun _ c => c }
        if m.linksKept then
          let o := s.takeMap m.cleanCursors
          ((takenWrite clamped o.1 []).1.writtenReports s.map, o.2)
        else refuse .write .listError s
  else refuse .write .badIndex s

/-- WRITE of column records (R57, R183). -/
def execWriteColumnTable (h : ReqHeader) (index : Byte) (records : List RawColumn) (s : State) :
    Host.Outcome State Fault Refusal :=
  takeRequest h .write (writeColumns index.toNat records) s

/-! ### Cooling tables (R126, R127, R133) -/

/-- R126. -/
def writeCalibration (index : Nat) (points : List RawBreakpoint) (s : State) : Out :=
  if index = 0 then
    match readCalibration points with
    | none => refuse .write .badValue s
    | some (t, clamped) => takenWrite clamped (s.setCool { s.cool with calibration := t }) []
  else refuse .write .badIndex s

/-- WRITE of the calibration table (R126, R183). -/
def execWriteCalibrationTable (h : ReqHeader) (index : Byte) (points : List RawBreakpoint) (s : State) :
    Host.Outcome State Fault Refusal :=
  takeRequest h .write (writeCalibration index.toNat points) s

/-- R127. -/
def writeChannels (index : Nat) (offsets : List Byte) (s : State) : Out :=
  if indexFits 4 4 index offsets.length then
    let rs := offsets.map readOffset
    takenWrite (rs.any Prod.snd)
      (s.setCool { s.cool with channels := putRecords s.cool.channels index rs fun c r => { c with offset := r.1 } })
      []
  else refuse .write .badIndex s

/-- WRITE of channel records (R127, R183). -/
def execWriteChannelTable (h : ReqHeader) (index : Byte) (offsets : List Byte) (s : State) :
    Host.Outcome State Fault Refusal :=
  takeRequest h .write (writeChannels index.toNat offsets) s

/-- R133: the part keeps the demand state and the duty of a written zone. -/
def Zone.written (old new : Zone) : Zone := { new with demand := old.demand, duty := old.duty }

/-- R157, the zone WRITE. -/
def zoneConflict (s : State) (zs : List Zone) : Bool :=
  zs.any fun z => z.healthFlag && conflicts z.allowance s.settings.heaterMax s.settings.drip

/-- The zones of a WRITE. -/
def writtenZones (index n : Nat) : List ZoneId :=
  allZones.filter fun z => decide (index ≤ z.val) && decide (z.val < index + n)

/-- R156: what the WRITE makes of a zone's health, with the cause of its ZONE report (R146, R158). -/
def writtenHealth (before after : State) (z : ZoneId) : ZoneId × Health × ZoneCause :=
  let r := healthAfterWrite before.health[z] before.cool.zones[z] after.cool.zones[z]
    before.cool.channels[zoneChannel z] before.now
  (z, r.1, r.2.getD .write)

/-- R133, R156, R157. The compressor record acts, with what it hands on, before the health monitor (log 28). -/
def writeZones (index : Nat) (records : List RawZone) (s : State) : Out :=
  if indexFits 3 3 index records.length then
    match readAll readZone records with
    | none => refuse .write .badValue s
    | some (zs, clamped) =>
      if zoneConflict s zs then refuse .write .conflict s
      else
        let put := putRecords s.cool.zones index zs Zone.written
        let ids := writtenZones index records.length
        let zones := ids.foldl
          (fun (v : Vector Zone 3) (z : ZoneId) => v.set z ((v[z]).rejudge s.cool.channels[zoneChannel z] s.now)) put
        let s1 := s.setCool { s.cool with zones := zones }
        takenWrite clamped s1 [.coolAct, .healthWrite (ids.map (writtenHealth s s1))]
  else refuse .write .badIndex s

/-- WRITE of zone records (R133, R183). -/
def execWriteZoneTable (h : ReqHeader) (index : Byte) (records : List RawZone) (s : State) :
    Host.Outcome State Fault Refusal :=
  takeRequest h .write (writeZones index.toNat records) s

/-! ### Settings (R32, R92, R124, R125, R145, R157) -/

/-- R157, the settings WRITE. -/
def settingsConflict (s : State) (t : Settings) : Bool :=
  decide (t.heaterMax ≠ s.settings.heaterMax ∨ t.drip ≠ s.settings.drip) &&
    allZones.any fun z => (s.cool.zones[z]).healthFlag && conflicts (s.cool.zones[z]).allowance t.heaterMax t.drip

/-- R145, min off: READY and START_WAIT return to LOCKOUT where min off has not passed. -/
def minOffWritten (s : State) : Out :=
  let p := s.cool.plant
  match p.phase with
  | .ready => if s.minOffPassed then s.only else (s.setPlant { p with phase := .lockout }).only
  | .startWait =>
    if s.minOffPassed then s.only
    else (s.setPlant { p with phase := .lockout }, [.load (.withdraw .compressor)])
  | _ => s.only

/-- R145, min run: the expiry becomes the grant plus the new value, past where that is shorter than the time since the
grant. -/
def minRunWritten (p : Plant) (minRun now : Nat) : Option Nat :=
  if p.phase.compressorOn then
    (if p.grantedAt + seconds minRun < now then none else some (p.grantedAt + seconds minRun))
  else p.minRun

/-- R145: what the new settings make of the record before it acts. -/
def plantWritten (p : Plant) (t : Settings) (now : Nat) : Plant :=
  { p with
    minRun := minRunWritten p t.minRun now
    due := p.due || decide (hours t.defrostInterval ≤ p.runMs)
    heaterTimer := p.heaterTimer.map fun _ => p.heatedAt + minutes t.heaterMax
    dripTimer := p.dripTimer.map fun _ => p.dripAt + seconds t.drip }

/-- R124, R125, R145, R157. The record takes its new values first, with min off's return to LOCKOUT; the recount's pass
comes next, and then min off's withdrawal, the ends of heating and DRIP, LOCKOUT's test and the record's action
(log 48). -/
def writeSettings (index : Nat) (records : List RawSettings) (s : State) : Out :=
  match index, records with
  | 0, [r] =>
    let (t, budget, clamped) := readSettings r
    if budget < s.load.granted then refuse .write .inUse s
    else if settingsConflict s t then refuse .write .conflict s
    else
      let s1 := (s.setSettings t).setLoad { s.load with budget := budget }
      let o := minOffWritten (s1.setPlant (plantWritten s1.cool.plant t s.now))
      takenWrite clamped o.1
        (.load .recount :: o.2 ++ [.heatTest, .heatPast, .dripTest, .lockoutTest, .coolAct])
  | _, _ => refuse .write .badIndex s

/-- WRITE of the settings record (section 11.3, R183). -/
def execWriteSettings (h : ReqHeader) (index : Byte) (records : List RawSettings) (s : State) :
    Host.Outcome State Fault Refusal :=
  takeRequest h .write (writeSettings index.toNat records) s

/-! ### Relay table (R175) -/

/-- R175. -/
def writeRelays (index : Nat) (rules : List Byte) (s : State) : Out :=
  if indexFits 7 7 index rules.length then
    let stations := putRecords s.line.stations index (rules.map readRelay)
      fun st r => { st with downAllowed := r.1, upMirror := r.2 }
    takenWrite false (s.setLine { s.line with stations := stations }) []
  else refuse .write .badIndex s

/-- WRITE of relay records (R175, R183). -/
def execWriteRelayTable (h : ReqHeader) (index : Byte) (rules : List Byte) (s : State) :
    Host.Outcome State Fault Refusal :=
  takeRequest h .write (writeRelays index.toNat rules) s

end Sys2Proof.Machine
end

