-- ==== Sys2Proof/Machine/Requests.lean ====
section
/-! DEFINITION. The service-link requests but the WRITEs (chapters 11, 6, 5, 3, 8, 9). -/

namespace Sys2Proof.Machine

/-! ### READ (R182) -/

/-- Section 11.3: the records of a table and the most of a READ. -/
def tableSizes : Nat → Option (Nat × Nat)
  | 0 => some (16, 16)
  | 1 => some (8, 8)
  | 2 => some (6, 6)
  | 3 => some (100, 20)
  | 4 => some (64, 24)
  | 5 => some (1, 1)
  | 6 => some (4, 4)
  | 7 => some (3, 3)
  | 8 => some (1, 1)
  | 9 => some (7, 7)
  | _ => none

/-- A part of a list. -/
def slice {α : Type} (l : List α) (first count : Nat) : List α := (l.drop first).take count

/-- R182: the records a READ carries. -/
def tableRecords (s : State) (table first count : Nat) : TableRecords :=
  match table with
  | 0 => .coins (slice s.cash.coins.toList first count)
  | 1 => .bills (slice s.cash.bills.toList first count)
  | 2 => .tubes (slice s.cash.tubes.toList first count)
  | 3 => .selections (slice s.map.selections.toList first count)
  | 4 => .columns (slice (s.map.columns.toList.map fun c => (c, s.map.recordSells c)) first count)
  | 5 => .calibration s.cool.calibration
  | 6 => .channels (slice s.cool.channels.toList first count)
  | 7 => .zones (slice (allZones.map fun z => (s.cool.zones[z], (s.health[z]).state)) first count)
  | 8 => .settings s.settings s.load.budget
  | _ => .relay (slice (s.line.stations.toList.map fun r => (r.downAllowed, r.upMirror)) first count)

/-- R182. -/
def readTable (table first count : Nat) (s : State) : Out :=
  match tableSizes table with
  | none => refuse .read .badIndex s
  | some (size, most) =>
    if first < size then
      let c := readCountOf size most first count
      (s.answer .read (takenCode c.2) (.records table first c.1 (tableRecords s table first c.1))).only
    else refuse .read .badIndex s

/-- READ (R182). -/
def execRead (h : ReqHeader) (table first count : Byte) (s : State) : Host.Outcome State Fault Refusal :=
  takeRequest h .read (readTable table.toNat first.toNat count.toNat) s

/-! ### MODE, FILL (R185, R187) -/

/-- R185, R186. -/
def setRequested (m : Mode) (s : State) : Out :=
  let s1 := (s.answer .mode .ok .empty).setMode { s.mode with requested := m }
  (modeChange .mode s1).getD s1.only

/-- R185. -/
def modeRequest (value : Byte) (s : State) : Out :=
  match readMode value with
  | some m => setRequested m s
  | none => refuse .mode .badValue s

/-- MODE (R185, R186). -/
def execMode (h : ReqHeader) (value : Byte) (s : State) : Host.Outcome State Fault Refusal :=
  takeRequest h .mode (modeRequest value) s

/-- R187. -/
def fillRequest (on : Bool) (s : State) : Out :=
  if s.mode.effective = .service then
    let s1 := (s.answer .fill .ok .empty).setMode { s.mode with fill := on }
    if s.mode.fill = on then s1.only else (s1.refreshSet.modeNote .service .fill).only
  else refuse .fill .closed s

/-- FILL (R187). -/
def execFill (h : ReqHeader) (value : Byte) (s : State) : Host.Outcome State Fault Refusal :=
  takeRequest h .fill (fillRequest (decide (value ≠ 0#8))) s

/-! ### SELECT, APPROVE, LEVER (R93, R99, R111) -/

/-- R93, R94, R96: SELECT (log 9). -/
def selectRequest (n : Nat) (s : State) : Out :=
  if h : n < 100 then
    match checkSale s ⟨n, h⟩ with
    | .refused code shown amount =>
      ((s.answer .select code (if code = .insufficient then .price amount else .empty)).show shown amount).only
    | .accepted src =>
      let o := acceptSale .servicePort ⟨n, h⟩ src s
      (o.1, o.2 ++ [.soldAnswer (nextSaleNumber s.sale.lastNumber) src])
  else refuse .select .badIndex s

/-- SELECT (R93 to R96). -/
def execSelect (h : ReqHeader) (selection : Byte) (s : State) : Host.Outcome State Fault Refusal :=
  takeRequest h .select (selectRequest selection.toNat) s

/-- R99: the sale that an APPROVE answers. -/
def approvedSale (number : Nat) (s : State) : Option Sale :=
  match s.sale.current with
  | some x => if x.stage = .hostApproval ∧ x.number = number then some x else none
  | none => none

/-- R99. -/
def approveRequest (number : Nat) (yes : Bool) (s : State) : Out :=
  match approvedSale number s with
  | none => refuse .approve .late s
  | some x =>
    let s1 := s.answer .approve .ok .empty
    let y := { x with approvalLimit := none }
    if yes then enterReaderOrTry y s1 else (s1.setCurrentSale (some y), [.saleEnd .denied])

/-- APPROVE (R99). -/
def execApprove (h : ReqHeader) (number : Half) (yes : Byte) (s : State) : Host.Outcome State Fault Refusal :=
  takeRequest h .approve (approveRequest number.toNat (decide (yes ≠ 0#8))) s

/-- R111. -/
def leverRequest (s : State) : Out := leverPulled (s.answer .lever .ok (.lever (!s.leverFree)))

/-- LEVER (R111, R112). -/
def execLever (h : ReqHeader) (s : State) : Host.Outcome State Fault Refusal :=
  takeRequest h .lever leverRequest s

/-! ### TEST_DRIVE, TUBE_OUT (R86, R53) -/

/-- R86. -/
def testRequest (n : Nat) (s : State) : Out :=
  if h : n < 64 then
    if s.mode.effective ≠ .service then refuse .testDrive .closed s
    else if !s.saleIdle then refuse .testDrive .busy s
    else if s.drive.attempt.isSome || s.drive.testRequest.isSome then refuse .testDrive .busy s
    else
      ((s.answer .testDrive .ok .empty).setDrive { s.drive with
          testRequest := some { column := ⟨n, h⟩, limit := s.now + Config.testLoadLimit } },
        [.load (.ask .testDrive)])
  else refuse .testDrive .badIndex s

/-- TEST_DRIVE (R86). -/
def execTestDrive (h : ReqHeader) (column : Byte) (s : State) : Host.Outcome State Fault Refusal :=
  takeRequest h .testDrive (testRequest column.toNat) s

/-- R53, R114: the payout unit is busy, or a sale is in flight where a free value has that refuse a TUBE_OUT
(log 46). -/
def tubeOutBusy (s : State) : Bool :=
  !s.payIdle || (!s.saleIdle && Config.tubeOutWaitsForSale)

/-- R53. -/
def tubeOutRequest (n count : Nat) (s : State) : Out :=
  if h : n < 6 then
    if s.mode.effective ≠ .service then refuse .tubeOut .closed s
    else if tubeOutBusy s then refuse .tubeOut .busy s
    else if !s.active coinMech then refuse .tubeOut .absent s
    else
      let c := clampNat 1 Config.tubeMax count
      payManual ⟨n, h⟩ c.1 (s.answer .tubeOut (takenCode c.2) .empty)
  else refuse .tubeOut .badIndex s

/-- TUBE_OUT (R53). -/
def execTubeOut (h : ReqHeader) (tube count : Byte) (s : State) : Host.Outcome State Fault Refusal :=
  takeRequest h .tubeOut (tubeOutRequest tube.toNat count.toNat) s

/-! ### RELEASE, DEFROST (R155, R144) -/

/-- R155: the zone's channel is VALID with a temperature at or below the health limit. -/
def zoneCold (s : State) (z : ZoneId) : Bool :=
  match (s.cool.channels[zoneChannel z]).reading with
  | some t => decide (t ≤ (s.cool.zones[z]).healthLimit)
  | none => false

/-- R155, R158. -/
def releaseRequest (n : Nat) (s : State) : Out :=
  match readZoneId n with
  | none => refuse .release .badIndex s
  | some z =>
    if s.mode.effective ≠ .service then refuse .release .closed s
    else if (s.health[z]).state ≠ .held then refuse .release .notHeld s
    else if !zoneCold s z then refuse .release .notCold s
    else
      let o := (s.answer .release .ok .empty).handHealth z .normal
      (o.1, o.2 ++ [.zoneReport z .released])

/-- RELEASE (R155). -/
def execRelease (h : ReqHeader) (zone : Byte) (s : State) : Host.Outcome State Fault Refusal :=
  takeRequest h .release (releaseRequest zone.toNat) s

/-- R144: the record is in HEAT_WAIT, HEATING or DRIP. -/
def PlantPhase.defrosting : PlantPhase → Bool
  | .heatWait => true
  | .heating => true
  | .drip => true
  | .lockout => false
  | .ready => false
  | .startWait => false
  | .starting => false
  | .running => false

/-- R144, R141. -/
def defrostRequest (s : State) : Out :=
  if s.cool.plant.phase.defrosting then refuse .defrost .busy s
  else
    let s1 := s.answer .defrost .ok .empty
    if s.cool.plant.due then s1.only else (s1.setDue, [.coolAct])

/-- DEFROST (R144). -/
def execDefrost (h : ReqHeader) (s : State) : Host.Outcome State Fault Refusal :=
  takeRequest h .defrost defrostRequest s

/-! ### STATUS (R188) -/

/-- R188: the sale as STATUS shows it. -/
def Sale.view (x : Sale) : SaleView :=
  { stage := x.stage, number := x.number, selection := x.selection, source := x.source, tried := x.tried }

/-- R188: a zone's health as STATUS shows it. -/
def healthView (h : Health) (now : Nat) : HealthView :=
  match h with
  | .held c => { state := .held, cause := some c, elapsed := none }
  | .warning start => { state := .warning, cause := none, elapsed := some (now - start) }
  | h => { state := h.state, cause := none, elapsed := none }

/-- R188: a station as STATUS shows it. -/
def Station.view (r : Station) : StationView :=
  { active := r.active, role := r.role, level := r.level, turn := r.turn, misses := r.misses }

/-- R145: the six cooling settings in force. -/
def Settings.cooling (v : Settings) : CoolingSettings :=
  { minOff := v.minOff, minRun := v.minRun, defrostInterval := v.defrostInterval, heaterMax := v.heaterMax
    termination := v.termination, drip := v.drip }

/-- R188: the snapshot of a part. The part COOLING gives the settings of R145 with it (log 53). -/
def snapshot (s : State) (part : Nat) : Option Snapshot :=
  match part with
  | 0 => some (.ledger s.ledger s.cash.escrow s.card)
  | 1 => some (.sale (s.sale.current.map Sale.view) s.sale.pendingReturn)
  | 2 => some (.payout s.payout.phase s.payout.manual s.payout.inFlight s.payout.remaining.length)
  | 3 => some (.drive (s.drive.attempt.map fun a => (a.phase, a.column, a.turnsDone)) s.drive.sensor)
  | 4 => some (.load s.load s.load.granted)
  | 5 => some (.cooling s.cool.plant.phase (s.cool.plant.runMs / 1000) s.cool.plant.due
      (s.now - s.cool.plant.lastStop) s.settings.cooling)
  | 6 => some (.health (s.health.toList.map fun h => healthView h s.now))
  | 7 => some (.line (s.line.stations.toList.map Station.view)
      { urgent := s.line.classCount .urgent, money := s.line.classCount .money
        routine := s.line.classCount .routine })
  | 8 => some (.port s.mode (s.port.reports.filter Report.isAudit).length
      (s.port.reports.filter fun r => !r.isAudit).length s.reserveOpen)
  | _ => none

/-- R188. -/
def statusRequest (part : Nat) (s : State) : Out :=
  match snapshot s part with
  | some v => (s.answer .status .ok (.snapshot v)).only
  | none => refuse .status .badIndex s

/-- STATUS (R188). -/
def execStatus (h : ReqHeader) (part : Byte) (s : State) : Host.Outcome State Fault Refusal :=
  takeRequest h .status (statusRequest part.toNat) s

/-! ### RESTART, RELAY (R189, R175, R190) -/

/-- R189: the conditions of a RESTART. -/
def State.restartable (s : State) : Bool :=
  s.saleIdle && s.payIdle && decide (s.ledger.credit = 0) && decide (s.ledger.hold = 0) &&
    decide (s.cash.escrow = .empty)

/-- R189. -/
def restartRequest (s : State) : Out :=
  if s.restartable then
    (s.answer .restart .ok .empty, [.lineRestart, .saleRestart, .modeRestart, .showRestart])
  else refuse .restart .busy s

/-- RESTART (R189). -/
def execRestart (h : ReqHeader) (s : State) : Host.Outcome State Fault Refusal :=
  takeRequest h .restart restartRequest s

/-- R163: a relayed kind. -/
def isRelayedCode (k : Byte) : Bool := decide (0xC0 ≤ k.toNat) && decide (k.toNat ≤ 0xDF)

/-- R175: the next relay number. -/
def nextRelayNumber (last : Nat) : Nat := if 255 ≤ last then 1 else last + 1

/-- R175: the room for a relay entry. -/
def Line.relayRoom (l : Line) : Bool :=
  decide (l.relayCount < Config.relayMax) && decide (l.queue.length < Config.lineQueueMax)

/-- R175: the checks in order, for station `st`. -/
def relayTo (st : StationId) (kind : Byte) (payload : List Byte) (s : State) : Out :=
  let r := s.line.stations[st]
  if !(isRelayedCode kind && r.downAllowed) then refuse .relay .forbidden s
  else if !r.active then refuse .relay .absent s
  else if !s.line.relayRoom then refuse .relay .queueFull s
  else
    let n := nextRelayNumber s.line.lastRelay
    let s1 := s.setLine { s.line with
      lastRelay := n
      queue := s.line.queue ++ [{ station := st
                                  request := { kind := .relayed kind, payload := payload, relayNo := some n } }] }
    (s1.answer .relay .ok (.relayNumber n)).only

/-- R175, R190: the station field names the target; 0 is refused by the first check. -/
def relayRequest (station : Fin 8) (kind : Byte) (payload : List Byte) (s : State) : Out :=
  if h : 1 ≤ station.val then relayTo ⟨station.val - 1, by omega⟩ kind payload s
  else refuse .relay .badIndex s

/-- RELAY (R175, R190). -/
def execRelay (h : ReqHeader) (kind : Byte) (payload : List Byte) (s : State) :
    Host.Outcome State Fault Refusal :=
  let s1 := s.noteHeader h
  if s1.port.slot.isSome then .next (s1.flag .requestOverrun)
  else finish s (relayRequest h.station kind payload s1)

end Sys2Proof.Machine
end

