-- ==== Sys2Proof/Machine/Service.lean ====
section
/-! DEFINITION. Reception on the service link (R178): frames discarded and frames broken off. -/

namespace Sys2Proof.Machine

/-- R178: a discarded frame flags its condition, and HEADER_CORRECTED where the header was corrected. -/
def State.discardFrame (s : State) (corrected : Bool) (c : Condition) : State :=
  (if corrected then s.flag .headerCorrected else s).flag c

/-- The meaning of a request read from a frame (log 7); a command that is no request changes nothing. -/
def takeCommand (i : Instr) (s : State) : Host.Outcome State Fault Refusal :=
  match i with
  | .read h table first count => execRead h table first count s
  | .writeCoinTable h index records => execWriteCoinTable h index records s
  | .writeBillTable h index records => execWriteBillTable h index records s
  | .writeTubeTable h index records => execWriteTubeTable h index records s
  | .writeSelectionTable h index records => execWriteSelectionTable h index records s
  | .writeColumnTable h index records => execWriteColumnTable h index records s
  | .writeCalibrationTable h index points => execWriteCalibrationTable h index points s
  | .writeChannelTable h index offsets => execWriteChannelTable h index offsets s
  | .writeZoneTable h index records => execWriteZoneTable h index records s
  | .writeSettings h index records => execWriteSettings h index records s
  | .writeRelayTable h index rules => execWriteRelayTable h index rules s
  | .mode h value => execMode h value s
  | .select h selection => execSelect h selection s
  | .approve h number yes => execApprove h number yes s
  | .lever h => execLever h s
  | .testDrive h column => execTestDrive h column s
  | .tubeOut h tube count => execTubeOut h tube count s
  | .fill h value => execFill h value s
  | .release h zone => execRelease h zone s
  | .defrost h => execDefrost h s
  | .status h part => execStatus h part s
  | .restart h => execRestart h s
  | .relay h kind payload => execRelay h kind payload s
  | _ => .next s

/-- R178, R183: what a judged frame does. -/
def takeJudged (j : FrameJudgement) (s : State) : Host.Outcome State Fault Refusal :=
  match j with
  | .nothing => .next s
  | .discarded corrected c => .next (s.discardFrame corrected c)
  | .request (.command i) => takeCommand i s
  | .request (.writeNoTable h) => takeRequest h .write (refuse .write .badIndex) s

/-- SERVICE_FRAME_DISCARDED (R178): the bytes are judged step by step; the first failing step flags its condition
(log 7). -/
def execServiceFrameDiscarded (bytes : List Byte) (s : State) : Host.Outcome State Fault Refusal :=
  takeJudged (judgeService false bytes) s

/-- SERVICE_BYTE_GAP (R178, step 4): a gap of 25 ms breaks the frame off (log 8). -/
def execServiceByteGap (bytes : List Byte) (s : State) : Host.Outcome State Fault Refusal :=
  takeJudged (judgeService true bytes) s

end Sys2Proof.Machine
end

