-- ==== Sys2Proof/Machine/Timers.lean ====
section
/-! DEFINITION. The expiries of the timers. An expiry taken while its timer is stopped has no effect (log 2). -/

namespace Sys2Proof.Machine

/-! ### Cash, payout and sale limits -/

/-- STACKING_LIMIT_EXPIRY (R18). -/
def execStackingLimitExpiry (s : State) : Host.Outcome State Fault Refusal :=
  match s.cash.escrow with
  | .stackWait _ _ t => finish s (s.advanceTo t, [.load (.withdraw .stacking), .stackGaveUp])
  | .stacking _ _ t => finish s (s.advanceTo t, [.load (.release .stacking), .stackUncertain])
  | .empty => .next s
  | .held _ _ => .next s
  | .returning _ _ => .next s

/-- PAY_LIMIT_EXPIRY (R49, R54). -/
def execPayLimitExpiry (s : State) : Host.Outcome State Fault Refusal :=
  match s.payout.limit, s.payout.inFlight with
  | some t, some c => finish s (payLimitEnds c (s.advanceTo t))
  | _, _ => .next s

/-- The sale in a stage with its approval limit running. -/
def approvalSale (stage : Stage) (s : State) : Option Nat :=
  match s.sale.current with
  | some x => if x.stage = stage then x.approvalLimit else none
  | none => none

/-- HOST_APPROVAL_LIMIT_EXPIRY (R100). -/
def execHostApprovalLimitExpiry (s : State) : Host.Outcome State Fault Refusal :=
  match approvalSale .hostApproval s with
  | some t => finish s (s.advanceTo t, [.saleEnd .timedOut])
  | none => .next s

/-- READER_APPROVAL_LIMIT_EXPIRY (R103). -/
def execReaderApprovalLimitExpiry (s : State) : Host.Outcome State Fault Refusal :=
  match approvalSale .readerApproval s with
  | some t => finish s ((s.advanceTo t).removeFrames reader [.chargeAsk], [.saleEnd .timedOut])
  | none => .next s

/-- The load limit of the current try (R104). -/
def saleLoadLimit (s : State) : Option Nat :=
  match s.sale.current with
  | some x => x.loadLimit
  | none => none

/-- LOAD_LIMIT_EXPIRY (R105). -/
def execLoadLimitExpiry (s : State) : Host.Outcome State Fault Refusal :=
  match saleLoadLimit s with
  | some t => finish s (s.advanceTo t, [.load (.withdraw .spiral), .saleEnd .noPower])
  | none => .next s

/-! ### Spiral drive -/

/-- R76: the open check of an energising. -/
def openChecked (a : Attempt) (current : Nat) (s : State) : Out :=
  let b := { a with openCheck := none }
  if current < Config.openCurrent then stopEarly b .openMotor s
  else ((s.setAttempt (some b)).setCurrent current).only

/-- OPEN_CHECK_EXPIRY (R76). -/
def execOpenCheckExpiry (current : Nat) (s : State) : Host.Outcome State Fault Refusal :=
  match s.drive.attempt with
  | some a =>
    match a.openCheck with
    | some t => finish s (openChecked a current (s.advanceTo t))
    | none => .next s
  | none => .next s

/-- R75: the leave-home limit. -/
def leaveHomeEnds (a : Attempt) (current : Nat) (s : State) : Out :=
  endAttempt a (if current < Config.openCurrent then .openMotor else .noStart) false s

/-- LEAVE_HOME_LIMIT_EXPIRY (R75). -/
def execLeaveHomeLimitExpiry (current : Nat) (s : State) : Host.Outcome State Fault Refusal :=
  match s.drive.attempt with
  | some a =>
    match a.leaveHome with
    | some t => finish s (leaveHomeEnds a current (s.advanceTo t))
    | none => .next s
  | none => .next s

/-- TURN_LIMIT_EXPIRY (R77). -/
def execTurnLimitExpiry (s : State) : Host.Outcome State Fault Refusal :=
  match s.drive.attempt with
  | some a =>
    match a.turnLimit with
    | some t => finish s (stopEarly a .jam (s.advanceTo t))
    | none => .next s
  | none => .next s

/-- JAM_RUN_EXPIRY (R78). -/
def execJamRunExpiry (s : State) : Host.Outcome State Fault Refusal :=
  match s.drive.attempt with
  | some a =>
    match a.jamRun with
    | some t => finish s (stopEarly a .jam (s.advanceTo t))
    | none => .next s
  | none => .next s

/-- DROP_WINDOW_EXPIRY (R80). -/
def execDropWindowExpiry (s : State) : Host.Outcome State Fault Refusal :=
  match s.drive.attempt with
  | some a =>
    match a.dropWindow with
    | some t => finish s (windowEnds a (s.advanceTo t))
    | none => .next s
  | none => .next s

/-- CLEAR_TIMER_EXPIRY (R83). -/
def execClearTimerExpiry (s : State) : Host.Outcome State Fault Refusal :=
  match s.drive.clearTimer with
  | some t => finish s ((s.advanceTo t).setDrive { s.drive with sensor := .clear, clearTimer := none }).only
  | none => .next s

/-- BLOCK_TIMER_EXPIRY (R83). -/
def execBlockTimerExpiry (s : State) : Host.Outcome State Fault Refusal :=
  match s.drive.blockTimer with
  | some t => finish s ((s.advanceTo t).setDrive { s.drive with sensor := .blocked, blockTimer := none }).only
  | none => .next s

/-- TEST_LOAD_LIMIT_EXPIRY (R86). -/
def execTestLoadLimitExpiry (s : State) : Host.Outcome State Fault Refusal :=
  match s.drive.testRequest with
  | some r =>
    finish s ((s.advanceTo r.limit).setDrive { s.drive with testRequest := none },
      [.load (.withdraw .testDrive), .testNever r.column .noPower])
  | none => .next s

/-! ### Load arbiter -/

/-- R123: the expiry of the promotion timer of a waiting COOLING request. -/
def promotionAt (s : State) (who : Requester) : Option Nat :=
  (s.load.requests.find? fun r => decide (r.requester = who) && !r.promoted).map fun r => r.time + Config.promotion

/-- PROMOTION_TIMER_EXPIRY (R123). -/
def execPromotionTimerExpiry (load : CoolingLoad) (s : State) : Host.Outcome State Fault Refusal :=
  match promotionAt s (coolingRequester load) with
  | some t => finish s (s.advanceTo t, [.load (.promote (coolingRequester load))])
  | none => .next s

/-! ### Cooling and health -/

/-- SAMPLE (R128): the next sample follows 1 s after. -/
def execSample (channel : ChannelId) (code : Fin 1024) (s : State) : Host.Outcome State Fault Refusal :=
  let t := s.cool.nextSample[channel]
  let s1 := s.advanceTo t
  let s2 := s1.setCool { s1.cool with nextSample := s1.cool.nextSample.set channel (t + Config.samplePeriod) }
  finish s (takeSample channel code.val s2)

/-- DUTY_PHASE_EXPIRY (R135). -/
def execDutyPhaseExpiry (zone : ZoneId) (s : State) : Host.Outcome State Fault Refusal :=
  match (s.cool.zones[zone]).duty with
  | some (_, t) =>
    let s1 := s.advanceTo t
    finish s (s1.setZone zone ((s1.cool.zones[zone]).nextDuty s1.now), [.coolAct])
  | none => .next s

/-- MIN_OFF_PASSED (R138). -/
def execMinOffPassed (s : State) : Host.Outcome State Fault Refusal :=
  if s.cool.plant.phase = .lockout then
    finish s (s.advanceTo (s.cool.plant.lastStop + seconds s.settings.minOff), [.lockoutTest])
  else .next s

/-- START_WINDOW_EXPIRY (R139): the grant is reduced, and the state becomes RUNNING. -/
def execStartWindowExpiry (s : State) : Host.Outcome State Fault Refusal :=
  match s.cool.plant.startWindow with
  | some t =>
    let s1 := s.advanceTo t
    finish s (s1.setPlant { s1.cool.plant with phase := .running, startWindow := none },
      [.load .reduce, .coolAct])
  | none => .next s

/-- MIN_RUN_EXPIRY (R140). -/
def execMinRunExpiry (s : State) : Host.Outcome State Fault Refusal :=
  match s.cool.plant.minRun with
  | some t =>
    let s1 := s.advanceTo t
    finish s (s1.setPlant { s1.cool.plant with minRun := none }, [.coolAct])
  | none => .next s

/-- The moment the accumulated run time reaches the defrost interval: now, where it already has; later, where the
compressor is on (R137, R141). -/
def intervalAt (s : State) : Option Nat :=
  let due := hours s.settings.defrostInterval
  if s.cool.plant.phase.compressorOn || decide (due ≤ s.cool.plant.runMs) then
    some (s.now + (due - s.cool.plant.runMs))
  else none

/-- DEFROST_INTERVAL_REACHED (R141). -/
def execDefrostIntervalReached (s : State) : Host.Outcome State Fault Refusal :=
  match intervalAt s with
  | some t => finish s ((s.advanceTo t).setDue, [.coolAct])
  | none => .next s

/-- HEATER_TIMER_EXPIRY (R142). -/
def execHeaterTimerExpiry (s : State) : Host.Outcome State Fault Refusal :=
  match s.cool.plant.heaterTimer with
  | some t => finish s (endHeating (s.advanceTo t))
  | none => .next s

/-- DRIP_TIMER_EXPIRY (R143). -/
def execDripTimerExpiry (s : State) : Host.Outcome State Fault Refusal :=
  match s.cool.plant.dripTimer with
  | some t => finish s (endDrip (s.advanceTo t))
  | none => .next s

/-- TEMPS (R147): the next follows 60 s after. -/
def execTemps (s : State) : Host.Outcome State Fault Refusal :=
  let s1 := s.advanceTo s.cool.nextTemps
  let s2 := s1.setCool { s1.cool with nextTemps := s.cool.nextTemps + Config.tempsPeriod }
  finish s (s2.report (.temps (tempsReport s2))).only

/-- EXCURSION_TIMER_EXPIRY (R152, R158). -/
def execExcursionTimerExpiry (zone : ZoneId) (s : State) : Host.Outcome State Fault Refusal :=
  match s.health[zone] with
  | .warning start =>
    let o := (s.advanceTo (excursionEnd start (s.cool.zones[zone]).allowance)).handHealth zone (.held .expired)
    finish s (o.1, o.2 ++ [.zoneReport zone .expired])
  | .none => .next s
  | .proving => .next s
  | .normal => .next s
  | .held _ => .next s

end Sys2Proof.Machine
end

