-- ==== Sys2Proof/Machine/Wires.lean ====
section
/-! DEFINITION. The commands of the wires: power, door, HOLD, the transmitter, the motor matrix's senses and the
drop sensor's beam. -/

namespace Sys2Proof.Machine

/-- POWER_ON: every state at its power-on value; the pins and the door switch as they read, the motor being off
(R71, R184, log 5). -/
def execPowerOn (s : State) : Host.Outcome State Fault Refusal :=
  .next ((State.powerOn { s.pins with motorCurrent := 0 } s.mode.door).setPending s.pending)

/-- R184, R186. -/
def doorMoved (door : Door) (s : State) : Out :=
  let s1 := s.setMode { s.mode with door := door }
  (modeChange .door s1).getD s1.only

/-- DOOR_SWITCH (R184). -/
def execDoorSwitch (door : Door) (s : State) : Host.Outcome State Fault Refusal :=
  finish s (doorMoved door s)

/-- HOLD_ASSERTED (R181): the next frame waits; a frame being sent completes. -/
def execHoldAsserted (s : State) : Host.Outcome State Fault Refusal :=
  .next (s.setPins { s.pins with hold := true })

/-- HOLD_RELEASED (R181). -/
def execHoldReleased (s : State) : Host.Outcome State Fault Refusal :=
  finish s (s.setPins { s.pins with hold := false }).only

/-- FRAME_TRANSMITTED (R181): the frame being sent is out, and the transmitter is idle. -/
def execFrameTransmitted (s : State) : Host.Outcome State Fault Refusal :=
  match s.port.sending with
  | none => .next s
  | some _ => finish s (s.setPort { s.port with sending := none }).only

/-! ### Motor matrix (R75 to R80) -/

/-- The home switch of the selected column reads as given (R71). -/
def State.setHome (s : State) (c : ColumnId) (closed : Bool) : State :=
  s.setPins { s.pins with homeClosed := s.pins.homeClosed.set c closed }

/-- The current sense reads as given while a motor is energised (R71). -/
def State.senseCurrent (s : State) (a : Attempt) (current : Nat) : State :=
  if a.motor then s.setCurrent current else s

/-- R75: the home switch opens. -/
def homeOpens (a : Attempt) (current : Nat) (s : State) : Out :=
  let s1 := (s.setHome a.column false).senseCurrent a current
  match a.phase with
  | .leavingHome => (s1.setAttempt (some (a.enterTurning s.now current))).only
  | .turning => s1.only
  | .dropWait => s1.only

/-- HOME_SWITCH_OPENS (R75). -/
def execHomeSwitchOpens (current : Nat) (s : State) : Host.Outcome State Fault Refusal :=
  match s.drive.attempt with
  | none => .next s
  | some a => finish s (homeOpens a current s)

/-- R77: the home switch closes. -/
def homeCloses (a : Attempt) (s : State) : Out :=
  let s1 := s.setHome a.column true
  match a.phase with
  | .turning => turnDone a s1
  | .leavingHome => s1.only
  | .dropWait => s1.only

/-- HOME_SWITCH_CLOSES (R77). -/
def execHomeSwitchCloses (s : State) : Host.Outcome State Fault Refusal :=
  match s.drive.attempt with
  | none => .next s
  | some a => finish s (homeCloses a s)

/-- R78: the jam run after a change of current. -/
def Attempt.jamAfter (a : Attempt) (now current : Nat) : Option Nat :=
  if Config.jamCurrent < current then
    (match a.jamRun with
      | some t => some t
      | none => some (now + Config.jamRun))
  else none

/-- R78: the current changes; it is judged in TURNING only. -/
def currentChanges (a : Attempt) (current : Nat) (s : State) : Out :=
  let s1 := s.senseCurrent a current
  match a.phase with
  | .turning => (s1.setAttempt (some { a with jamRun := a.jamAfter s.now current })).only
  | .leavingHome => s1.only
  | .dropWait => s1.only

/-- MOTOR_CURRENT_CHANGE (R78). -/
def execMotorCurrentChange (current : Nat) (s : State) : Host.Outcome State Fault Refusal :=
  match s.drive.attempt with
  | none => .next s
  | some a => finish s (currentChanges a current s)

/-! ### Beam (R83, R84) -/

/-- BEAM_BROKEN (R83). -/
def execBeamBroken (s : State) : Host.Outcome State Fault Refusal :=
  finish s (beamBreaks (s.setPins { s.pins with beamBroken := true }))

/-- BEAM_UNBROKEN (R83). -/
def execBeamUnbroken (s : State) : Host.Outcome State Fault Refusal :=
  finish s (s.setPins { s.pins with beamBroken := false }).beamClears.only

end Sys2Proof.Machine
end

