-- ==== Sys2Proof/Machine/Dispatch.lean ====
section
/-! DEFINITION. The meaning of each command of spec/opcode_table.json, one arm each. -/

namespace Sys2Proof.Machine

/-- The effect of a command on everything but the queue of waiting commands. -/
def exec (i : Instr) (s : State) : Host.Outcome State Fault Refusal :=
  match i with
  | .powerOn => Sys2Proof.Machine.execPowerOn s
  | .doorSwitch door => Sys2Proof.Machine.execDoorSwitch door s
  | .holdAsserted => Sys2Proof.Machine.execHoldAsserted s
  | .holdReleased => Sys2Proof.Machine.execHoldReleased s
  | .frameTransmitted => Sys2Proof.Machine.execFrameTransmitted s
  | .serviceFrameDiscarded bytes => Sys2Proof.Machine.execServiceFrameDiscarded bytes s
  | .serviceByteGap bytes => Sys2Proof.Machine.execServiceByteGap bytes s
  | .read h table first count => Sys2Proof.Machine.execRead h table first count s
  | .writeCoinTable h index records => Sys2Proof.Machine.execWriteCoinTable h index records s
  | .writeBillTable h index records => Sys2Proof.Machine.execWriteBillTable h index records s
  | .writeTubeTable h index records => Sys2Proof.Machine.execWriteTubeTable h index records s
  | .writeSelectionTable h index records => Sys2Proof.Machine.execWriteSelectionTable h index records s
  | .writeColumnTable h index records => Sys2Proof.Machine.execWriteColumnTable h index records s
  | .writeCalibrationTable h index points => Sys2Proof.Machine.execWriteCalibrationTable h index points s
  | .writeChannelTable h index offsets => Sys2Proof.Machine.execWriteChannelTable h index offsets s
  | .writeZoneTable h index records => Sys2Proof.Machine.execWriteZoneTable h index records s
  | .writeSettings h index records => Sys2Proof.Machine.execWriteSettings h index records s
  | .writeRelayTable h index rules => Sys2Proof.Machine.execWriteRelayTable h index rules s
  | .mode h value => Sys2Proof.Machine.execMode h value s
  | .select h selection => Sys2Proof.Machine.execSelect h selection s
  | .approve h number yes => Sys2Proof.Machine.execApprove h number yes s
  | .lever h => Sys2Proof.Machine.execLever h s
  | .testDrive h column => Sys2Proof.Machine.execTestDrive h column s
  | .tubeOut h tube count => Sys2Proof.Machine.execTubeOut h tube count s
  | .fill h value => Sys2Proof.Machine.execFill h value s
  | .release h zone => Sys2Proof.Machine.execRelease h zone s
  | .defrost h => Sys2Proof.Machine.execDefrost h s
  | .status h part => Sys2Proof.Machine.execStatus h part s
  | .restart h => Sys2Proof.Machine.execRestart h s
  | .relay h kind payload => Sys2Proof.Machine.execRelay h kind payload s
  | .lineBreakEnd => Sys2Proof.Machine.execLineBreakEnd s
  | .probeDue station => Sys2Proof.Machine.execProbeDue station s
  | .retryAt station => Sys2Proof.Machine.execRetryAt station s
  | .replyReceived bytes => Sys2Proof.Machine.execReplyReceived bytes s
  | .replyWindowExpiry => Sys2Proof.Machine.execReplyWindowExpiry s
  | .replyGap bytes => Sys2Proof.Machine.execReplyGap s bytes
  | .stackingLimitExpiry => Sys2Proof.Machine.execStackingLimitExpiry s
  | .payLimitExpiry => Sys2Proof.Machine.execPayLimitExpiry s
  | .hostApprovalLimitExpiry => Sys2Proof.Machine.execHostApprovalLimitExpiry s
  | .readerApprovalLimitExpiry => Sys2Proof.Machine.execReaderApprovalLimitExpiry s
  | .loadLimitExpiry => Sys2Proof.Machine.execLoadLimitExpiry s
  | .homeSwitchOpens current => Sys2Proof.Machine.execHomeSwitchOpens current s
  | .homeSwitchCloses => Sys2Proof.Machine.execHomeSwitchCloses s
  | .motorCurrentChange current => Sys2Proof.Machine.execMotorCurrentChange current s
  | .openCheckExpiry current => Sys2Proof.Machine.execOpenCheckExpiry current s
  | .leaveHomeLimitExpiry current => Sys2Proof.Machine.execLeaveHomeLimitExpiry current s
  | .turnLimitExpiry => Sys2Proof.Machine.execTurnLimitExpiry s
  | .jamRunExpiry => Sys2Proof.Machine.execJamRunExpiry s
  | .dropWindowExpiry => Sys2Proof.Machine.execDropWindowExpiry s
  | .beamBroken => Sys2Proof.Machine.execBeamBroken s
  | .beamUnbroken => Sys2Proof.Machine.execBeamUnbroken s
  | .clearTimerExpiry => Sys2Proof.Machine.execClearTimerExpiry s
  | .blockTimerExpiry => Sys2Proof.Machine.execBlockTimerExpiry s
  | .testLoadLimitExpiry => Sys2Proof.Machine.execTestLoadLimitExpiry s
  | .promotionTimerExpiry load => Sys2Proof.Machine.execPromotionTimerExpiry load s
  | .sample channel code => Sys2Proof.Machine.execSample channel code s
  | .dutyPhaseExpiry zone => Sys2Proof.Machine.execDutyPhaseExpiry zone s
  | .minOffPassed => Sys2Proof.Machine.execMinOffPassed s
  | .startWindowExpiry => Sys2Proof.Machine.execStartWindowExpiry s
  | .minRunExpiry => Sys2Proof.Machine.execMinRunExpiry s
  | .defrostIntervalReached => Sys2Proof.Machine.execDefrostIntervalReached s
  | .heaterTimerExpiry => Sys2Proof.Machine.execHeaterTimerExpiry s
  | .dripTimerExpiry => Sys2Proof.Machine.execDripTimerExpiry s
  | .temps => Sys2Proof.Machine.execTemps s
  | .excursionTimerExpiry zone => Sys2Proof.Machine.execExcursionTimerExpiry zone s

end Sys2Proof.Machine
end

