-- ==== Sys2Proof/Machine/Step.lean ====
section
/-! DEFINITION. One step: the command at the front of the queue, or one millisecond where none waits. -/

namespace Sys2Proof.Machine

/-- One millisecond passes with no command (log 1). -/
def State.tick (s : State) : State := s.advanceTo (s.now + 1)

/-- The command at the front of the queue is taken, with the queue's rest; on an empty queue a millisecond passes
(log 1, log 3). -/
def step (s : State) : Host.Outcome State Fault Refusal :=
  match s.pending with
  | [] => .next s.tick
  | c :: rest => exec c (s.setPending rest)

/-- The command that a table word spells is put at the front of the queue; no row of the table has bits, so no word
spells one (log 39). -/
def State.withFetchWord (s : State) (nbits w : Nat) : State :=
  match decodeTableWord nbits w with
  | some c => s.setPending (c :: s.pending)
  | none => s

end Sys2Proof.Machine
end

