-- ==== Sys2Proof/Safety.lean ====
section
/-! DEFINITION. What the manual says holds in every state of the part, and the terms the claims use. -/

namespace Sys2Proof.Machine

/-! ### Money -/

/-- R29: cash_in is the sum of the other terms, modulo 2^32. -/
def MoneyKept (s : State) : Prop :=
  s.ledger.cashIn = BitVec.ofNat 32 (s.ledger.credit + s.ledger.hold + s.ledger.pending) + s.ledger.settled +
    s.ledger.changePaid + s.ledger.changeOwed

/-- R30, R21, R23: the ranges of credit, hold and pending payout. -/
def MoneyBounded (s : State) : Prop :=
  s.ledger.credit ≤ 9999 ∧ s.ledger.hold ≤ 9999 ∧ s.ledger.pending ≤ 65535

/-- R35, R37: the acceptance set is the one R35 computes on the state. -/
def SetCurrent (s : State) : Prop := s.cash.acceptance = acceptSet s

/-! ### Queues -/

/-- R191: the report queue never holds more than 32 reports. -/
def ReportsBounded (s : State) : Prop := s.port.reports.length ≤ 32

/-- R173: the kinds of which a station has at most one unsent entry. -/
def LineKind.single (k : LineKind) : Bool := decide (k = .admitSet ∨ k = .steer ∨ k = .show)

/-- R173: the three bounds of the line queue. -/
def LineQueueBounded (s : State) : Prop :=
  s.line.queue.length ≤ 16 ∧ (s.line.queue.filter QueueEntry.isRelay).length ≤ 8 ∧
    s.line.queue.Pairwise fun a b =>
      ¬ (a.station = b.station ∧ a.request.kind = b.request.kind ∧ a.request.kind.single = true)

/-! ### Supply, map, modes, compressor -/

/-- R119: the units granted never exceed the budget. -/
def WithinBudget (s : State) : Prop := s.load.granted ≤ s.load.budget

/-- R117: the waiting requests stand in the order of their times of request, none of them in the future. -/
def RequestsInOrder (s : State) : Prop :=
  s.load.requests.Pairwise (fun a b => a.time ≤ b.time) ∧ ∀ r ∈ s.load.requests, r.time ≤ s.now

/-- R118: the rank group of a request: promoted COOLING, SALE, COOLING. -/
def LoadRequest.group (r : LoadRequest) : Nat :=
  if r.requester = .compressor ∨ r.requester = .heater then (if r.promoted then 0 else 2) else 1

/-- R58: the shape of the links, and every cursor in its own selection's list. -/
def LinksShaped (s : State) : Prop :=
  s.map.linksKept = true ∧
    ∀ (i : SelectionId) (c : ColumnId), (s.map.selections[i]).cursor = some c → c ∈ s.map.list i

/-- R184, R186: the effective mode is the derived one, and the fill flag is set in SERVICE only. -/
def ModeDerived (s : State) : Prop :=
  s.mode.effective = deriveMode s.mode.requested s.mode.door ∧
    (s.mode.fill = true → s.mode.effective = .service)

/-- R139, R142, R143: the start window runs in STARTING, the heater timer in HEATING and the drip timer in DRIP alone. -/
def PlantTimersPlaced (p : Plant) : Prop :=
  (p.startWindow ≠ none → p.phase = .starting) ∧ (p.heaterTimer ≠ none → p.phase = .heating) ∧
    (p.dripTimer ≠ none → p.phase = .drip)

/-- R138, R139, R145: READY and START_WAIT are states in which min off has passed since the last stop; and each timer of
the record runs in its own state alone. -/
def OffLongEnough (s : State) : Prop :=
  (s.cool.plant.phase = .ready ∨ s.cool.plant.phase = .startWait → s.minOffPassed = true) ∧
    PlantTimersPlaced s.cool.plant

/-- The compressor output (R136). -/
def State.compressorOn (s : State) : Bool := s.cool.plant.phase.compressorOn

/-! ### Terms of the claims -/

/-- The newest ANSWER on the service link: in the reply slot, or just begun (R180, R181). -/
def State.newestAnswer (s : State) : Option Answer :=
  match s.port.slot with
  | some a => some a
  | none => match s.port.sending with
    | some (.answer a) => some a
    | _ => none

/-- The service port can take a request: the header names no station and the slot is empty (R178). -/
def State.takes (s : State) (h : ReqHeader) : Prop := h.station = 0 ∧ s.port.slot = none

/-- The ANSWER a request taken from `s` gets: with the conditions as they stood, the header's correction among them
(R178, R180). -/
def answerTo (s : State) (h : ReqHeader) (kind : ReqKind) (code : ResultCode) (data : AnswerData) : Answer :=
  { kind := kind, code := code, conditions := (s.noteHeader h).port.conditions, data := data }

/-- A number of coins for each tube of a list, none above its available count (R39). -/
def planFits (counts : List Nat) (tubes : List RankedTube) : Prop :=
  List.Forall₂ (fun k t => k ≤ t.avail) counts tubes

/-- The total of such numbers (R39). -/
def countsTotal (counts : List Nat) (tubes : List RankedTube) : Nat :=
  (List.zipWith (fun k t => k * t.value) counts tubes).sum

/-- The units free at the load arbiter (R119). -/
def Load.free (l : Load) : Nat := l.budget - l.granted

/-- A spiral request would be granted and its drive started at once: no request waits, the spiral holds no grant, two
units are free, no attempt exists and the sensor is CLEAR (R117, R119, R73). -/
def SpiralReady (s : State) : Prop :=
  s.load.requests = [] ∧ (∀ g ∈ s.load.grants, g.holder ≠ .spiral) ∧ 2 ≤ s.load.free ∧ s.drive.attempt = none ∧
    s.drive.sensor = .clear

/-- The attempt that starts on a column: its first turn begun (R72 to R74). -/
def startedAttempt (s : State) (requester : DriveRequester) (c : ColumnId) (turns : Nat) (judging : Bool) : Attempt :=
  let closed := s.pins.homeClosed[c]
  { requester := requester, column := c, turnsAllowed := turns, turnsDone := 0, dropSeen := false, judging := judging
    phase := if closed then .leavingHome else .turning
    motor := true
    openCheck := some (s.now + 200)
    leaveHome := if closed then some (s.now + 600) else none
    turnLimit := if closed then none else some (s.now + 5000)
    jamRun := if closed = false ∧ 900 < s.pins.motorCurrent then some (s.now + 150) else none
    dropWindow := none
    result := none
    before := s.map.columns[c].state }

/-- `s` with the sale `x` DRIVING on a column (R104, R106, R73). -/
def drivingState (s : State) (x : Sale) (c : ColumnId) : State :=
  { s with
    sale := { s.sale with current := some { x with stage := .driving, chosen := some c, loadLimit := none
                                                   approvalLimit := none } }
    load := { s.load with grants := s.load.grants ++ [{ holder := .spiral, units := 2 }] }
    drive := { s.drive with attempt := some (startedAttempt s .sale c (s.map.columns[c]).turns true) } }

/-- The ledger with the hold back in credit (R26), where the ceiling is not passed. -/
def heldBack (l : Ledger) : Ledger := { l with credit := l.credit + l.hold, hold := 0 }

/-- A settlement hands nothing further on: the hold fits under the ceiling, no pending payout waits for an IDLE payout
unit, and no return is pending (R26, R23, R112). -/
def SettlesAlone (s : State) : Prop :=
  s.ledger.credit + s.ledger.hold ≤ 9999 ∧ s.ledger.pending ≤ 65535 ∧
    (s.payout.phase = .idle → s.ledger.pending = 0) ∧ s.sale.pendingReturn = false

/-- Nothing is waiting to be told to the stations of the cash unit: the set is the part's own, and handed (R37, R38). -/
def SetHanded (s : State) : Prop := SetCurrent s ∧ s.cash.handed = s.cash.acceptance

/-- Every frame the service port still has to send, in the order it sends them (R181). -/
def State.outLine (s : State) : List OutFrame :=
  s.port.sending.toList ++ s.port.slot.toList.map OutFrame.answer ++ s.port.reports.map OutFrame.report

/-- The port after a request taken from `s` was answered: the ANSWER fills the slot, and the set is empty (R180). -/
def answeredPort (s : State) (h : ReqHeader) (kind : ReqKind) (code : ResultCode) (data : AnswerData) : Port :=
  { s.port with slot := some (answerTo s h kind code data), conditions := Conditions.none }

/-- `t` is `s` but for what the two links do by themselves: frames join the end of the service port's line (R181,
R191), a status report may be lost (R179), the line queue takes ADMIT, STEER and SHOW frames and no others (R37, R110,
R173), a slot may begin where the line is IDLE, making its request the outstanding one of a station that has none
(R172, R168), and the acceptance set is the part's own (R35). -/
structure LinksOnly (s t : State) : Prop where
  now : t.now = s.now
  pins : t.pins = s.pins
  coins : t.cash.coins = s.cash.coins
  bills : t.cash.bills = s.cash.bills
  tubes : t.cash.tubes = s.cash.tubes
  routing : t.cash.routing = s.cash.routing
  escrow : t.cash.escrow = s.cash.escrow
  ledger : t.ledger = s.ledger
  card : t.card = s.card
  payout : t.payout = s.payout
  map : t.map = s.map
  drive : t.drive = s.drive
  sale : t.sale.current = s.sale.current
  lastNumber : t.sale.lastNumber = s.sale.lastNumber
  pendingReturn : t.sale.pendingReturn = s.sale.pendingReturn
  load : t.load = s.load
  cool : t.cool = s.cool
  health : t.health = s.health
  mode : t.mode = s.mode
  settings : t.settings = s.settings
  cutShort : t.cutShort = s.cutShort
  pending : t.pending = s.pending
  lastRelay : t.line.lastRelay = s.line.lastRelay
  restartDue : t.line.restartDue = s.line.restartDue
  stations : ∀ st : StationId,
    t.line.stations[st] = { s.line.stations[st] with outstanding := (t.line.stations[st]).outstanding }
  outstanding : ∀ st : StationId,
    (t.line.stations[st]).outstanding = (s.line.stations[st]).outstanding ∨
      ((s.line.stations[st]).outstanding = none ∧ ∃ x : Exchange, t.line.phase = .exchange x ∧ x.station = st ∧
        (t.line.stations[st]).outstanding = some x.request)
  queue : ∀ e ∈ t.line.queue, e ∈ s.line.queue ∨ e.request.kind.single = true
  busy : s.line.phase ≠ .idle → t.line.phase = s.line.phase ∧ t.line.stations = s.line.stations
  money : s.line.phase ≠ .idle → ∀ e ∈ s.line.queue, e.request.kind.cls = .money → e ∈ t.line.queue
  frames : ∃ more : List Report, t.outLine = s.outLine ++ more.map OutFrame.report
  conditions : t.port.conditions = s.port.conditions ∨ t.port.conditions = s.port.conditions.flag .statusLost

end Sys2Proof.Machine
end

