-- ==== Sys2Proof/Certificates/Slice0/Obligations.lean ====
section
/-! DEFINITION. The statements for the provers. -/

open Sys2Proof Sys2Proof.Machine

/-! ### The step, power-on and the invariants -/

/-- The machine runs the command at the front of its queue, with the queue's rest behind it. -/
def Obligations.StepRunsFrontCommand : Prop :=
  ∀ (c : Instr) (rest : List Instr) (s : State),
    step (s.setPending (c :: rest)) = exec c (s.setPending rest)

/-- The model's choice (log 1): with no command waiting a step is one millisecond, which moves the clock and, while
the compressor output is on, the run time of R137. -/
def Obligations.IdleStepIsAMillisecond : Prop :=
  ∀ s : State, s.pending = [] →
    step s = .next { s with
      now := s.now + 1
      cool := { s.cool with plant := { s.cool.plant with
        runMs := if s.compressorOn then s.cool.plant.runMs + 1 else s.cool.plant.runMs } } }

/-- POWER_ON sets every table, record, setting, queue and timer at its power-on value, whatever stood before, reads the
pins and the door as they are, and the MODE_NOTE of R184 is the one report, begun at once unless HOLD is asserted
(log 5). The clock starts at 0 (log 1); the motor current reads 0 with no motor driven (log 4); the record's moments of
the grant and of entry to HEATING and DRIP read 0 (log 41); what was last handed to the line master reads all clear
(log 51). -/
def Obligations.PowerOnSetsEveryRecord : Prop :=
  ∀ s : State, ∃ t : State, exec .powerOn s = .next t ∧
    t.now = 0 ∧
    (∀ c : CoinId, t.cash.coins[c] = { value := 0, accept := false, assured := false }) ∧
    (∀ b : BillId, t.cash.bills[b] = { value := 0, accept := false, assured := false }) ∧
    (∀ n : TubeId, t.cash.tubes[n] =
      { coinType := none, count := 0, capacity := 100, full := 100, low := 0, trust := .estimated }) ∧
    (∀ c : CoinId, t.cash.routing[c] = .cashbox) ∧
    t.cash.escrow = .empty ∧ t.cash.acceptance = { coins := 0, bills := 0, reader := none } ∧
    t.cash.handed = { coins := 0, bills := 0, reader := none } ∧
    t.ledger = { credit := 0, hold := 0, pending := 0, cashIn := 0, settled := 0, changePaid := 0, changeOwed := 0 } ∧
    t.card = .absent ∧
    t.payout = { phase := .idle, manual := false, remaining := [], inFlight := none, typesAtPlan := [], limit := none
                 paid := 0, owed := 0, entries := [], payJoined := false } ∧
    (∀ i : SelectionId, t.map.selections[i] =
      { price := 0, head := none, search := .first, cursor := none, approval := .none }) ∧
    (∀ c : ColumnId, t.map.columns[c] = { state := .disabled, zone := 0, turns := 2, count := none, next := none }) ∧
    t.map.zoneHealth[(0 : ZoneId)] = .none ∧ t.map.zoneHealth[(1 : ZoneId)] = .none ∧
    t.map.zoneHealth[(2 : ZoneId)] = .proving ∧ t.map.pMin = none ∧
    t.drive = { attempt := none, testRequest := none, sensor := .pending, blockTimer := none
                clearTimer := if s.pins.beamBroken then none else some 2000 } ∧
    t.sale = { current := none, lastNumber := 0, pendingReturn := false, lastShow := (.credit, 0) } ∧
    t.load = { budget := 8, grants := [], requests := [] } ∧
    t.cool.calibration = [(150, 600), (250, 400), (350, 250), (450, 140), (550, 50), (650, -30), (750, -110),
      (850, -200)] ∧
    (∀ c : ChannelId, t.cool.channels[c] =
      { offset := 0, status := .noData, faultRun := 0, validRun := 0, faultKind := none, samples := []
        temperature := none, limitMark := false, lastCode := none }) ∧
    (∀ z : ZoneId, t.cool.zones[z] =
      { mode := if z = 0 then .monitor else .chill, setpoint := 30, differential := 20
        healthFlag := decide (z = 2), healthLimit := 50, allowance := 60, demand := .satisfied, duty := none }) ∧
    t.cool.plant =
      { phase := .lockout, lastStop := 0, runMs := 0, due := false, startWindow := none, minRun := none
        heaterTimer := none, dripTimer := none, grantedAt := 0, heatedAt := 0, dripAt := 0 } ∧
    (∀ c : ChannelId, t.cool.nextSample[c] = 1000) ∧ t.cool.nextTemps = 60000 ∧
    t.health[(0 : ZoneId)] = .none ∧ t.health[(1 : ZoneId)] = .none ∧ t.health[(2 : ZoneId)] = .proving ∧
    (∀ st : StationId, t.line.stations[st] =
      { active := false, role := none, level := none, turn := false, misses := 0, outstanding := none
        waitSince := none, retryAt := none, probeAt := some 100, lastWrongRole := none, downAllowed := false
        upMirror := false }) ∧
    t.line.phase = .lineBreak 100 ∧ t.line.nextSlot = .poll ∧ t.line.lastPolled = 6 ∧ t.line.lastRelay = 0 ∧
    t.line.queue = [] ∧ t.line.restartDue = false ∧
    t.port.slot = none ∧ t.port.conditions = Conditions.none ∧ (t.port.sending = none ↔ s.pins.hold = true) ∧
    t.outLine = [.report (.modeNote { before := .setup, after := .setup, requested := .setup, door := s.mode.door,
                                      fill := false, cause := .start })] ∧
    t.mode = { requested := .setup, fill := false, door := s.mode.door, effective := .setup } ∧
    t.settings = { creditMax := 2000, columnTries := 2, multiVend := false, minOff := 180, minRun := 60
                   defrostInterval := 6, heaterMax := 30, termination := 80, drip := 180 } ∧
    t.pins = { s.pins with motorCurrent := 0 } ∧ t.cutShort = false ∧ t.pending = s.pending

/-- Power-on meets every invariant that a statement below has every step keep. -/
def Obligations.ResetMeetsInvariants : Prop :=
  MoneyKept State.reset ∧ MoneyBounded State.reset ∧ SetCurrent State.reset ∧ ReportsBounded State.reset ∧
    LineQueueBounded State.reset ∧ WithinBudget State.reset ∧ RequestsInOrder State.reset ∧
    LinksShaped State.reset ∧ ModeDerived State.reset ∧ OffLongEnough State.reset ∧
    State.reset.cash.routing = routesFor State.reset.cash.tubes

/-- R29: the identity of the ledger, kept by every step from every state that has it. -/
def Obligations.MoneyKeptByStep : Prop :=
  ∀ s t : State, MoneyKept s → step s = .next t → MoneyKept t

/-- R30 (and the ranges of R21 and R23): credit, hold and pending payout stay in range. -/
def Obligations.MoneyBoundedByStep : Prop :=
  ∀ s t : State, MoneyBounded s → step s = .next t → MoneyBounded t

/-- R35, R37: after every step the acceptance set is the one R35 computes on the state the step left; and that set is
R35's table: all clear in SETUP, in SERVICE without fill, and in VEND while the set is closed; in tube fill the types
routed to a tube; in VEND with the set open each type by its flags, its value and the assurance test of R36, and the
reader on with P_min where credit is 0 and escrow is empty. -/
def Obligations.AcceptanceSetCurrent : Prop :=
  (∀ s t : State, SetCurrent s → step s = .next t → SetCurrent t) ∧
  ∀ s : State,
    let closed : AdmitSet := { coins := 0, bills := 0, reader := none }
    let avail (t : Tube) : Nat := if t.trust = .exact then t.count - t.low else 0
    let money : Nat := s.ledger.credit + s.cash.escrow.value
    let enabled (p : Nat) (m : MoneyType) : Prop :=
      m.accept = true ∧ m.value ≠ 0 ∧ (m.assured = false ∨ money + m.value ≤ p ∨
        (makePlan (money + m.value - p) (rankTubes s.cash avail)).exact = true)
    (s.mode.effective = .setup → acceptSet s = closed) ∧
    (s.mode.effective = .service → s.mode.fill = false → acceptSet s = closed) ∧
    (s.mode.effective = .service → s.mode.fill = true →
      (∀ c : CoinId, (acceptSet s).coins.getLsbD c.val = true ↔ ∃ n : TubeId, s.cash.routing[c] = .tube n) ∧
      (acceptSet s).bills = 0 ∧ (acceptSet s).reader = none) ∧
    (s.mode.effective = .vend →
      ((20 ≤ s.port.reports.length ∨ s.settings.creditMax ≤ s.ledger.credit ∨ s.map.pMin = none) →
        acceptSet s = closed) ∧
      ∀ p : Nat, s.port.reports.length < 20 → s.ledger.credit < s.settings.creditMax → s.map.pMin = some p →
        (∀ c : CoinId, (acceptSet s).coins.getLsbD c.val = true ↔ enabled p s.cash.coins[c]) ∧
        (∀ b : BillId, (acceptSet s).bills.getLsbD b.val = true ↔ enabled p s.cash.bills[b]) ∧
        (acceptSet s).reader = if s.ledger.credit = 0 ∧ s.cash.escrow.full = false then some p else none)

/-- R191: the report queue never holds more than 32 reports. -/
def Obligations.ReportsBoundedByStep : Prop :=
  ∀ s t : State, ReportsBounded s → step s = .next t → ReportsBounded t

/-- R173: the three bounds of the line queue. -/
def Obligations.LineQueueBoundedByStep : Prop :=
  ∀ s t : State, LineQueueBounded s → step s = .next t → LineQueueBounded t

/-- R119: the units granted never exceed the budget. -/
def Obligations.GrantsWithinBudget : Prop :=
  ∀ s t : State, WithinBudget s → step s = .next t → WithinBudget t

/-- R58: the shape of the links, and every cursor in its own selection's list. -/
def Obligations.LinksShapedByStep : Prop :=
  ∀ s t : State, LinksShaped s → step s = .next t → LinksShaped t

/-- R184, R186: the effective mode is the derived one, and the fill flag is set in SERVICE alone. -/
def Obligations.ModeDerivedByStep : Prop :=
  ∀ s t : State, ModeDerived s → step s = .next t → ModeDerived t

/-- R139: READY and START_WAIT are reached only once min off has passed, each timer of the record runs in its own state
alone, and the compressor switches on only once min off has passed. -/
def Obligations.CompressorRestsBetweenStarts : Prop :=
  ∀ s t : State, OffLongEnough s → step s = .next t →
    OffLongEnough t ∧ (s.compressorOn = false → t.compressorOn = true → t.minOffPassed = true)

/-! ### The planner, the arbiter and routing -/

/-- R39, R42: every usable tube enters once, with its value and the caller's available count, in ranked order; a plan's
commands are those of its tubes in its order; and k coins of a tube are ⌊k/15⌋ commands of 15 coins and one of the
rest where there is one, each naming the tube and the value of a coin. -/
def Obligations.TubesRankedAndPlansSplit : Prop :=
  (∀ (cash : Cash) (avail : Tube → Nat),
    (rankTubes cash avail).Pairwise (fun a b => b.value < a.value ∨ (a.value = b.value ∧ a.tube < b.tube)) ∧
    ∀ r : RankedTube, r ∈ rankTubes cash avail ↔
      r.value = (cash.tubes[r.tube]).value cash.coins ∧ r.value ≠ 0 ∧ r.avail = avail cash.tubes[r.tube]) ∧
  (∀ plan : List (RankedTube × Nat),
    planCommands plan = (plan.map fun p => splitCoins p.1.tube p.1.value p.2).flatten) ∧
  ∀ (tube : TubeId) (value coins : Nat),
    ((splitCoins tube value coins).map PayCmd.coins).sum = coins ∧
    (splitCoins tube value coins).length = (coins + 14) / 15 ∧
    (∀ c ∈ splitCoins tube value coins, c.tube = tube ∧ c.value = value ∧ 1 ≤ c.coins ∧ c.coins ≤ 15) ∧
    ∀ c ∈ (splitCoins tube value coins).dropLast, c.coins = 15

/-- R40, R41: the result is a plan within the available counts whose total is the largest any plan reaches without
passing the amount, it is the greatest such plan in the order of R39, its shortfall is the rest of the amount, and it
is marked exact where the rest is 0. -/
def Obligations.PlannerGivesGreatestPlan : Prop :=
  ∀ (amount : Nat) (tubes : List RankedTube), (∀ t ∈ tubes, 0 < t.value) →
    ∃ counts : List Nat,
      (makePlan amount tubes).plan = tubes.zip counts ∧ planFits counts tubes ∧
      (makePlan amount tubes).total = countsTotal counts tubes ∧
      (makePlan amount tubes).total + (makePlan amount tubes).shortfall = amount ∧
      ((makePlan amount tubes).exact = true ↔ (makePlan amount tubes).shortfall = 0) ∧
      ∀ other : List Nat, planFits other tubes → countsTotal other tubes ≤ amount →
        countsTotal other tubes ≤ (makePlan amount tubes).total ∧
        (countsTotal other tubes = (makePlan amount tubes).total → other = counts ∨ List.Lex (· < ·) other counts)

/-- R118, R119: the ranked order holds every waiting request, the promoted COOLING requests before the SALE requests
before the other COOLING requests, each group in the order of the request list, which every step keeps in the order of
the times of request (R117), so that each group stands oldest first. A pass grants a front part of the ranked order,
each request at its counted units, that fits in the free units, and the first request behind it does not fit in what
is left. -/
def Obligations.PassGrantsFrontOfRank : Prop :=
  (∀ s t : State, RequestsInOrder s → step s = .next t → RequestsInOrder t) ∧
  ∀ l : Load, l.ranked.Perm l.requests ∧
    (∀ g : Nat, (l.ranked.filter fun r => decide (r.group = g)) = l.requests.filter fun r => decide (r.group = g)) ∧
    l.ranked.Pairwise (fun a b => a.group ≤ b.group) ∧
    (l.requests.Pairwise (fun a b => a.time ≤ b.time) →
      l.ranked.Pairwise (fun a b => a.group = b.group → a.time ≤ b.time)) ∧
    ∃ granted rest : List LoadRequest, l.ranked = granted ++ rest ∧
      l.passMakes = granted.map (fun r => { holder := r.requester, units := r.counted }) ∧
      (granted.map LoadRequest.counted).sum ≤ l.free ∧
      (∀ r, rest.head? = some r → l.free < (granted.map LoadRequest.counted).sum + r.counted) ∧
      l.pass.grants = l.grants ++ l.passMakes ∧
      ∀ r : LoadRequest, r ∈ l.pass.requests ↔ r ∈ l.requests ∧ ∀ g ∈ granted, g.requester ≠ r.requester

/-- R5: the decision for a type is its lowest-numbered tube with room, or CASHBOX; and every step keeps the decisions
those of the tube table. -/
def Obligations.RoutingTakesLowestTubeWithRoom : Prop :=
  (∀ s t : State, s.cash.routing = routesFor s.cash.tubes → step s = .next t →
    t.cash.routing = routesFor t.cash.tubes) ∧
  ∀ (tubes : Vector Tube 6) (c : CoinId),
    (∀ n : TubeId, (routesFor tubes)[c] = .tube n ↔
      ((tubes[n]).coinType = some c ∧ (tubes[n]).count < (tubes[n]).full ∧
        ∀ m : TubeId, m < n → ¬ ((tubes[m]).coinType = some c ∧ (tubes[m]).count < (tubes[m]).full))) ∧
    ((routesFor tubes)[c] = .cashbox ↔
      ∀ m : TubeId, ¬ ((tubes[m]).coinType = some c ∧ (tubes[m]).count < (tubes[m]).full))

/-! ### Frames and conversion -/

/-- R160, R161: a header with the check byte of R160 is clean; with any one of its 24 bits inverted it is corrected
back; with one check bit of 0 to 5 inverted it is corrected; with bit 6 or 7 of the check set, or with two of the 24
bits inverted, it is uncorrectable. -/
def Obligations.HeaderCheckCorrectsOneBit : Prop :=
  ∀ h0 h1 h2 : Byte,
    let h : Header := { h0 := h0, h1 := h1, h2 := h2,
                        check := checkByte (Header.bits { h0 := h0, h1 := h1, h2 := h2, check := 0 }) }
    judgeHeader h = .clean h ∧
    (∀ n, n < 24 → judgeHeader (h.flip n) = .corrected h) ∧
    (∀ n, n < 6 → ∃ k : Byte, judgeHeader { h with check := h.check ^^^ BitVec.ofNat 8 (2 ^ n) } =
      .corrected { h with check := k }) ∧
    (∀ n, 6 ≤ n → n < 8 →
      judgeHeader { h with check := h.check ^^^ BitVec.ofNat 8 (2 ^ n) } = .uncorrectable) ∧
    ∀ m n, m < n → n < 24 → judgeHeader ((h.flip m).flip n) = .uncorrectable

/-- R159, R160, R162, R163, R177: a request written as a frame is read back as the request, from whichever station
field, with the turn bit not read; and with one header bit inverted it is read all the same, as corrected. -/
def Obligations.RequestFrameReadsBack : Prop :=
  ∀ (kind : Byte) (station : Fin 8) (turn corrected : Bool) (payload : List Byte) (r : ReadRequest) (n : Nat),
    payload.length ≤ 120 → sizeFits kind payload = true → n < 24 →
    readRequest { station := station, corrected := corrected } kind payload = some r →
    match buildFrame kind station.val turn false payload with
    | sync :: h0 :: h1 :: h2 :: check :: rest =>
      sync = 0x5A#8 ∧
      judgeService false (sync ::
        (let h : Header := { h0 := h0, h1 := h1, h2 := h2, check := check }
         let g := if corrected then h.flip n else h
         g.h0 :: g.h1 :: g.h2 :: g.check :: rest)) = .request r
    | _ => False

/-- R130, R131: a code at or outside the ends of the table takes the end's temperature with the LIMIT mark; a code
inside is the lower breakpoint's temperature plus the quotient rounded to the nearest, halves away from zero, without
the mark; and a valid sample puts that temperature and the channel's offset at the end of the samples list. -/
def Obligations.ConversionInterpolates : Prop :=
  (∀ (c : Channel) (table : List (Nat × Int)) (code : Nat), 15 < code → code < 1008 →
    (c.sample table code).samples.getLast? = some ((convertCode table code).1 + c.offset) ∧
    (c.sample table code).limitMark = (convertCode table code).2) ∧
  (∀ (code c0 : Nat) (t0 : Int) (rest : List (Nat × Int)), code ≤ c0 →
    convertCode ((c0, t0) :: rest) code = (t0, true)) ∧
  (∀ (code c0 cn : Nat) (t0 tn : Int) (mid : List (Nat × Int)), c0 < code → cn ≤ code →
    convertCode ((c0, t0) :: mid ++ [(cn, tn)]) code = (tn, true)) ∧
  ∀ (table pre post : List (Nat × Int)) (code c0 c1 : Nat) (t0 t1 : Int),
    table = pre ++ (c0, t0) :: (c1, t1) :: post → (table.map Prod.fst).Pairwise (· < ·) →
    c0 ≤ code → code < c1 → (∀ p, table.head? = some p → p.1 < code) →
    ∃ q : Int, convertCode table code = (t0 + q, false) ∧
      2 * (q * (c1 - c0 : Nat) - (code - c0 : Nat) * (t1 - t0)).natAbs ≤ c1 - c0 ∧
      (2 * (q * (c1 - c0 : Nat) - (code - c0 : Nat) * (t1 - t0)).natAbs = c1 - c0 →
        ((code - c0 : Nat) * (t1 - t0)).natAbs < (q * (c1 - c0 : Nat)).natAbs)

/-! ### The service link, modes, READ and STATUS -/

/-- R181: HOLD_ASSERTED lets a frame being sent complete and changes its pin alone; at HOLD_RELEASED and at the end of
a frame the idle transmitter begins the ANSWER of the slot, else the oldest report, and nothing while HOLD stands.
ATTENTION is asserted while the slot is full or a report is queued. R159, R160, R162, R163: a frame sent is the sync
byte, the kind's code, station field 0 with turn bit 0 and direction 1, the payload's length (at most 120), the check
byte, the payload (whose bytes are free: log 50) and, where there is one, its CRC. -/
def Obligations.TransmitterTakesAnswerFirst : Prop :=
  (∀ s : State, exec .holdAsserted s = .next { s with pins := { s.pins with hold := true } }) ∧
  (∀ s : State, ∃ t : State, exec .holdReleased s = .next t ∧
    LinksOnly { s with pins := { s.pins with hold := false } } t ∧
    (s.port.sending = none → ∀ a, s.port.slot = some a →
      t.port.sending = some (.answer a) ∧ t.port.slot = none) ∧
    (s.port.sending = none → s.port.slot = none → ∀ r rs, s.port.reports = r :: rs →
      t.port.sending = some (.report r))) ∧
  (∀ (s : State) (f : OutFrame), s.port.sending = some f → ∃ t : State, exec .frameTransmitted s = .next t ∧
    LinksOnly { s with port := { s.port with sending := none } } t ∧
    (s.pins.hold = true → t.port.sending = none) ∧
    (s.pins.hold = false → ∀ a, s.port.slot = some a → t.port.sending = some (.answer a) ∧ t.port.slot = none) ∧
    (s.pins.hold = false → s.port.slot = none → ∀ r rs, s.port.reports = r :: rs →
      t.port.sending = some (.report r))) ∧
  (∀ s : State, s.attention = true ↔ s.port.slot ≠ none ∨ s.port.reports ≠ []) ∧
  ∀ (s : State) (f : OutFrame), s.port.sending = some f →
    let code : Byte := match f with
      | .answer _ => 0x20#8
      | .report (.sale _) => 0x30#8
      | .report (.coinIn _ _) => 0x31#8
      | .report (.billIn _) => 0x32#8
      | .report (.payoutDone _) => 0x33#8
      | .report (.credit _) => 0x38#8
      | .report (.column _) => 0x39#8
      | .report (.zone _) => 0x3A#8
      | .report (.temps _) => 0x3B#8
      | .report (.station _) => 0x3C#8
      | .report (.discarded _) => 0x3D#8
      | .report (.mirror _) => 0x3E#8
      | .report (.strayDrop _) => 0x3F#8
      | .report (.modeNote _) => 0x40#8
      | .report (.testResult _) => 0x41#8
      | .report (.saleAsk _) => 0x42#8
    ∃ (payload : List Byte) (check : Byte), payload.length ≤ 120 ∧
      (let h : Header := { h0 := code, h1 := 0x20#8, h2 := BitVec.ofNat 8 payload.length, check := check }
       judgeHeader h = .clean h) ∧
      s.sentBytes = some ([0x5A#8, code, 0x20#8, BitVec.ofNat 8 payload.length, check] ++ payload ++
        (if payload = [] then [] else twoBytes (crc payload).toNat))

/-- R178, R179: a frame that fails a step is discarded: the condition of the first failing step is flagged (and
HEADER_CORRECTED where the header was corrected), no ANSWER is made, and nothing else changes. (The bytes are the
command's operand: log 7. A frame that a gap breaks off is judged on its header first, and then LENGTH_BAD is flagged:
the model's choice, log 8.) -/
def Obligations.DiscardedFrameFlagsFirstFailure : Prop :=
  ∀ (s : State) (h g : Header) (rest : List Byte) (corrected : Bool),
    let whole : List Byte := 0x5A#8 :: h.h0 :: h.h1 :: h.h2 :: h.check :: rest
    let flags : Conditions := if corrected then s.port.conditions.flag .headerCorrected else s.port.conditions
    let flagged (c : Conditions) (x : Condition) : Host.Outcome State Fault Refusal :=
      .next { s with port := { s.port with conditions := c.flag x } }
    let discards (c : Conditions) (x : Condition) : Prop :=
      exec (.serviceFrameDiscarded whole) s = flagged c x ∧ exec (.serviceByteGap whole) s = flagged c x
    (judgeHeader h = .uncorrectable → discards s.port.conditions .headerBad) ∧
    ((judgeHeader h = if corrected then .corrected g else .clean g) →
      (8 ≤ g.station → discards flags .stationInvalid) ∧
      (g.station < 8 → (g.direction = true ∨ 64 ≤ g.h1.toNat) → discards flags .headerBad) ∧
      (g.station < 8 → g.direction = false → g.h1.toNat < 64 →
        (exec (.serviceByteGap whole) s = flagged flags .lengthBad) ∧
        (120 < g.h2.toNat → discards flags .lengthBad) ∧
        (0 < g.h2.toNat → rest.length < g.h2.toNat + 2 → discards flags .lengthBad) ∧
        (g.h2.toNat ≤ 120 → 0 < g.h2.toNat → g.h2.toNat + 2 = rest.length →
          (sizeFits g.h0 (rest.take g.h2.toNat) = false →
            exec (.serviceFrameDiscarded whole) s = flagged flags .lengthBad) ∧
          (sizeFits g.h0 (rest.take g.h2.toNat) = true →
            rest.drop g.h2.toNat ≠ twoBytes (crc (rest.take g.h2.toNat)).toNat →
            exec (.serviceFrameDiscarded whole) s = flagged flags .crcBad) ∧
          ((g.h0.toNat = 0 ∨ 14 < g.h0.toNat) →
            rest.drop g.h2.toNat = twoBytes (crc (rest.take g.h2.toNat)).toNat →
            exec (.serviceFrameDiscarded whole) s = flagged flags .kindUnknown))))

/-- R178, step 7: a request that arrives while the slot holds an unsent ANSWER is discarded: REQUEST_OVERRUN is
flagged, and nothing else changes. -/
def Obligations.RequestOverrunDiscards : Prop :=
  ∀ (s : State) (h : ReqHeader) (a : Answer) (c : Instr), s.port.slot = some a →
    (c = .lever h ∨ c = .defrost h ∨ c = .restart h ∨ (∃ v, c = .mode h v) ∨ (∃ v, c = .select h v) ∨
      (∃ n y, c = .approve h n y) ∨ (∃ v, c = .testDrive h v) ∨ (∃ n k, c = .tubeOut h n k) ∨
      (∃ v, c = .fill h v) ∨ (∃ z, c = .release h z) ∨ (∃ p, c = .status h p) ∨ (∃ k b, c = .relay h k b) ∨
      (∃ x y z, c = .read h x y z) ∨ (∃ i r, c = .writeCoinTable h i r) ∨ (∃ i r, c = .writeBillTable h i r) ∨
      (∃ i r, c = .writeTubeTable h i r) ∨ (∃ i r, c = .writeSelectionTable h i r) ∨
      (∃ i r, c = .writeColumnTable h i r) ∨ (∃ i r, c = .writeCalibrationTable h i r) ∨
      (∃ i r, c = .writeChannelTable h i r) ∨ (∃ i r, c = .writeZoneTable h i r) ∨
      (∃ i r, c = .writeSettings h i r) ∨ ∃ i r, c = .writeRelayTable h i r) →
    exec c s = .next { s with port := { s.port with
      conditions := (if h.corrected then s.port.conditions.flag .headerCorrected
                     else s.port.conditions).flag .requestOverrun } }

/-- R184 to R187: MODE sets the requested mode, DOOR_SWITCH the door, and the effective mode follows R184's table, the
fill flag being cleared as SERVICE is left; FILL sets the flag in SERVICE and is refused CLOSED elsewhere; an unnamed
mode is refused BAD_VALUE. (What a test drive, a manual payout or a bill in escrow then does is not in question
here: none is there.) -/
def Obligations.ModeFollowsRequestAndDoor : Prop :=
  (∀ m : Mode, ∀ d : Door, deriveMode m d = match m, d with
    | .setup, _ => .setup
    | .service, _ => .service
    | .vend, .opened => .service
    | .vend, .closed => .vend) ∧
  ∀ s : State, s.drive.testRequest = none → (∀ a, s.drive.attempt = some a → a.requester = .sale) →
    s.payout.manual = false → (∀ b v, s.cash.escrow ≠ .held b v) →
    let moved (m : Mode) (d : Door) : ModeRecord :=
      { requested := m, door := d, effective := deriveMode m d
        fill := if s.mode.effective = .service ∧ deriveMode m d ≠ .service then false else s.mode.fill }
    (∀ d : Door, ∃ t : State, exec (.doorSwitch d) s = .next t ∧
      LinksOnly { s with mode := moved s.mode.requested d } t) ∧
    ∀ h : ReqHeader, s.takes h →
      (∀ (v : Byte) (m : Mode), (v = 0#8 ∧ m = .setup ∨ v = 1#8 ∧ m = .vend ∨ v = 2#8 ∧ m = .service) →
        ∃ t : State, exec (.mode h v) s = .next t ∧
          LinksOnly { s with mode := moved m s.mode.door, port := answeredPort s h .mode .ok .empty } t ∧
          t.newestAnswer = some (answerTo s h .mode .ok .empty)) ∧
      (∀ v : Byte, 2 < v.toNat → ∃ t : State, exec (.mode h v) s = .next t ∧
        LinksOnly { s with port := answeredPort s h .mode .badValue .empty } t ∧
        t.newestAnswer = some (answerTo s h .mode .badValue .empty)) ∧
      (∀ v : Byte, s.mode.effective = .service → ∃ t : State, exec (.fill h v) s = .next t ∧
        LinksOnly { s with mode := { s.mode with fill := decide (v ≠ 0#8) },
                           port := answeredPort s h .fill .ok .empty } t ∧
        t.newestAnswer = some (answerTo s h .fill .ok .empty)) ∧
      ∀ v : Byte, s.mode.effective ≠ .service → ∃ t : State, exec (.fill h v) s = .next t ∧
        LinksOnly { s with port := answeredPort s h .fill .closed .empty } t ∧
        t.newestAnswer = some (answerTo s h .fill .closed .empty)

/-- R182: READ answers with the records from the first index on, as they stand, the count clamped to 1, to the
table's end and to the table's most, and changes no state; a table or a first index outside is BAD_INDEX. The records
of each table 0 to 9 and its most per READ are those of section 11.3. -/
def Obligations.ReadAnswersRecords : Prop :=
  ∀ (s : State) (h : ReqHeader) (table first count : Byte), s.takes h →
    let sizes : List (Nat × Nat) :=
      [(16, 16), (8, 8), (6, 6), (100, 20), (64, 24), (1, 1), (4, 4), (3, 3), (1, 1), (7, 7)]
    (∀ size most : Nat, sizes[table.toNat]? = some (size, most) → first.toNat < size →
      let n := max 1 (min (min most (size - first.toNat)) count.toNat)
      ∃ (t : State) (r : TableRecords), exec (.read h table first count) s = .next t ∧
        (let code : ResultCode := if n = count.toNat then .ok else .clamped
         let data : AnswerData := .records table.toNat first.toNat n r
         LinksOnly { s with port := answeredPort s h .read code data } t ∧
         t.newestAnswer = some (answerTo s h .read code data)) ∧
        (table = 0#8 → r = .coins ((s.cash.coins.toList.drop first.toNat).take n)) ∧
        (table = 1#8 → r = .bills ((s.cash.bills.toList.drop first.toNat).take n)) ∧
        (table = 2#8 → r = .tubes ((s.cash.tubes.toList.drop first.toNat).take n)) ∧
        (table = 3#8 → r = .selections ((s.map.selections.toList.drop first.toNat).take n)) ∧
        (table = 4#8 → r = .columns (((s.map.columns.toList.map fun c => (c, s.map.recordSells c)).drop
          first.toNat).take n)) ∧
        (table = 5#8 → r = .calibration s.cool.calibration) ∧
        (table = 6#8 → r = .channels ((s.cool.channels.toList.drop first.toNat).take n)) ∧
        (table = 7#8 → r = .zones ((([0, 1, 2] : List ZoneId).map fun z =>
          (s.cool.zones[z], (s.health[z]).state)).drop first.toNat |>.take n)) ∧
        (table = 8#8 → r = .settings s.settings s.load.budget) ∧
        (table = 9#8 → r = .relay (((s.line.stations.toList.map fun x => (x.downAllowed, x.upMirror)).drop
          first.toNat).take n))) ∧
    ((10 ≤ table.toNat ∨ ∃ size most, sizes[table.toNat]? = some (size, most) ∧ size ≤ first.toNat) →
      ∃ t : State, exec (.read h table first count) s = .next t ∧
        LinksOnly { s with port := answeredPort s h .read .badIndex .empty } t ∧
        t.newestAnswer = some (answerTo s h .read .badIndex .empty))

/-- R188, R145: STATUS answers with the part's snapshot and changes no state; a part above 8 is BAD_INDEX. COOLING gives
the six cooling settings in force. (That this part gives them is the model's choice, log 53; the run time is shown in
whole seconds, rounded down, and the time since the last stop in milliseconds: the model's choices, log 18, log 35.) -/
def Obligations.StatusAnswersSnapshot : Prop :=
  ∀ (s : State) (h : ReqHeader) (part : Byte), s.takes h →
    ∃ t : State, exec (.status h part) s = .next t ∧
      let shows (v : Snapshot) : Prop :=
        LinksOnly { s with port := answeredPort s h .status .ok (.snapshot v) } t ∧
        t.newestAnswer = some (answerTo s h .status .ok (.snapshot v))
      (part = 0#8 → shows (.ledger s.ledger s.cash.escrow s.card)) ∧
      (part = 1#8 → shows (.sale (s.sale.current.map Sale.view) s.sale.pendingReturn)) ∧
      (part = 2#8 → shows (.payout s.payout.phase s.payout.manual s.payout.inFlight s.payout.remaining.length)) ∧
      (part = 3#8 → shows (.drive (s.drive.attempt.map fun a => (a.phase, a.column, a.turnsDone)) s.drive.sensor)) ∧
      (part = 4#8 → shows (.load s.load (s.load.grants.map Grant.units).sum)) ∧
      (part = 5#8 → shows (.cooling s.cool.plant.phase (s.cool.plant.runMs / 1000) s.cool.plant.due
        (s.now - s.cool.plant.lastStop)
        { minOff := s.settings.minOff, minRun := s.settings.minRun, defrostInterval := s.settings.defrostInterval
          heaterMax := s.settings.heaterMax, termination := s.settings.termination, drip := s.settings.drip })) ∧
      (part = 6#8 → shows (.health (s.health.toList.map fun x => healthView x s.now))) ∧
      (part = 7#8 → shows (.line (s.line.stations.toList.map Station.view)
        { urgent := s.line.classCount .urgent, money := s.line.classCount .money
          routine := s.line.classCount .routine })) ∧
      (part = 8#8 → shows (.port s.mode (s.port.reports.filter Report.isAudit).length
        (s.port.reports.filter fun r => !r.isAudit).length s.reserveOpen)) ∧
      (8 < part.toNat →
        LinksOnly { s with port := answeredPort s h .status .badIndex .empty } t ∧
        t.newestAnswer = some (answerTo s h .status .badIndex .empty))

/-! ### WRITE -/

/-- R1, R2, R183: a WRITE of the coin or bill table puts each record in place, its value clamped to 2000 or 9999, and
leaves every other record and every other block as it stands. -/
def Obligations.MoneyTablesWritten : Prop :=
  ∀ (s : State) (h : ReqHeader) (index : Byte) (records : List RawValue), s.takes h →
    let wrote (most : Nat) : ResultCode :=
      if ∃ r ∈ records, most < r.value.toNat then .clamped else .ok
    let money (most : Nat) (r : RawValue) : MoneyType :=
      { value := min most r.value.toNat, accept := r.flags.getLsbD 0, assured := r.flags.getLsbD 1 }
    (index.toNat < 16 → index.toNat + records.length ≤ 16 →
      (s.payout.phase = .idle ∨ ∀ (k : CoinId) (r : RawValue), index.toNat ≤ k.val →
        records[k.val - index.toNat]? = some r → min 2000 r.value.toNat = s.cash.coins[k].value) →
      ∃ t : State, exec (.writeCoinTable h index records) s = .next t ∧
        (∀ k : CoinId, (k.val < index.toNat ∨ index.toNat + records.length ≤ k.val) →
          t.cash.coins[k] = s.cash.coins[k]) ∧
        (∀ (k : CoinId) (r : RawValue), index.toNat ≤ k.val → records[k.val - index.toNat]? = some r →
          t.cash.coins[k] = money 2000 r) ∧
        LinksOnly { s with cash := { s.cash with coins := t.cash.coins },
                           port := answeredPort s h .write (wrote 2000) .empty } t ∧
        t.newestAnswer = some (answerTo s h .write (wrote 2000) .empty)) ∧
    (index.toNat < 8 → index.toNat + records.length ≤ 8 →
      ∃ t : State, exec (.writeBillTable h index records) s = .next t ∧
        (∀ k : BillId, (k.val < index.toNat ∨ index.toNat + records.length ≤ k.val) →
          t.cash.bills[k] = s.cash.bills[k]) ∧
        (∀ (k : BillId) (r : RawValue), index.toNat ≤ k.val → records[k.val - index.toNat]? = some r →
          t.cash.bills[k] = money 9999 r) ∧
        LinksOnly { s with cash := { s.cash with bills := t.cash.bills },
                           port := answeredPort s h .write (wrote 9999) .empty } t ∧
        t.newestAnswer = some (answerTo s h .write (wrote 9999) .empty))

/-- R4, R5: a WRITE of the tube table with no PAY outstanding clamps each record in R4's order, makes its trust EXACT,
and the routing is R5's on the table it leaves. (The ANSWER is placed before what the STEER may report: log 9.) -/
def Obligations.TubeTableWritten : Prop :=
  ∀ (s : State) (h : ReqHeader) (index : Byte) (records : List RawTube), s.takes h →
    index.toNat < 6 → index.toNat + records.length ≤ 6 →
    (∀ p, s.payout.inFlight = some p → p.tube.val < index.toNat ∨ index.toNat + records.length ≤ p.tube.val) →
    (∀ r ∈ records, r.coinType.toNat < 16 ∨ r.coinType = 0xFF#8) →
    ∃ (t : State) (code : ResultCode), exec (.writeTubeTable h index records) s = .next t ∧
      (code = .ok ∨ code = .clamped) ∧
      (code = .clamped ↔ ∃ r ∈ records,
        let cap := max 1 (min 250 r.capacity.toNat)
        r.capacity.toNat ≠ cap ∨ cap < r.count.toNat ∨ r.full.toNat = 0 ∨ cap < r.full.toNat ∨
          cap < r.low.toNat) ∧
      (∀ k : TubeId, (k.val < index.toNat ∨ index.toNat + records.length ≤ k.val) →
        t.cash.tubes[k] = s.cash.tubes[k]) ∧
      (∀ (k : TubeId) (r : RawTube), index.toNat ≤ k.val → records[k.val - index.toNat]? = some r →
        let cap := max 1 (min 250 r.capacity.toNat)
        (∀ c : CoinId, t.cash.tubes[k].coinType = some c ↔ r.coinType.toNat = c.val) ∧
        t.cash.tubes[k].capacity = cap ∧ t.cash.tubes[k].count = min cap r.count.toNat ∧
        t.cash.tubes[k].full = max 1 (min cap r.full.toNat) ∧ t.cash.tubes[k].low = min cap r.low.toNat ∧
        t.cash.tubes[k].trust = .exact) ∧
      LinksOnly { s with cash := { s.cash with tubes := t.cash.tubes, routing := routesFor t.cash.tubes },
                         port := answeredPort s h .write code .empty } t ∧
      t.newestAnswer = some (answerTo s h .write code .empty)

/-- R56, R61, R64: a WRITE of one selection record with no sale in flight, whose links keep R58, sets price, head,
search mode and approval; its cursor is kept while the mode stands and the column is still in its list, and is NONE
otherwise; P_min is the lowest price among the sellable selections. -/
def Obligations.SelectionWritten : Prop :=
  ∀ (s : State) (h : ReqHeader) (i : SelectionId) (index : Byte) (r : RawSelection) (head : Option ColumnId),
    s.takes h → index.toNat = i.val → s.sale.current = none → LinksShaped s →
    ((∃ c : ColumnId, r.head.toNat = c.val ∧ head = some c) ∨ (r.head = 0xFF#8 ∧ head = none)) →
    r.modes.toNat < 4 →
    SelMap.linksKept { s.map with selections := s.map.selections.set i { s.map.selections[i] with head := head } } =
      true →
    ∃ t : State, exec (.writeSelectionTable h index [r]) s = .next t ∧
      (∀ j : SelectionId, j ≠ i → t.map.selections[j] = s.map.selections[j]) ∧
      t.map.selections[i].price = min 9999 r.price.toNat ∧ t.map.selections[i].head = head ∧
      (t.map.selections[i].search = .rotate ↔ r.modes.getLsbD 0 = true) ∧
      (t.map.selections[i].approval = .host ↔ r.modes.getLsbD 1 = true) ∧
      (∀ c : ColumnId, t.map.selections[i].cursor = some c ↔
        s.map.selections[i].cursor = some c ∧ t.map.selections[i].search = s.map.selections[i].search ∧
          c ∈ t.map.list i) ∧
      (let code : ResultCode := if 9999 < r.price.toNat then .clamped else .ok
       LinksOnly { s with map := { s.map with selections := t.map.selections, pMin := t.map.lowest },
                          port := answeredPort s h .write code .empty } t ∧
       t.newestAnswer = some (answerTo s h .write code .empty))

/-- R57, R62, R64: a WRITE of one column record, not held by an attempt, with no sale in flight, whose links keep R58,
takes the written state whatever stood before (EMPTY for AVAILABLE with count 0), clamps turns and count, and P_min is
computed anew; the cursors are those R61 leaves. (The ANSWER is placed before the COLUMN report: log 9.) -/
def Obligations.ColumnWritten : Prop :=
  ∀ (s : State) (h : ReqHeader) (c : ColumnId) (index : Byte) (st : ColState) (z : ZoneId) (r : RawColumn)
    (next : Option ColumnId),
    s.takes h → index.toNat = c.val → s.sale.current = none →
    (∀ a, s.drive.attempt = some a → a.column ≠ c) →
    r.stateZone.toNat = 16 * z.val + (match st with
      | .available => 0
      | .empty => 1
      | .jammed => 2
      | .fault => 3
      | .disabled => 4) →
    ((∃ n : ColumnId, r.next.toNat = n.val ∧ next = some n) ∨ (r.next = 0xFF#8 ∧ next = none)) →
    SelMap.linksKept { s.map with columns := s.map.columns.set c { s.map.columns[c] with next := next } } = true →
    ∃ (t : State) (code : ResultCode), exec (.writeColumnTable h index [r]) s = .next t ∧
      (code = .ok ∨ code = .clamped) ∧
      (code = .clamped ↔ r.turns.toNat = 0 ∨ 3 < r.turns.toNat ∨ (99 < r.count.toNat ∧ r.count ≠ 0xFF#8) ∨
        (st = .available ∧ r.count = 0#8)) ∧
      t.map.columns[c] =
        { state := if st = .available ∧ r.count = 0#8 then .empty else st
          zone := z
          turns := max 1 (min 3 r.turns.toNat)
          count := if r.count = 0xFF#8 then none else some (min 99 r.count.toNat)
          next := next } ∧
      (∀ d : ColumnId, d ≠ c → t.map.columns[d] = s.map.columns[d]) ∧
      (∀ i : SelectionId, t.map.selections[i] = { s.map.selections[i] with
        cursor := (s.map.selections[i].cursor).filter (fun d => decide (d ∈ t.map.list i)) }) ∧
      LinksOnly { s with map := { s.map with columns := t.map.columns, selections := t.map.selections,
                                             pMin := t.map.lowest },
                         port := answeredPort s h .write code .empty } t ∧
      t.newestAnswer = some (answerTo s h .write code .empty)

/-- R126, R127, R175: the calibration table is replaced whole, offsets are clamped to −50 to +50 and are all a channel
WRITE changes, and the relay rules of the written stations are bits 0 and 1 of their bytes. -/
def Obligations.CalibrationChannelsRelayWritten : Prop :=
  ∀ (s : State) (h : ReqHeader), s.takes h →
    (∀ points : List RawBreakpoint, 2 ≤ points.length → points.length ≤ 16 →
      (∀ p ∈ points, p.code.toNat ≤ 1023) → (points.map fun p => p.code.toNat).Pairwise (· < ·) →
      ∃ t : State, exec (.writeCalibrationTable h 0#8 points) s = .next t ∧
        let code : ResultCode := if ∃ p ∈ points, p.temperature.toInt < -400 ∨ 1200 < p.temperature.toInt
          then .clamped else .ok
        LinksOnly { s with
          cool := { s.cool with calibration := (points.map fun p =>
            (p.code.toNat, max (-400) (min 1200 p.temperature.toInt))) }
          port := answeredPort s h .write code .empty } t ∧
        t.newestAnswer = some (answerTo s h .write code .empty)) ∧
    (∀ (index : Byte) (offsets : List Byte), index.toNat < 4 → index.toNat + offsets.length ≤ 4 →
      ∃ t : State, exec (.writeChannelTable h index offsets) s = .next t ∧
        (∀ k : ChannelId, (k.val < index.toNat ∨ index.toNat + offsets.length ≤ k.val) →
          t.cool.channels[k] = s.cool.channels[k]) ∧
        (∀ (k : ChannelId) (b : Byte), index.toNat ≤ k.val → offsets[k.val - index.toNat]? = some b →
          t.cool.channels[k] = { s.cool.channels[k] with offset := max (-50) (min 50 b.toInt) }) ∧
        let code : ResultCode := if ∃ b ∈ offsets, b.toInt < -50 ∨ 50 < b.toInt then .clamped else .ok
        LinksOnly { s with cool := { s.cool with channels := t.cool.channels },
                           port := answeredPort s h .write code .empty } t ∧
        t.newestAnswer = some (answerTo s h .write code .empty)) ∧
    ∀ (index : Byte) (rules : List Byte), index.toNat < 7 → index.toNat + rules.length ≤ 7 →
      ∃ (t : State) (stations : Vector Station 7), exec (.writeRelayTable h index rules) s = .next t ∧
        (∀ k : StationId, (k.val < index.toNat ∨ index.toNat + rules.length ≤ k.val) →
          stations[k] = s.line.stations[k]) ∧
        (∀ (k : StationId) (b : Byte), index.toNat ≤ k.val → rules[k.val - index.toNat]? = some b →
          stations[k] = { s.line.stations[k] with downAllowed := b.getLsbD 0, upMirror := b.getLsbD 1 }) ∧
        LinksOnly { s with line := { s.line with stations := stations },
                           port := answeredPort s h .write .ok .empty } t ∧
        t.newestAnswer = some (answerTo s h .write .ok .empty)

/-- R133, R156, R157: a WRITE of one zone record while the compressor record is LOCKOUT and no sale is in flight.
Mode, setpoint, differential and the health fields take their (clamped) values; the demand is judged again as R133's
table gives; the health record is the one R156's table gives; the map keeps its state. A CONFLICT refuses the whole WRITE.
(The ANSWER is placed before the ZONE report: log 9. An expiry at the WRITE's very moment is past: log 49.) -/
def Obligations.ZoneWritten : Prop :=
  ∀ (s : State) (h : ReqHeader) (z : ZoneId) (index : Byte) (r : RawZone) (mode : ZoneMode),
    s.takes h → index.toNat = z.val → s.sale.current = none → s.cool.plant.phase = .lockout →
    (r.mode = 0#8 ∧ mode = .monitor ∨ r.mode = 1#8 ∧ mode = .chill) →
    let old := s.cool.zones[z]
    let ch := s.cool.channels[zoneChannel z]
    let allowance := max 10 (min 240 r.allowance.toNat)
    let flag : Bool := decide (r.healthFlag ≠ 0#8)
    (flag = true → allowance * 60 ≤ s.settings.heaterMax * 60 + s.settings.drip →
      ∃ t : State, exec (.writeZoneTable h index [r]) s = .next t ∧
        LinksOnly { s with port := answeredPort s h .write .conflict .empty } t ∧
        t.newestAnswer = some (answerTo s h .write .conflict .empty)) ∧
    ((flag = true → s.settings.heaterMax * 60 + s.settings.drip < allowance * 60) →
      ∃ (t : State) (code : ResultCode) (zone : Zone), exec (.writeZoneTable h index [r]) s = .next t ∧
        (code = .ok ∨ code = .clamped) ∧
        (code = .ok ↔ zone.setpoint = r.setpoint.toInt ∧ zone.differential = r.differential.toNat ∧
          zone.healthLimit = r.healthLimit.toInt ∧ zone.allowance = r.allowance.toNat) ∧
        zone.mode = mode ∧ zone.setpoint = max (-50) (min 150 r.setpoint.toInt) ∧
        zone.differential = max 5 (min 50 r.differential.toNat) ∧ zone.healthFlag = flag ∧
        zone.healthLimit = max (-20) (min 100 r.healthLimit.toInt) ∧ zone.allowance = allowance ∧
        (mode = .monitor → zone.demand = .satisfied ∧ zone.duty = none) ∧
        (mode = .chill → ch.status = .noData → zone.demand = .satisfied) ∧
        (mode = .chill → ch.status ≠ .fault → zone.duty = old.duty) ∧
        (mode = .chill → ch.status = .fault → old.duty = none →
          zone.demand = .demand ∧ zone.duty = some (.demand, s.now + 600000)) ∧
        (mode = .chill → ch.status = .fault → old.duty ≠ none → zone.demand = old.demand ∧ zone.duty = old.duty) ∧
        (mode = .chill → ch.status = .valid → ∀ temp, ch.temperature = some temp →
          zone.demand = (if zone.setpoint + zone.differential ≤ temp then .demand
                         else if temp ≤ zone.setpoint then .satisfied else old.demand)) ∧
        (let health : Health :=
           match old.healthFlag, flag with
           | false, false => s.health[z]
           | true, false => .none
           | false, true => if ch.status = .fault then .held .sensor else .proving
           | true, true =>
             if old.healthLimit = zone.healthLimit ∧ old.allowance = zone.allowance then s.health[z]
             else match (if ch.status = .valid then ch.temperature else none), s.health[z] with
               | some temp, .normal => if temp ≤ zone.healthLimit then .normal else .warning s.now
               | some temp, .warning start =>
                 if temp ≤ zone.healthLimit then .normal
                 else if start + 60000 * zone.allowance ≤ s.now then .held .expired
                 else .warning start
               | _, same => same
         LinksOnly { s with
           cool := { s.cool with zones := s.cool.zones.set z zone }
           health := s.health.set z health
           map := { s.map with zoneHealth := s.map.zoneHealth.set z health.state, pMin := t.map.lowest }
           port := answeredPort s h .write code .empty } t) ∧
        t.newestAnswer = some (answerTo s h .write code .empty))

/-- R32, R92, R124, R145, R157: a settings WRITE clamps each number into its range, is refused IN_USE where the
clamped budget is below the units granted, and otherwise, in LOCKOUT with min off not passed, no request waiting at
the arbiter and no zone's health flag on, takes every setting and the budget and leaves the rest as it stands. -/
def Obligations.SettingsWritten : Prop :=
  ∀ (s : State) (h : ReqHeader) (r : RawSettings), s.takes h →
    let budget := max 4 (min 15 r.budget.toNat)
    let settings : Settings :=
      { creditMax := max 1 (min 9999 r.creditMax.toNat)
        columnTries := max 1 (min 4 r.columnTries.toNat)
        multiVend := decide (r.multiVend ≠ 0#8)
        minOff := max 120 (min 600 r.minOff.toNat)
        minRun := max 30 (min 300 r.minRun.toNat)
        defrostInterval := max 2 (min 24 r.defrostInterval.toNat)
        heaterMax := max 10 (min 60 r.heaterMax.toNat)
        termination := max 20 (min 150 r.termination.toInt)
        drip := max 60 (min 600 r.drip.toNat) }
    (budget < s.load.granted → ∃ t : State, exec (.writeSettings h 0#8 [r]) s = .next t ∧
      LinksOnly { s with port := answeredPort s h .write .inUse .empty } t ∧
      t.newestAnswer = some (answerTo s h .write .inUse .empty)) ∧
    (s.load.granted ≤ budget → s.load.requests = [] → (∀ z : ZoneId, s.cool.zones[z].healthFlag = false) →
      s.cool.plant.phase = .lockout → s.cool.plant.heaterTimer = none → s.cool.plant.dripTimer = none →
      s.now < s.cool.plant.lastStop + 1000 * settings.minOff →
      ∃ (t : State) (code : ResultCode), exec (.writeSettings h 0#8 [r]) s = .next t ∧
        (code = .ok ∨ code = .clamped) ∧
        (code = .ok ↔ budget = r.budget.toNat ∧ settings.creditMax = r.creditMax.toNat ∧
          settings.columnTries = r.columnTries.toNat ∧ settings.minOff = r.minOff.toNat ∧
          settings.minRun = r.minRun.toNat ∧ settings.defrostInterval = r.defrostInterval.toNat ∧
          settings.heaterMax = r.heaterMax.toNat ∧ settings.termination = r.termination.toInt ∧
          settings.drip = r.drip.toNat) ∧
        LinksOnly { s with
          settings := settings
          load := { s.load with budget := budget }
          cool := { s.cool with plant := { s.cool.plant with
            due := s.cool.plant.due || decide (3600000 * settings.defrostInterval ≤ s.cool.plant.runMs) } }
          port := answeredPort s h .write code .empty } t ∧
        t.newestAnswer = some (answerTo s h .write code .empty))

/-- R183, R1, R4, R56, R57, R60, R126, R133: the refusals of a WRITE, each with its code and nothing taken: an index
outside the table, records past its end, an unnamed value, a value change of a coin type during a payout, a tube with
a PAY outstanding, a column held by an attempt, links that break R58, and codes out of order. -/
def Obligations.RefusedWriteTakesNothing : Prop :=
  ∀ (s : State) (h : ReqHeader) (c : Instr) (code : ResultCode), s.takes h →
    ((∃ i r, c = .writeCoinTable h i r ∧ (16 ≤ i.toNat ∨ 16 < i.toNat + r.length) ∧ code = .badIndex) ∨
     (∃ i r, c = .writeBillTable h i r ∧ (8 ≤ i.toNat ∨ 8 < i.toNat + r.length) ∧ code = .badIndex) ∨
     (∃ i r, c = .writeTubeTable h i r ∧ (6 ≤ i.toNat ∨ 6 < i.toNat + r.length) ∧ code = .badIndex) ∨
     (∃ i r, c = .writeSelectionTable h i r ∧ (100 ≤ i.toNat ∨ 100 < i.toNat + r.length) ∧ code = .badIndex) ∨
     (∃ i r, c = .writeColumnTable h i r ∧ (64 ≤ i.toNat ∨ 64 < i.toNat + r.length) ∧ code = .badIndex) ∨
     (∃ i r, c = .writeCalibrationTable h i r ∧ i ≠ 0#8 ∧ code = .badIndex) ∨
     (∃ i r, c = .writeChannelTable h i r ∧ (4 ≤ i.toNat ∨ 4 < i.toNat + r.length) ∧ code = .badIndex) ∨
     (∃ i r, c = .writeZoneTable h i r ∧ (3 ≤ i.toNat ∨ 3 < i.toNat + r.length) ∧ code = .badIndex) ∨
     (∃ i r, c = .writeSettings h i r ∧ (i ≠ 0#8 ∨ 1 < r.length) ∧ code = .badIndex) ∨
     (∃ i r, c = .writeRelayTable h i r ∧ (7 ≤ i.toNat ∨ 7 < i.toNat + r.length) ∧ code = .badIndex) ∨
     (∃ (i : CoinId) (r : RawValue), c = .writeCoinTable h (BitVec.ofNat 8 i.val) [r] ∧ s.payout.phase ≠ .idle ∧
       min 2000 r.value.toNat ≠ s.cash.coins[i].value ∧ code = .inUse) ∨
     (∃ (i : TubeId) (r : RawTube), c = .writeTubeTable h (BitVec.ofNat 8 i.val) [r] ∧
       16 ≤ r.coinType.toNat ∧ r.coinType ≠ 0xFF#8 ∧ code = .badValue) ∨
     (∃ (i : TubeId) (r : RawTube) (p : PayCmd), c = .writeTubeTable h (BitVec.ofNat 8 i.val) [r] ∧
       r.coinType.toNat < 16 ∧ s.payout.inFlight = some p ∧ p.tube = i ∧ code = .inUse) ∨
     (∃ (i : SelectionId) (r : RawSelection), c = .writeSelectionTable h (BitVec.ofNat 8 i.val) [r] ∧
       (64 ≤ r.head.toNat ∧ r.head ≠ 0xFF#8 ∨ 4 ≤ r.modes.toNat) ∧ code = .badValue) ∨
     (∃ (i : ColumnId) (r : RawColumn), c = .writeColumnTable h (BitVec.ofNat 8 i.val) [r] ∧
       (5 ≤ r.stateZone.toNat % 16 ∨ 48 ≤ r.stateZone.toNat ∨ 64 ≤ r.next.toNat ∧ r.next ≠ 0xFF#8) ∧
       code = .badValue) ∨
     (∃ (i : ColumnId) (r : RawColumn) (a : Attempt), c = .writeColumnTable h (BitVec.ofNat 8 i.val) [r] ∧
       r.stateZone = 0#8 ∧ r.next = 0xFF#8 ∧ s.drive.attempt = some a ∧ a.column = i ∧ code = .inUse) ∨
     (∃ (i : ColumnId) (r : RawColumn), c = .writeColumnTable h (BitVec.ofNat 8 i.val) [r] ∧ r.stateZone = 0#8 ∧
       s.drive.attempt = none ∧ r.next.toNat = i.val ∧ code = .listError) ∨
     (∃ r, c = .writeCalibrationTable h 0#8 r ∧ (r.length < 2 ∨ 16 < r.length ∨
       (∃ p ∈ r, 1023 < p.code.toNat) ∨ ¬ (r.map fun p => p.code.toNat).Pairwise (· < ·)) ∧ code = .badValue) ∨
     (∃ (i : ZoneId) (r : RawZone), c = .writeZoneTable h (BitVec.ofNat 8 i.val) [r] ∧ 2 ≤ r.mode.toNat ∧
       code = .badValue)) →
    ∃ t : State, exec c s = .next t ∧
      LinksOnly { s with port := answeredPort s h .write code .empty } t ∧
      t.newestAnswer = some (answerTo s h .write code .empty)

/-! ### The sale -/

/-- R94, R95, R183: the refusals of a SELECT, each by the first failing check, with its code (and the price for
INSUFFICIENT); a refused selection changes no block but the links. -/
def Obligations.SelectRefusedByFirstCheck : Prop :=
  ∀ (s : State) (h : ReqHeader) (n : Byte), s.takes h →
    let refused (t : State) (code : ResultCode) (data : AnswerData) : Prop :=
      exec (.select h n) s = .next t ∧
      LinksOnly { s with port := answeredPort s h .select code data } t ∧
      t.newestAnswer = some (answerTo s h .select code data)
    (100 ≤ n.toNat → ∃ t, refused t .badIndex .empty) ∧
    ∀ i : SelectionId, n.toNat = i.val →
      (s.mode.effective ≠ .vend → ∃ t, refused t .closed .empty) ∧
      (s.mode.effective = .vend →
        ((s.sale.current ≠ none ∨ s.payout.phase ≠ .idle) → ∃ t, refused t .busy .empty) ∧
        (s.sale.current = none → s.payout.phase = .idle →
          (20 ≤ s.port.reports.length → ∃ t, refused t .busyReports .empty) ∧
          (s.port.reports.length < 20 →
            ((s.drive.sensor ≠ .clear ∨ s.map.selections[i].price = 0 ∨
                ∀ c ∈ s.map.list i, (s.map.columns[c]).state ≠ .available ∨
                  s.map.zoneHealth[(s.map.columns[c]).zone] = .proving ∨
                  s.map.zoneHealth[(s.map.columns[c]).zone] = .held) →
              ∃ t, refused t .notSellable .empty) ∧
            (s.drive.sensor = .clear → s.map.selectionSells i = true →
              s.ledger.credit + s.cash.escrow.value < s.map.selections[i].price →
              (0 < s.ledger.credit ∨ s.cash.escrow.full = true ∨ s.card = .absent ∨
                ∃ f, s.card = .present (some f) ∧ f < s.map.selections[i].price) →
              ∃ t, refused t .insufficient (.price s.map.selections[i].price)))))

/-- R93 to R98, R101, R104, R106, R73, R74, R15: an accepted SELECT takes the next sale number and, in the four cases:
a CASH sale within credit takes its hold and is DRIVING at once where the supply is free; with HOST approval it takes
its hold and waits 10 s for APPROVE; a CASHLESS sale hands CHARGE_ASK and waits 30 s for the reader; a CASH sale that
needs the escrowed bill has it stacked. -/
def Obligations.AcceptedSelectStartsSale : Prop :=
  ∀ (s : State) (h : ReqHeader) (n : Byte) (i : SelectionId) (c : ColumnId), s.takes h → n.toNat = i.val →
    s.mode.effective = .vend → s.sale.current = none → s.payout.phase = .idle → s.port.reports.length < 20 →
    s.drive.sensor = .clear → s.map.selectionSells i = true → s.map.search i [] = some c →
    let price := s.map.selections[i].price
    let approval := s.map.selections[i].approval
    let number := if 65535 ≤ s.sale.lastNumber then 1 else s.sale.lastNumber + 1
    let sale (source : Source) : Sale :=
      { stage := .settling, number := number, origin := .servicePort, selection := i, source := source
        price := price, approval := approval, triesAllowed := s.settings.columnTries
        multiVend := s.settings.multiVend, chosen := none, tried := [], told := .none, outcome := none
        loadLimit := none, approvalLimit := none, billStacked := false }
    let sold (t : State) (source : Source) : Prop :=
      exec (.select h n) s = .next t ∧
      ∃ a, t.newestAnswer = some a ∧ a.kind = .select ∧ a.code = .ok ∧ a.data = .sold number source
    let held : Ledger := { s.ledger with credit := s.ledger.credit - price, hold := price }
    let record (x : Sale) : SaleUnit := { s.sale with current := some x, lastNumber := number }
    (price ≤ s.ledger.credit → s.ledger.hold = 0 → approval = .none → SpiralReady s →
      ∃ (t : State) (p : Port), sold t .cash ∧
        LinksOnly { drivingState { s with ledger := held, sale := record (sale .cash) } (sale .cash) c with port := p }
          t) ∧
    (price ≤ s.ledger.credit → s.ledger.hold = 0 → approval = .host →
      ∃ (t : State) (p : Port), sold t .cash ∧
        LinksOnly { s with
          ledger := held
          sale := record { sale .cash with stage := .hostApproval, approvalLimit := some (s.now + 10000) }
          port := p } t) ∧
    (s.ledger.credit + s.cash.escrow.value < price → s.ledger.credit = 0 → s.cash.escrow.full = false →
      approval = .none → (s.card = .present none ∨ ∃ f, s.card = .present (some f) ∧ price ≤ f) →
      ∃ (t : State) (p : Port), sold t .cashless ∧
        LinksOnly { s with
          line := (s.hand reader (.with .chargeAsk (twoBytes number ++ twoBytes price ++ [BitVec.ofNat 8 i.val]))).line
          sale := record { sale .cashless with stage := .readerApproval, told := .asked
                                               approvalLimit := some (s.now + 30000) }
          port := p } t) ∧
    (∀ (b : BillId) (v : Nat), s.cash.escrow = .held b v → s.ledger.credit < price → price ≤ s.ledger.credit + v →
      s.load.requests = [] → (∀ g ∈ s.load.grants, g.holder ≠ .stacking) → 1 ≤ s.load.free →
      ∃ (t : State) (p : Port), sold t .cash ∧
        LinksOnly { s with
          cash := { s.cash with escrow := .stacking b v (s.now + 8000) }
          load := { s.load with grants := s.load.grants ++ [{ holder := .stacking, units := 1 }] }
          line := (s.hand validator (.plain .keepBill)).line
          sale := record { sale .cash with stage := .stacking }
          port := p } t)

/-- R99, R101, R104, R106, R108: an APPROVE is answered LATE and changes nothing but in HOST_APPROVAL with the sale's
number; there yes starts a CASH sale's try and asks the reader for a CASHLESS sale, and no settles the sale DENIED, a
CASH sale's hold going back to credit. -/
def Obligations.ApproveDecidesSale : Prop :=
  ∀ (s : State) (h : ReqHeader) (number : Half) (yes : Byte), s.takes h →
    ((∀ x, s.sale.current = some x → x.stage = .hostApproval → x.number ≠ number.toNat) →
      ∃ t : State, exec (.approve h number yes) s = .next t ∧
        LinksOnly { s with port := answeredPort s h .approve .late .empty } t ∧
        t.newestAnswer = some (answerTo s h .approve .late .empty)) ∧
    ∀ x : Sale, s.sale.current = some x → x.stage = .hostApproval → x.number = number.toNat →
      (yes ≠ 0#8 → x.source = .cashless → ∃ (t : State) (p : Port), exec (.approve h number yes) s = .next t ∧
        LinksOnly { s with
          line := (s.hand reader (chargeAskRequest x.number x.price x.selection)).line
          sale := { s.sale with current := some { x with stage := .readerApproval, told := .asked
                                                         approvalLimit := some (s.now + 30000) } }
          port := p } t ∧
        t.newestAnswer = some (answerTo s h .approve .ok .empty)) ∧
      (∀ c : ColumnId, yes ≠ 0#8 → x.source = .cash → SpiralReady s → x.tried = [] →
        s.map.search x.selection [] = some c →
        ∃ (t : State) (p : Port), exec (.approve h number yes) s = .next t ∧
          LinksOnly { drivingState s x c with port := p } t ∧
          t.newestAnswer = some (answerTo s h .approve .ok .empty)) ∧
      (yes = 0#8 → x.source = .cash → SettlesAlone s →
        ∃ (t : State) (p : Port), exec (.approve h number yes) s = .next t ∧
          LinksOnly { s with ledger := heldBack s.ledger, sale := { s.sale with current := none }, port := p } t ∧
          t.newestAnswer = some (answerTo s h .approve .ok .empty)) ∧
      (yes = 0#8 → x.source = .cashless → x.told = .none → s.sale.pendingReturn = false →
        ∃ (t : State) (p : Port), exec (.approve h number yes) s = .next t ∧
          LinksOnly { s with sale := { s.sale with current := none }, port := p } t ∧
          t.newestAnswer = some (answerTo s h .approve .ok .empty))

/-- R100, R103, R105, R108: the expiry of the host's limit ends a CASH sale TIMED_OUT with its hold back in credit; the
expiry of the reader's limit removes the unsent CHARGE_ASK, leaving a request outstanding at station 3 as it stands, and
hands CHARGE_END(failed); the expiry of the load limit withdraws the spiral request and ends the sale NO_POWER. The
clock moves on to the expiry (log 1, log 2). -/
def Obligations.SaleLimitsEndSale : Prop :=
  ∀ (s : State) (x : Sale) (limit : Nat), s.sale.current = some x →
    let u := s.advanceTo limit
    let ended (t : State) (outcome : SaleOutcome) : Prop :=
      ∃ r : SaleReport, .report (.sale r) ∈ t.outLine ∧ r.number = x.number ∧ r.outcome = outcome ∧ r.price = x.price
    (x.stage = .hostApproval → x.approvalLimit = some limit → x.source = .cash → SettlesAlone s →
      s.port.reports.length < 20 →
      ∃ (t : State) (p : Port), exec .hostApprovalLimitExpiry s = .next t ∧ ended t .timedOut ∧
        LinksOnly { u with ledger := heldBack s.ledger, sale := { s.sale with current := none }, port := p } t) ∧
    (x.stage = .readerApproval → x.approvalLimit = some limit → x.source = .cashless → x.told = .asked →
      s.sale.pendingReturn = false → s.port.reports.length < 20 →
      ∃ (t : State) (p : Port), exec .readerApprovalLimitExpiry s = .next t ∧ ended t .timedOut ∧
        LinksOnly { u with
          line := ((s.removeFrames reader [.chargeAsk]).hand reader (.with .chargeEnd [0#8])).line
          sale := { s.sale with current := none }
          port := p } t ∧
        (∀ e ∈ t.line.queue, ¬ (e.station = reader ∧ e.request.kind = .chargeAsk)) ∧
        ∀ q, (s.line.stations[reader]).outstanding = some q → (t.line.stations[reader]).outstanding = some q) ∧
    (x.loadLimit = some limit → x.source = .cash → SettlesAlone s → s.port.reports.length < 20 →
      (∀ r ∈ s.load.requests, r.requester = .spiral) →
      ∃ (t : State) (p : Port), exec .loadLimitExpiry s = .next t ∧ ended t .noPower ∧
        LinksOnly { u with
          ledger := heldBack s.ledger
          load := { s.load with requests := [] }
          sale := { s.sale with current := none }
          port := p } t)

/-- R111, R112, R19, R27, R44, R45, R51: a LEVER while a unit is busy sets the pending-return flag; with both units IDLE it
is acted on at once. A HELD bill is asked back with GIVE_BACK, or lost with station 2 away (R20). The credit goes to
pending payout: where station 1 is away or no coin can be paid, the whole of it is owed, the operation ending in the
same event with its PAYOUT_DONE; else the plan's shortfall is owed and reported, and, the supply being free, the plan's
first command is handed to station 1 as a PAY and the unit is PAYING. (The ANSWER is placed before all of this:
log 9.) -/
def Obligations.LeverReturnsCredit : Prop :=
  ∀ (s : State) (h : ReqHeader), s.takes h →
    ((s.sale.current ≠ none ∨ s.payout.phase ≠ .idle) →
      ∃ t : State, exec (.lever h) s = .next t ∧
        LinksOnly { s with sale := { s.sale with pendingReturn := true },
                           port := answeredPort s h .lever .ok (.lever true) } t ∧
        t.newestAnswer = some (answerTo s h .lever .ok (.lever true))) ∧
    ∀ (cash : Cash) (line : Line), s.sale.current = none → s.payout.phase = .idle → s.ledger.pending = 0 →
      (((∀ b v, s.cash.escrow ≠ .held b v) ∧ cash = s.cash ∧ line = s.line) ∨
        ∃ b v, s.cash.escrow = .held b v ∧
          ((s.line.stations[validator].active = true ∧ cash = { s.cash with escrow := .returning b v } ∧
              line = (s.hand validator (.plain .giveBack)).line) ∨
            (s.line.stations[validator].active = false ∧ cash = { s.cash with escrow := .empty } ∧
              line = s.line))) →
      let answered (t : State) : Prop :=
        exec (.lever h) s = .next t ∧ t.newestAnswer = some (answerTo s h .lever .ok (.lever false))
      let left : State := { s with cash := cash, line := line, sale := { s.sale with pendingReturn := false } }
      let tubes := rankTubes s.cash Tube.count
      let made := makePlan s.ledger.credit tubes
      let commands := (made.plan.map fun p => splitCoins p.1.tube p.1.value p.2).flatten
      (s.ledger.credit = 0 → ∃ t : State, answered t ∧
        LinksOnly { left with port := answeredPort s h .lever .ok (.lever false) } t) ∧
      (0 < s.ledger.credit → s.ledger.credit ≤ 9999 →
        ((s.line.stations[coinMech].active = false ∨ commands = []) →
          ∃ (t : State) (p : Port), answered t ∧
            LinksOnly { left with
              ledger := { s.ledger with credit := 0
                                        changeOwed := s.ledger.changeOwed + BitVec.ofNat 32 s.ledger.credit }
              payout := Payout.powerOn
              port := p } t ∧
            (s.port.reports.length < 20 →
              .report (.payoutDone { occasion := .ending, manual := false, paid := 0, owed := s.ledger.credit
                                     entries := [] }) ∈ t.outLine)) ∧
        ∀ (first : PayCmd) (more : List PayCmd), s.line.stations[coinMech].active = true →
          commands = first :: more → s.load.requests = [] → (∀ g ∈ s.load.grants, g.holder ≠ .payout) →
          1 ≤ s.load.free →
          ∃ (t : State) (p : Port) (joined : Bool), answered t ∧
            LinksOnly { left with
              ledger := { s.ledger with credit := 0
                                        pending := s.ledger.credit - made.shortfall
                                        changeOwed := s.ledger.changeOwed + BitVec.ofNat 32 made.shortfall }
              payout := { phase := .paying, manual := false, remaining := more, inFlight := some first
                          typesAtPlan := (tubes.filterMap fun r =>
                            (s.cash.tubes[r.tube]).coinType.map fun c => (r.tube, c))
                          limit := some (s.now + 30000), paid := 0, owed := 0
                          entries := [{ tube := first.tube, asked := first.coins, paid := 0, ending := none }]
                          payJoined := joined }
              load := { s.load with grants := s.load.grants ++ [{ holder := .payout, units := 1 }] }
              line := (left.hand coinMech
                (.with .pay [BitVec.ofNat 8 first.tube.val, BitVec.ofNat 8 first.coins])).line
              port := p } t ∧
            (0 < made.shortfall → s.port.reports.length < 20 →
              .report (.payoutDone { occasion := .shortfall, manual := false, paid := 0, owed := made.shortfall
                                     entries := [] }) ∈ t.outLine))

/-! ### Test drives, tube emptying, health, defrost, restart, relay -/

/-- R86, R87, R117: TEST_DRIVE is refused BAD_INDEX, CLOSED outside SERVICE, and BUSY where a sale, an attempt or a
test request stands; otherwise it is answered OK and, where the supply is free, the attempt starts at once, its drop
judged only where the sensor was CLEAR. -/
def Obligations.TestDriveStarts : Prop :=
  ∀ (s : State) (h : ReqHeader) (n : Byte), s.takes h →
    let refused (t : State) (code : ResultCode) : Prop :=
      exec (.testDrive h n) s = .next t ∧
      LinksOnly { s with port := answeredPort s h .testDrive code .empty } t ∧
      t.newestAnswer = some (answerTo s h .testDrive code .empty)
    (64 ≤ n.toNat → ∃ t, refused t .badIndex) ∧
    (n.toNat < 64 → s.mode.effective ≠ .service → ∃ t, refused t .closed) ∧
    (n.toNat < 64 → s.mode.effective = .service →
      (s.sale.current ≠ none ∨ s.drive.attempt ≠ none ∨ s.drive.testRequest ≠ none) → ∃ t, refused t .busy) ∧
    ∀ c : ColumnId, n.toNat = c.val → s.mode.effective = .service → s.sale.current = none →
      s.drive.attempt = none → s.drive.testRequest = none → (∀ r ∈ s.load.requests, r.requester ≠ .testDrive) →
      (∀ g ∈ s.load.grants, g.holder ≠ .testDrive) →
      (s.load.requests = [] → 2 ≤ s.load.free → ∃ t : State, exec (.testDrive h n) s = .next t ∧
        LinksOnly { s with
          load := { s.load with grants := s.load.grants ++ [{ holder := .testDrive, units := 2 }] }
          drive := { s.drive with
            attempt := some (startedAttempt s .test c 1 (decide (s.drive.sensor = .clear))) }
          port := answeredPort s h .testDrive .ok .empty } t ∧
        t.newestAnswer = some (answerTo s h .testDrive .ok .empty)) ∧
      (s.load.requests = [] → s.load.free < 2 → 2 ≤ s.load.budget →
        ∃ t : State, exec (.testDrive h n) s = .next t ∧
        LinksOnly { s with
          load := { s.load with requests := [{ requester := .testDrive, asked := 2, counted := 2, time := s.now
                                               promoted := false }] }
          drive := { s.drive with testRequest := some { column := c, limit := s.now + 30000 } }
          port := answeredPort s h .testDrive .ok .empty } t ∧
        t.newestAnswer = some (answerTo s h .testDrive .ok .empty))

/-- R53, R45, R43, R114: TUBE_OUT is refused BAD_INDEX, CLOSED, BUSY or ABSENT in that order; otherwise the count is
clamped to 1 to 250 and, where the supply is free, the first command's PAY is handed to station 1 within the event and the
unit is PAYING, with the manual mark. (Whether a sale in flight is BUSY too, as R114 has it and R53 does not, is the
free value Config.tubeOutWaitsForSale, and both cases are stated: log 46.) -/
def Obligations.TubeOutPays : Prop :=
  ∀ (s : State) (h : ReqHeader) (n k : Byte), s.takes h →
    let refused (t : State) (code : ResultCode) : Prop :=
      exec (.tubeOut h n k) s = .next t ∧
      LinksOnly { s with port := answeredPort s h .tubeOut code .empty } t ∧
      t.newestAnswer = some (answerTo s h .tubeOut code .empty)
    (6 ≤ n.toNat → ∃ t, refused t .badIndex) ∧
    (n.toNat < 6 → s.mode.effective ≠ .service → ∃ t, refused t .closed) ∧
    (n.toNat < 6 → s.mode.effective = .service → s.payout.phase ≠ .idle → ∃ t, refused t .busy) ∧
    (n.toNat < 6 → s.mode.effective = .service → s.sale.current ≠ none →
      Config.tubeOutWaitsForSale = true → ∃ t, refused t .busy) ∧
    (n.toNat < 6 → s.mode.effective = .service → s.payout.phase = .idle →
      (s.sale.current = none ∨ Config.tubeOutWaitsForSale = false) → s.line.stations[coinMech].active = false → ∃ t, refused t .absent) ∧
    ∀ (tube : TubeId) (first : PayCmd) (more : List PayCmd), n.toNat = tube.val → s.mode.effective = .service →
      s.payout.phase = .idle → (s.sale.current = none ∨ Config.tubeOutWaitsForSale = false) →
      s.line.stations[coinMech].active = true → s.load.requests = [] →
      (∀ g ∈ s.load.grants, g.holder ≠ .payout) → 1 ≤ s.load.free →
      splitCoins tube ((s.cash.tubes[tube]).value s.cash.coins) (max 1 (min 250 k.toNat)) = first :: more →
      ∃ (t : State) (p : Port) (joined : Bool), exec (.tubeOut h n k) s = .next t ∧
        LinksOnly { s with
          payout := { phase := .paying, manual := true, remaining := more, inFlight := some first, typesAtPlan := []
                      limit := some (s.now + 30000), paid := 0, owed := 0
                      entries := [{ tube := tube, asked := first.coins, paid := 0, ending := none }]
                      payJoined := joined }
          load := { s.load with grants := s.load.grants ++ [{ holder := .payout, units := 1 }] }
          line := (s.hand coinMech (.with .pay [BitVec.ofNat 8 tube.val, BitVec.ofNat 8 first.coins])).line
          port := p } t ∧
        (let code : ResultCode := if k.toNat = 0 ∨ 250 < k.toNat then .clamped else .ok
         t.newestAnswer = some (answerTo s h .tubeOut code .empty))

/-- R155, R158, R63, R64: RELEASE is refused BAD_INDEX, CLOSED, NOT_HELD or NOT_COLD in that order; otherwise the zone
is NORMAL, the map keeps that state and P_min is computed anew. -/
def Obligations.ReleaseFreesHeldZone : Prop :=
  ∀ (s : State) (h : ReqHeader) (n : Byte), s.takes h →
    let refused (t : State) (code : ResultCode) : Prop :=
      exec (.release h n) s = .next t ∧
      LinksOnly { s with port := answeredPort s h .release code .empty } t ∧
      t.newestAnswer = some (answerTo s h .release code .empty)
    (3 ≤ n.toNat → ∃ t, refused t .badIndex) ∧
    (n.toNat < 3 → s.mode.effective ≠ .service → ∃ t, refused t .closed) ∧
    ∀ z : ZoneId, n.toNat = z.val → s.mode.effective = .service →
      ((∀ cause, s.health[z] ≠ .held cause) → ∃ t, refused t .notHeld) ∧
      ∀ cause : HoldCause, s.health[z] = .held cause →
        (((s.cool.channels[zoneChannel z]).status ≠ .valid ∨
            ∃ temp, (s.cool.channels[zoneChannel z]).temperature = some temp ∧ s.cool.zones[z].healthLimit < temp) →
          ∃ t, refused t .notCold) ∧
        (∀ temp, (s.cool.channels[zoneChannel z]).status = .valid →
          (s.cool.channels[zoneChannel z]).temperature = some temp → temp ≤ s.cool.zones[z].healthLimit →
          s.map.zoneHealth[z] = .held → s.sale.current = none →
          ∃ t : State, exec (.release h n) s = .next t ∧
            LinksOnly { s with
              health := s.health.set z .normal
              map := { s.map with zoneHealth := s.map.zoneHealth.set z .normal, pMin := t.map.lowest }
              port := answeredPort s h .release .ok .empty } t ∧
            t.newestAnswer = some (answerTo s h .release .ok .empty))

/-- R144, R138, R142: DEFROST is refused BUSY in HEAT_WAIT, HEATING and DRIP; otherwise defrost due is set, and in
READY, with the supply free and the evaporator not yet warm, the heater is on within the event, the run time cleared
and the heater timer running. -/
def Obligations.DefrostCalled : Prop :=
  ∀ (s : State) (h : ReqHeader), s.takes h →
    ((s.cool.plant.phase = .heatWait ∨ s.cool.plant.phase = .heating ∨ s.cool.plant.phase = .drip) →
      ∃ t : State, exec (.defrost h) s = .next t ∧
        LinksOnly { s with port := answeredPort s h .defrost .busy .empty } t ∧
        t.newestAnswer = some (answerTo s h .defrost .busy .empty)) ∧
    ((s.cool.plant.phase = .lockout ∨ s.cool.plant.phase = .starting ∨
        (s.cool.plant.phase = .running ∧ s.cool.plant.minRun ≠ none)) →
      ∃ t : State, exec (.defrost h) s = .next t ∧
        LinksOnly { s with
          cool := { s.cool with plant := { s.cool.plant with due := true } }
          port := answeredPort s h .defrost .ok .empty } t ∧
        t.newestAnswer = some (answerTo s h .defrost .ok .empty)) ∧
    (s.cool.plant.phase = .ready → s.cool.plant.due = false → s.load.requests = [] →
      (∀ g ∈ s.load.grants, g.holder ≠ .heater) → 4 ≤ s.load.free → s.termReached = false →
      ∃ t : State, exec (.defrost h) s = .next t ∧
        LinksOnly { s with
          cool := { s.cool with plant := { s.cool.plant with
            phase := .heating, due := false, runMs := 0, heatedAt := s.now
            heaterTimer := some (s.now + 60000 * s.settings.heaterMax) } }
          load := { s.load with grants := s.load.grants ++ [{ holder := .heater, units := 4 }] }
          port := answeredPort s h .defrost .ok .empty } t ∧
        t.newestAnswer = some (answerTo s h .defrost .ok .empty))

/-- R189, R166, R91, R184: RESTART is refused BUSY while a unit is busy or money is inside; taken during an exchange it
waits for the exchange's end; taken on an IDLE line with no station ACTIVE it holds the break for 100 ms, with every
station at its power-on values but for the relay rules, and the last relay number kept. The requested mode is SETUP,
and the pending return is cleared. (In SETUP already: R186 has nothing to change.) -/
def Obligations.RestartRestarts : Prop :=
  ∀ (s : State) (h : ReqHeader), s.takes h →
    ((s.sale.current ≠ none ∨ s.payout.phase ≠ .idle ∨ s.ledger.credit ≠ 0 ∨ s.ledger.hold ≠ 0 ∨
        s.cash.escrow ≠ .empty) →
      ∃ t : State, exec (.restart h) s = .next t ∧
        LinksOnly { s with port := answeredPort s h .restart .busy .empty } t ∧
        t.newestAnswer = some (answerTo s h .restart .busy .empty)) ∧
    (s.sale.current = none → s.payout.phase = .idle → s.ledger.credit = 0 → s.ledger.hold = 0 →
      s.cash.escrow = .empty → s.mode.effective = .setup →
      let after (l : Line) : State :=
        { s with line := l, sale := { s.sale with pendingReturn := false }
                 mode := { s.mode with requested := .setup }, port := answeredPort s h .restart .ok .empty }
      (∀ x, s.line.phase = .exchange x → ∃ t : State, exec (.restart h) s = .next t ∧
        LinksOnly (after { s.line with restartDue := true }) t ∧
        t.newestAnswer = some (answerTo s h .restart .ok .empty)) ∧
      (s.line.phase = .idle → (∀ st : StationId, s.line.stations[st].active = false) →
        ∃ (t : State) (stations : Vector Station 7), exec (.restart h) s = .next t ∧
          (∀ st : StationId, stations[st] =
            { active := false, role := none, level := none, turn := false, misses := 0, outstanding := none
              waitSince := none, retryAt := none, probeAt := some (s.now + 100), lastWrongRole := none
              downAllowed := s.line.stations[st].downAllowed, upMirror := s.line.stations[st].upMirror }) ∧
          LinksOnly (after { s.line with stations := stations, phase := .lineBreak (s.now + 100), nextSlot := .poll
                                         lastPolled := 6, restartDue := false }) t ∧
          t.newestAnswer = some (answerTo s h .restart .ok .empty)))

/-- R175, R190, R178: the checks of a RELAY in their order, each with its code; when all pass the relay number rises by
1 (from 255 to 1), the ANSWER carries it, and the frame joins the end of the line queue. -/
def Obligations.RelayQueuesFrame : Prop :=
  ∀ (s : State) (h : ReqHeader) (kind : Byte) (payload : List Byte), s.port.slot = none →
    let refused (t : State) (code : ResultCode) : Prop :=
      exec (.relay h kind payload) s = .next t ∧
      LinksOnly { s with port := answeredPort s h .relay code .empty } t ∧
      t.newestAnswer = some (answerTo s h .relay code .empty)
    (h.station.val = 0 → ∃ t, refused t .badIndex) ∧
    ∀ st : StationId, h.station.val = st.val + 1 →
      ((kind.toNat < 0xC0 ∨ 0xDF < kind.toNat ∨ s.line.stations[st].downAllowed = false) →
        ∃ t, refused t .forbidden) ∧
      (0xC0 ≤ kind.toNat → kind.toNat ≤ 0xDF → s.line.stations[st].downAllowed = true →
        (s.line.stations[st].active = false → ∃ t, refused t .absent) ∧
        (s.line.stations[st].active = true →
          ((8 ≤ (s.line.queue.filter QueueEntry.isRelay).length ∨ 16 ≤ s.line.queue.length) →
            ∃ t, refused t .queueFull) ∧
          ((s.line.queue.filter QueueEntry.isRelay).length < 8 → s.line.queue.length < 16 →
            let number := if 255 ≤ s.line.lastRelay then 1 else s.line.lastRelay + 1
            let entry : QueueEntry :=
              { station := st, request := { kind := .relayed kind, payload := payload, relayNo := some number } }
            ∃ t : State, exec (.relay h kind payload) s = .next t ∧
              LinksOnly { s with
                line := { s.line with lastRelay := number, queue := s.line.queue ++ [entry] }
                port := answeredPort s h .relay .ok (.relayNumber number) } t ∧
              t.newestAnswer = some (answerTo s h .relay .ok (.relayNumber number)) ∧
              (s.line.phase ≠ .idle → SetHanded s → t.line.queue = s.line.queue ++ [entry]))))

/-! ### The peripheral line -/

/-- R172, R167, R170, R168: at the end of the break, as a probe falls due and as a retry time passes, the IDLE line
begins a slot: a JOIN to the lowest-numbered ABSENT station whose probe is due, with its turn bit and a reply window
of 25 ms; and, where no probe is due, the repeat of the outstanding request of the one eligible station. The clock moves on to
the time that passes (log 1, log 2); the window is counted from the start of the exchange (log 17). -/
def Obligations.SlotsBeginWhenDue : Prop :=
  ∀ (s : State) (st : StationId), s.line.restartDue = false →
    let joins (t : State) (at' : Nat) : Prop :=
      t.line.phase = .exchange
        { station := st, request := { kind := .join, payload := [], relayNo := none }
          turn := s.line.stations[st].turn
          wire := buildFrame 0x81#8 (st.val + 1) s.line.stations[st].turn false [], windowEnd := max s.now at' + 25 } ∧
      t.line.nextSlot = .command
    let first (at' : Nat) : Prop :=
      s.line.stations[st].active = false ∧ (∃ p, s.line.stations[st].probeAt = some p ∧ p ≤ max s.now at') ∧
      ∀ j : StationId, j < st → s.line.stations[j].active = true ∨
        ∀ p, s.line.stations[j].probeAt = some p → max s.now at' < p
    (∀ ends, s.line.phase = .lineBreak ends → s.line.nextSlot = .poll → first ends →
      ∃ t : State, exec .lineBreakEnd s = .next t ∧ joins t ends ∧
        LinksOnly { s.advanceTo ends with line := { s.line with phase := .idle } } t) ∧
    (∀ due, s.line.phase = .idle → s.line.stations[st].probeAt = some due → first due →
      (s.line.nextSlot = .poll ∨ (s.line.queue = [] ∧ ∀ j : StationId, s.line.stations[j].active = false)) →
      ∃ t : State, exec (.probeDue st) s = .next t ∧ joins t due ∧ LinksOnly (s.advanceTo due) t) ∧
    ∀ (due : Nat) (q : LineRequest), s.line.phase = .idle → s.line.stations[st].active = true →
      s.line.stations[st].retryAt = some due → s.line.stations[st].outstanding = some q →
      (∀ j : StationId, j ≠ st → s.line.stations[j].active = false ∧
        ∀ p, s.line.stations[j].probeAt = some p → max s.now due < p) →
      ∃ t : State, exec (.retryAt st) s = .next t ∧ LinksOnly (s.advanceTo due) t ∧ t.line.lastPolled = st ∧
        t.line.phase = .exchange
          { station := st, request := q, turn := s.line.stations[st].turn
            wire := buildFrame q.kind.code (st.val + 1) s.line.stations[st].turn false q.payload
            windowEnd := max s.now due + 25 }

/-- R168, R164, R165: a REPLY frame from the station asked, with its turn bit, is usable: to a JOIN with two bytes, from
stations 5 to 7 with any payload, from stations 1 to 4 with the items that stand; a WAIT is usable with an empty payload
alone. A reply of another station, direction or turn bit, too long, cut short or with a wrong CRC is a miss; one of any
other kind is a miss that flags KIND_UNKNOWN whatever else it holds (log 15). The items of R165: each item's bytes are
read as the item; a code or a field outside the table stops the walk; an item that runs past the end makes the whole
reply of bad length (log 16). -/
def Obligations.ReplyFrameJudged : Prop :=
  (∀ (x : Exchange) (payload : List Byte), payload.length ≤ 120 →
    let frame : List Byte := buildFrame 0x90#8 (x.station.val + 1) x.turn true payload
    (4 ≤ x.station.val → x.request.kind ≠ .join → judgeReply x frame = .reply payload [] false) ∧
    (x.station.val < 4 → x.request.kind ≠ .join → judgeReply x frame = match readItems payload with
      | none => .miss false
      | some p => .reply payload p.1 p.2) ∧
    (x.request.kind = .join →
      judgeReply x frame = if payload.length = 2 then .reply payload [] false else .miss false) ∧
    judgeReply x (buildFrame 0x91#8 (x.station.val + 1) x.turn true payload) =
      (if payload = [] then .wait else .miss false)) ∧
  (∀ (x : Exchange) (h g : Header) (rest : List Byte),
    let judged : ReplyJudgement := judgeReply x (0x5A#8 :: h.h0 :: h.h1 :: h.h2 :: h.check :: rest)
    (judgeHeader h = .uncorrectable → judged = .miss false) ∧
    ((judgeHeader h = .clean g ∨ judgeHeader h = .corrected g) →
      (g.h0 ≠ 0x90#8 → g.h0 ≠ 0x91#8 → judged = .miss true) ∧
      ((g.h0 = 0x90#8 ∨ g.h0 = 0x91#8) →
        (g.station ≠ x.station.val + 1 ∨ g.direction = false ∨ 64 ≤ g.h1.toNat ∨ g.turn ≠ x.turn ∨
          120 < g.h2.toNat ∨ (0 < g.h2.toNat ∧ rest.length < g.h2.toNat + 2) ∨
          (0 < g.h2.toNat ∧ rest.length = g.h2.toNat + 2 ∧
            rest.drop g.h2.toNat ≠ twoBytes (crc (rest.take g.h2.toNat)).toNat)) →
        judged = .miss false))) ∧
  (let reads (bytes : List Byte) (i : Item) : Prop :=
      (∃ (c : CoinId) (place : Byte) (dest : CoinDest), bytes = [1#8, BitVec.ofNat 8 c.val, place] ∧
        ((∃ n : Fin 64, place.toNat = n.val ∧ dest = .tube n) ∨ (place = 0x40#8 ∧ dest = .cashbox) ∨
          (place = 0x41#8 ∧ dest = .rejected)) ∧ i = .coinSeen c dest) ∨
      (∃ (n : Fin 64) (k : Byte), bytes = [2#8, BitVec.ofNat 8 n.val, k] ∧ i = .paid n k.toNat) ∨
      (∃ (n : Fin 64) (k : Byte) (sense : Sense), bytes = [3#8, BitVec.ofNat 8 n.val, k] ∧
        ((k = 0#8 ∧ sense = .empty) ∨ (k = 1#8 ∧ sense = .normal) ∨ (k = 2#8 ∧ sense = .full)) ∧
        i = .tubeSense n sense) ∨
      (∃ (b : BillId) (k : Byte) (event : BillEvent), bytes = [4#8, BitVec.ofNat 8 b.val, k] ∧
        ((k = 0#8 ∧ event = .escrowed) ∨ (k = 1#8 ∧ event = .stacked) ∨ (k = 2#8 ∧ event = .returned) ∨
          (k = 3#8 ∧ event = .rejected)) ∧ i = .billSeen b event) ∨
      (∃ hi lo : Byte, bytes = [5#8, hi, lo] ∧
        i = .cardOn (if hi = 0xFF#8 ∧ lo = 0xFF#8 then none else some (256 * hi.toNat + lo.toNat))) ∨
      (bytes = [6#8] ∧ i = .cardOff) ∨
      (∃ hi lo yes : Byte, bytes = [7#8, hi, lo, yes] ∧ yes.toNat < 2 ∧
        i = .chargeAnswer (256 * hi.toNat + lo.toNat) (decide (yes = 1#8))) ∨
      (∃ k : Byte, bytes = [8#8, k] ∧ i = .key k.toNat) ∨
      (bytes = [9#8] ∧ i = .lever) ∨
      (∃ k : Byte, bytes = [10#8, k] ∧ i = .fault k)
   let sizes : List Nat := [0, 3, 3, 3, 3, 3, 1, 4, 2, 1, 2]
   readItems [] = some ([], false) ∧
   (∀ (bytes rest : List Byte) (i : Item), reads bytes i →
     readItems (bytes ++ rest) = (readItems rest).map fun p => (i :: p.1, p.2)) ∧
   (∀ (code : Byte) (rest : List Byte), (code = 0#8 ∨ 10 < code.toNat) → readItems (code :: rest) = some ([], true)) ∧
   (∀ (code : Byte) (fields rest : List Byte), sizes[code.toNat]? = some (fields.length + 1) →
     (∀ i, ¬ reads (code :: fields) i) → readItems (code :: (fields ++ rest)) = some ([], true)) ∧
   ∀ (code : Byte) (fields : List Byte) (size : Nat), sizes[code.toNat]? = some size → fields.length + 1 < size →
     readItems (code :: fields) = none)

/-- R167, R169, R170, R171: the end of an exchange. A usable REPLY inverts the station's turn bit and clears misses,
WAIT and the outstanding request; a usable WAIT keeps the request and sets retry at 50 ms on; a good REPLY to a JOIN
makes the station ACTIVE with its role and level, its turn bit 0 (log 14, log 43); a miss keeps the request and counts,
and the third takes the station out of ACTIVE, with no request outstanding, its entries removed and its probe 2 s on;
with it goes the card record (station 3, R34) or a bill in HELD or RETURNING (station 2, R20), no payout, stacking or
CASHLESS sale being under way; an unanswered JOIN probes again 2 s on. Where a request is outstanding afterwards that was
not, the next exchange has begun with it. A gap flags KIND_UNKNOWN where the bytes before it, judged as the reply they
begin, name another kind (log 15); else nothing. The expiries move the clock on to the window's end (log 1, log 2, log 17). -/
def Obligations.ExchangeEnds : Prop :=
  ∀ (s : State) (x : Exchange), s.line.phase = .exchange x → s.line.restartDue = false →
    let r := s.line.stations[x.station]
    let ended (u : State) (r' : Station) : State :=
      { u with line := { s.line with phase := .idle, stations := s.line.stations.set x.station r' } }
    let cleared (t : State) : Prop :=
      (t.line.stations[x.station]).outstanding = none ∨
        ∃ y : Exchange, t.line.phase = .exchange y ∧ y.station = x.station ∧
          (t.line.stations[x.station]).outstanding = some y.request
    let kept (t : State) : Prop :=
      ∀ q, r.outstanding = some q → (t.line.stations[x.station]).outstanding = some q
    (∀ bytes payload unknown, judgeReply x bytes = .reply payload [] unknown → x.request.kind ≠ .join →
      ∃ t : State, exec (.replyReceived bytes) s = .next t ∧
        LinksOnly { ended s { r with turn := !r.turn, misses := 0, waitSince := none, retryAt := none
                                     outstanding := none } with
          port := { s.port with conditions :=
            if unknown then s.port.conditions.flag .kindUnknown else s.port.conditions } } t ∧ cleared t) ∧
    (∀ bytes, judgeReply x bytes = .wait → x.request.kind ≠ .join → s.now < r.waitSince.getD s.now + 5000 →
      ∃ t : State, exec (.replyReceived bytes) s = .next t ∧
        LinksOnly (ended s { r with misses := 0, waitSince := some (r.waitSince.getD s.now)
                                    retryAt := some (s.now + 50) }) t ∧ kept t) ∧
    (∀ bytes role level, judgeReply x bytes = .reply [role, level] [] false → x.request.kind = .join →
      level ≠ 0#8 → (4 ≤ x.station.val ∨ role.toNat = x.station.val + 1) →
      ∃ t : State, exec (.replyReceived bytes) s = .next t ∧
        LinksOnly (ended s { r with active := true, role := some role, level := some level, turn := false, misses := 0
                                    outstanding := none, waitSince := none, retryAt := none, probeAt := none
                                    lastWrongRole := none }) t ∧ cleared t) ∧
    ∀ (c : Instr) (flag : Bool), ((c = .replyWindowExpiry ∧ flag = false) ∨
        ∃ bytes : List Byte, c = .replyGap bytes ∧ (flag = true ↔ judgeReply x bytes = .miss true)) →
      let u : State := { s.advanceTo x.windowEnd with
        port := { s.port with conditions := if flag then s.port.conditions.flag .kindUnknown else s.port.conditions } }
      (x.request.kind ≠ .join → r.misses + 1 < 3 → ∃ t : State, exec c s = .next t ∧
        LinksOnly (ended u { r with misses := r.misses + 1 }) t ∧ kept t) ∧
      (x.request.kind ≠ .join → 3 ≤ r.misses + 1 → s.payout.phase = .idle →
        (∀ b v limit, s.cash.escrow ≠ .stackWait b v limit ∧ s.cash.escrow ≠ .stacking b v limit) →
        (∀ sale, s.sale.current = some sale → sale.source = .cash) → ∃ t : State, exec c s = .next t ∧
        LinksOnly { u with
          cash := { s.cash with escrow := if x.station = validator then .empty else s.cash.escrow }
          card := if x.station = reader then .absent else s.card
          line := { s.line with
            phase := .idle
            stations := (s.line.stations.set x.station
              { r with active := false, misses := 0, outstanding := none, waitSince := none, retryAt := none
                       probeAt := some (u.now + 2000) })
            queue := (s.line.queue.filter fun e => !decide (e.station = x.station)) } } t ∧
        (t.line.stations[x.station]).outstanding = none ∧ ∀ e ∈ t.line.queue, e.station ≠ x.station) ∧
      (x.request.kind = .join → ∃ t : State, exec c s = .next t ∧
        LinksOnly (ended u { r with probeAt := some (u.now + 2000) }) t ∧ kept t)

/-- R7, R5, R24, R192: a coin the mechanism reports in a tube of its type, outside tube fill, raises the tube's count
(or, at capacity, makes its trust ESTIMATED), the routing is R5's on the new counts, the value is deposited, and a
COIN_IN carries the coin. R14, R16, R17, R97: an ESCROWED bill is HELD where the three tests pass, asked back where one
fails, and ignored with a STATION report where escrow is not EMPTY; a STACKED bill's amount is deposited, with its
BILL_IN, escrow EMPTY and unsent bill frames removed, and a sale whose stacking it was takes its hold (here: to wait for
the host); a RETURNED bill leaves escrow EMPTY, and a sale whose stacking it was ends BILL_FAIL; REJECTED changes
nothing. R33, R34, R103: CARD_ON opens the card record with its funds, at most 9999; CARD_OFF closes it, and ends a
sale in READER_APPROVAL CARD_LOST. Each item comes in a usable REPLY (R169). -/
def Obligations.CoinBillCardItemsTaken : Prop :=
  ∀ (s : State) (x : Exchange) (bytes payload : List Byte), s.line.phase = .exchange x → s.line.restartDue = false →
    x.request.kind ≠ .join →
    let r := s.line.stations[x.station]
    let ended : State :=
      { s with line := { s.line with phase := .idle, stations := (s.line.stations.set x.station
          { r with turn := !r.turn, misses := 0, waitSince := none, retryAt := none, outstanding := none }) } }
    let brings (i : Item) : Prop := judgeReply x bytes = .reply payload [i] false
    let escrowed (u : State) (e : Escrow) : State := { u with cash := { u.cash with escrow := e } }
    let deposits (v : Nat) : Prop :=
      s.ledger.credit + v ≤ 9999 ∧ s.ledger.pending ≤ 65535 ∧ (s.payout.phase = .idle → s.ledger.pending = 0)
    let deposited (v : Nat) : Ledger :=
      { s.ledger with credit := s.ledger.credit + v, cashIn := s.ledger.cashIn + BitVec.ofNat 32 v }
    let noBillFrame (q : List QueueEntry) : Prop :=
      ∀ e ∈ q, ¬ (e.station = validator ∧ (e.request.kind = .keepBill ∨ e.request.kind = .giveBack))
    let billLine : Line := (ended.removeFrames validator [.keepBill, .giveBack]).line
    (∀ (c : CoinId) (dest : Fin 64) (n : TubeId), x.station = coinMech → dest.val = n.val →
      brings (.coinSeen c (.tube dest)) → s.cash.tubes[n].coinType = some c → 0 < s.cash.coins[c].value →
      ¬ (s.mode.effective = .service ∧ s.mode.fill = true) → deposits s.cash.coins[c].value →
      s.port.reports.length < 20 →
      let tube := s.cash.tubes[n]
      let tubes := s.cash.tubes.set n
        (if tube.count < tube.capacity then { tube with count := tube.count + 1 } else { tube with trust := .estimated })
      ∃ (t : State) (p : Port), exec (.replyReceived bytes) s = .next t ∧
        LinksOnly { ended with
          cash := { s.cash with tubes := tubes, routing := routesFor tubes }
          ledger := deposited s.cash.coins[c].value
          port := p } t ∧
        ∃ counts d, .report (.coinIn false counts) ∈ t.outLine ∧ d ∈ counts ∧ d.coin = c ∧ d.dest = .tube n ∧
          1 ≤ d.count) ∧
    (∀ b : BillId, x.station = validator →
      let v := s.cash.bills[b].value
      let amount : Nat := match s.cash.escrow with
        | .held c w => if c = b then w else v
        | .stackWait c w _ => if c = b then w else v
        | .stacking c w _ => if c = b then w else v
        | _ => v
      (brings (.billSeen b .escrowed) →
        (s.cash.escrow = .empty → s.mode.effective = .vend → v ≠ 0 → s.ledger.credit + v ≤ s.settings.creditMax →
          ∃ t : State, exec (.replyReceived bytes) s = .next t ∧ LinksOnly (escrowed ended (.held b v)) t) ∧
        (s.cash.escrow = .empty → r.active = true →
          (s.mode.effective ≠ .vend ∨ v = 0 ∨ s.settings.creditMax < s.ledger.credit + v) →
          ∃ t : State, exec (.replyReceived bytes) s = .next t ∧
            LinksOnly { escrowed ended (.returning b v) with line := (ended.hand validator (.plain .giveBack)).line }
              t) ∧
        (s.cash.escrow ≠ .empty → s.port.reports.length < 19 →
          ∃ t : State, exec (.replyReceived bytes) s = .next t ∧ LinksOnly ended t ∧
            ∃ q : StationReport, .report (.station q) ∈ t.outLine ∧ q.station = validator ∧ q.cause = .secondBill)) ∧
      (brings (.billSeen b .stacked) → deposits amount → s.port.reports.length < 19 →
        ((∀ c w limit, s.cash.escrow ≠ .stackWait c w limit ∧ s.cash.escrow ≠ .stacking c w limit) →
          ∃ (t : State) (p : Port), exec (.replyReceived bytes) s = .next t ∧
            LinksOnly { escrowed ended .empty with ledger := deposited amount, line := billLine, port := p } t ∧
            noBillFrame t.line.queue ∧
            .report (.billIn [{ bill := b, state := .stacked, count := 1, amount := amount }]) ∈ t.outLine) ∧
        ∀ (c : BillId) (w limit : Nat) (y : Sale), s.cash.escrow = .stacking c w limit →
          s.sale.current = some y → y.stage = .stacking → y.approval = .host → s.ledger.hold = 0 →
          y.price ≤ s.ledger.credit + amount → s.load.requests = [] →
          ∃ (t : State) (p : Port), exec (.replyReceived bytes) s = .next t ∧
            LinksOnly { escrowed ended .empty with
              ledger := { deposited amount with credit := s.ledger.credit + amount - y.price, hold := y.price }
              load := { s.load with grants := (s.load.grants.filter fun g => !decide (g.holder = .stacking)) }
              sale := { s.sale with current := some { y with stage := .hostApproval, billStacked := true
                                                             approvalLimit := some (s.now + 10000) } }
              line := billLine
              port := p } t ∧
            noBillFrame t.line.queue ∧
            .report (.billIn [{ bill := b, state := .stacked, count := 1, amount := amount }]) ∈ t.outLine) ∧
      (brings (.billSeen b .returned) →
        ((∀ c w limit, s.cash.escrow ≠ .stackWait c w limit ∧ s.cash.escrow ≠ .stacking c w limit) →
          ∃ t : State, exec (.replyReceived bytes) s = .next t ∧
            LinksOnly { escrowed ended .empty with line := billLine } t ∧ noBillFrame t.line.queue) ∧
        ∀ (c : BillId) (w limit : Nat) (y : Sale), s.cash.escrow = .stacking c w limit →
          s.sale.current = some y → y.stage = .stacking → y.source = .cash → SettlesAlone s → s.load.requests = [] →
          s.port.reports.length < 19 →
          ∃ (t : State) (p : Port), exec (.replyReceived bytes) s = .next t ∧
            LinksOnly { escrowed ended .empty with
              ledger := heldBack s.ledger
              load := { s.load with grants := (s.load.grants.filter fun g => !decide (g.holder = .stacking)) }
              sale := { s.sale with current := none }
              line := billLine
              port := p } t ∧
            noBillFrame t.line.queue ∧
            ∃ q : SaleReport, .report (.sale q) ∈ t.outLine ∧ q.number = y.number ∧ q.outcome = .billFail) ∧
      (brings (.billSeen b .rejected) →
        ∃ t : State, exec (.replyReceived bytes) s = .next t ∧ LinksOnly ended t)) ∧
    (x.station = reader →
      (∀ funds : Option Nat, brings (.cardOn funds) → ∃ t : State, exec (.replyReceived bytes) s = .next t ∧
        LinksOnly { ended with card := .present (funds.map fun f => min f 9999) } t) ∧
      (brings .cardOff →
        ((∀ y, s.sale.current = some y → y.source = .cash) →
          ∃ t : State, exec (.replyReceived bytes) s = .next t ∧ LinksOnly { ended with card := .absent } t) ∧
        ∀ y : Sale, s.card ≠ .absent → s.sale.current = some y → y.source = .cashless → y.stage = .readerApproval →
          y.told = .asked → s.sale.pendingReturn = false → s.port.reports.length < 19 →
          ∃ (t : State) (p : Port), exec (.replyReceived bytes) s = .next t ∧
            LinksOnly { ended with
              card := .absent
              line := ((ended.removeFrames reader [.chargeAsk]).hand reader (.with .chargeEnd [0#8])).line
              sale := { s.sale with current := none }
              port := p } t ∧
            (∀ e ∈ t.line.queue, ¬ (e.station = reader ∧ e.request.kind = .chargeAsk)) ∧
            ∃ q : SaleReport, .report (.sale q) ∈ t.outLine ∧ q.number = y.number ∧ q.outcome = .cardLost))

/-- R46, R12, R28, R51, R52, R169: the full PAID of the last command of a change operation books the coins as paid,
takes them out of the tube, releases the load unit and ends the operation: PAYOUT_DONE (END) carries the totals and
the unit is IDLE. -/
def Obligations.LastPaidEndsPayout : Prop :=
  ∀ (s : State) (x : Exchange) (bytes payload : List Byte) (cmd : PayCmd) (tube : Fin 64),
    s.line.phase = .exchange x → s.line.restartDue = false → x.station = coinMech → x.request.kind ≠ .join →
    judgeReply x bytes = .reply payload [.paid tube cmd.coins] false → tube.val = cmd.tube.val →
    s.payout.phase = .paying → s.payout.inFlight = some cmd → s.payout.payJoined = true → s.payout.manual = false →
    s.payout.remaining = [] → (∀ e ∈ s.line.queue, e.station = coinMech → e.request.kind ≠ .pay) →
    s.ledger.pending = cmd.coins * cmd.value → s.load.requests = [] → s.sale.pendingReturn = false →
    s.port.reports.length < 20 →
    let old := s.cash.tubes[cmd.tube]
    let tubes := s.cash.tubes.set cmd.tube
      (if old.count < cmd.coins then { old with count := 0, trust := .estimated }
       else { old with count := old.count - cmd.coins })
    let r := s.line.stations[x.station]
    ∃ (t : State) (p : Port), exec (.replyReceived bytes) s = .next t ∧
      LinksOnly { s with
        cash := { s.cash with tubes := tubes, routing := routesFor tubes }
        ledger := { s.ledger with pending := 0
                                  changePaid := s.ledger.changePaid + BitVec.ofNat 32 (cmd.coins * cmd.value) }
        payout := Payout.powerOn
        load := { s.load with grants := (s.load.grants.filter fun g => !decide (g.holder = .payout)) }
        line := { s.line with phase := .idle, stations := (s.line.stations.set x.station
          { r with turn := !r.turn, misses := 0, waitSince := none, retryAt := none, outstanding := none }) }
        port := p } t ∧
      .report (.payoutDone
        { occasion := .ending, manual := false, paid := s.payout.paid + cmd.coins * cmd.value, owed := s.payout.owed
          entries := (s.payout.entries.map fun e =>
            if e.tube = cmd.tube then { e with paid := e.paid + cmd.coins, ending := some .full } else e) }) ∈ t.outLine

/-- R18, R97, R108 and R49, R12, R50, R51: the stacking limit in STACKING releases the unit, empties the escrow with a
BILL_IN UNCERTAIN and ends the sale BILL_FAIL with no ledger operation but the hold's return; the PAY limit removes
the unsent PAY (a request outstanding at station 1 stays), doubts the tube's count, releases the unit, owes the whole
pending payout and ends the operation. The clock moves on to the expiry (log 1, log 2). -/
def Obligations.StackingAndPayLimits : Prop :=
  (∀ (s : State) (x : Sale) (b : BillId) (v limit : Nat), s.cash.escrow = .stacking b v limit →
    s.sale.current = some x → x.stage = .stacking → x.source = .cash → SettlesAlone s → s.load.requests = [] →
    s.port.reports.length < 20 →
    ∃ (t : State) (p : Port), exec .stackingLimitExpiry s = .next t ∧
      LinksOnly { s.advanceTo limit with
        cash := { s.cash with escrow := .empty }
        ledger := heldBack s.ledger
        load := { s.load with grants := (s.load.grants.filter fun g => !decide (g.holder = .stacking)) }
        sale := { s.sale with current := none }
        port := p } t ∧
      .report (.billIn [{ bill := b, state := .uncertain, count := 1, amount := v }]) ∈ t.outLine ∧
      ∃ r : SaleReport, .report (.sale r) ∈ t.outLine ∧ r.number = x.number ∧ r.outcome = .billFail) ∧
  ∀ (s : State) (cmd : PayCmd) (limit : Nat), s.payout.limit = some limit → s.payout.inFlight = some cmd →
    s.payout.manual = false → s.load.requests = [] → s.sale.pendingReturn = false → s.port.reports.length < 20 →
    let tubes := s.cash.tubes.set cmd.tube { s.cash.tubes[cmd.tube] with trust := .estimated }
    ∃ (t : State) (p : Port), exec .payLimitExpiry s = .next t ∧
      LinksOnly { s.advanceTo limit with
        cash := { s.cash with tubes := tubes, routing := routesFor tubes }
        ledger := { s.ledger with pending := 0
                                  changeOwed := s.ledger.changeOwed + BitVec.ofNat 32 s.ledger.pending }
        payout := Payout.powerOn
        load := { s.load with grants := (s.load.grants.filter fun g => !decide (g.holder = .payout)) }
        line := { s.line with queue :=
          (s.line.queue.filter fun e => !(decide (e.station = coinMech) && decide (e.request.kind = .pay))) }
        port := p } t ∧
      (∀ e ∈ t.line.queue, ¬ (e.station = coinMech ∧ e.request.kind = .pay)) ∧
      (∀ q, (s.line.stations[coinMech]).outstanding = some q → (t.line.stations[coinMech]).outstanding = some q) ∧
      ∃ r : PayoutDone, .report (.payoutDone r) ∈ t.outLine ∧ r.occasion = .ending ∧
        r.owed = s.payout.owed + s.ledger.pending ∧ r.paid = s.payout.paid

/-! ### The spiral drive -/

/-- R75 to R78, R80, R74: the events that leave an attempt running. The home switch's opening ends LEAVING_HOME and
starts the turn limit (and the jam run above 900 mA); its closing in TURNING stops the motor and opens the drop
window; a rise above 900 mA in TURNING starts the jam run and a fall stops it; an open check that reads 40 mA or more
passes; a drop window that ends with turns left begins the next turn, its first phase, and a jam run with it, by the pins
as they read. An expiry moves the clock on (log 1, log 2); the pins are read and set as log 32 says. -/
def Obligations.TurnEventsTaken : Prop :=
  ∀ (s : State) (a : Attempt), s.drive.attempt = some a →
    let now (u : State) (b : Attempt) (pins : Pins) : State :=
      { u with drive := { s.drive with attempt := some b }, pins := pins }
    let sensed (mA : Nat) : Nat := if a.motor then mA else s.pins.motorCurrent
    (∀ mA : Nat, a.phase = .leavingHome → ∃ t : State, exec (.homeSwitchOpens mA) s = .next t ∧
      LinksOnly (now s { a with phase := .turning, leaveHome := none, turnLimit := some (s.now + 5000)
                                jamRun := if 900 < mA then some (s.now + 150) else none }
        { s.pins with homeClosed := s.pins.homeClosed.set a.column false, motorCurrent := sensed mA }) t) ∧
    (a.phase = .turning → a.dropSeen = false → a.judging = true →
      ∃ t : State, exec .homeSwitchCloses s = .next t ∧
      LinksOnly (now s { a with motor := false, turnsDone := a.turnsDone + 1, phase := .dropWait, openCheck := none
                                leaveHome := none, turnLimit := none, jamRun := none
                                dropWindow := some (s.now + 1200) }
        { s.pins with homeClosed := s.pins.homeClosed.set a.column true, motorCurrent := 0 }) t) ∧
    (∀ mA : Nat, a.phase = .turning → ∃ t : State, exec (.motorCurrentChange mA) s = .next t ∧
      LinksOnly (now s { a with jamRun := if mA ≤ 900 then none else some (a.jamRun.getD (s.now + 150)) }
        { s.pins with motorCurrent := sensed mA }) t) ∧
    (∀ mA due : Nat, a.openCheck = some due → 40 ≤ mA → ∃ t : State, exec (.openCheckExpiry mA) s = .next t ∧
      LinksOnly (now (s.advanceTo due) { a with openCheck := none } { s.pins with motorCurrent := mA }) t) ∧
    ∀ due : Nat, a.dropWindow = some due → a.turnsDone < a.turnsAllowed →
      let at' := max s.now due
      ∃ t : State, exec .dropWindowExpiry s = .next t ∧
        LinksOnly (now (s.advanceTo due)
          (if s.pins.homeClosed[a.column] then
             { a with motor := true, phase := .leavingHome, openCheck := some (at' + 200)
                      leaveHome := some (at' + 600), dropWindow := none }
           else
             { a with motor := true, phase := .turning, openCheck := some (at' + 200), leaveHome := none
                      turnLimit := some (at' + 5000), dropWindow := none
                      jamRun := if 900 < s.pins.motorCurrent then some (at' + 150) else none })
          s.pins) t

/-- R75 to R81, R87, R88, R107, R108: the expiries that end an attempt without a drop. The result is NO_START or
OPEN_MOTOR at the leave-home limit, JAM at the turn limit and the jam run, OPEN_MOTOR at a failed open check, NO_DROP
at the end of the last drop window. A TEST attempt leaves its column as it is, gives its grant back and reports; a
CASH sale's attempt takes its column out of service and, with no try left, settles the sale FAILED with the hold back
in credit. An expiry moves the clock on (log 1, log 2); with no motor on the current reads 0 (log 32). -/
def Obligations.AttemptEndsWithoutDrop : Prop :=
  ∀ (s : State) (a : Attempt) (c : Instr) (due : Nat) (result : DriveResult) (mA : Nat),
    s.drive.attempt = some a → a.dropSeen = false → s.load.requests = [] → s.port.reports.length < 20 →
    ((c = .leaveHomeLimitExpiry mA ∧ a.leaveHome = some due ∧
        result = (if mA < 40 then .openMotor else .noStart)) ∨
      (c = .turnLimitExpiry ∧ a.turnLimit = some due ∧ result = .jam) ∨
      (c = .jamRunExpiry ∧ a.jamRun = some due ∧ result = .jam) ∨
      (c = .openCheckExpiry mA ∧ a.openCheck = some due ∧ mA < 40 ∧ result = .openMotor) ∨
      (c = .dropWindowExpiry ∧ a.dropWindow = some due ∧ a.turnsAllowed ≤ a.turnsDone ∧
        result = (if a.requester = .sale then .noDrop else .turned))) →
    let u := s.advanceTo due
    let column := s.map.columns[a.column]
    let stopped (who : Requester) (m : SelMap) : State :=
      { u with
        drive := { s.drive with attempt := none }
        pins := { s.pins with motorCurrent := 0 }
        load := { s.load with grants := (s.load.grants.filter fun g => !decide (g.holder = who)) }
        map := m }
    (a.requester = .test → result ≠ .turned → ∃ t : State, ∃ p : Port, exec c s = .next t ∧
      LinksOnly { stopped .testDrive { s.map with pMin := s.map.lowest } with port := p } t ∧
      .report (.testResult
        { column := a.column
          outcome := (match result with
            | .jam => .jam
            | .noStart => .noStart
            | .openMotor => .openMotor
            | _ => .turned)
          drop := if a.judging then .notSeen else .notJudged
          before := a.before, after := column.state }) ∈ t.outLine) ∧
    (∀ x : Sale, a.requester = .sale → s.sale.current = some x → x.source = .cash →
      x.triesAllowed ≤ x.tried.length + 1 → SettlesAlone s →
      ∃ (t : State) (p : Port), exec c s = .next t ∧
        (let after : Column := { column with state := (match result with
            | .noDrop => .empty
            | .jam => .jammed
            | .noStart => .jammed
            | .openMotor => .fault
            | _ => column.state) }
         let left : State :=
           stopped .spiral { s.map with columns := (s.map.columns.set a.column after), pMin := t.map.lowest }
         LinksOnly { left with
           ledger := heldBack s.ledger
           sale := { s.sale with current := none }
           port := p } t) ∧
        ∃ r : SaleReport, .report (.sale r) ∈ t.outLine ∧ r.number = x.number ∧ r.outcome = .failed ∧
          r.tries = x.tried ++ [{ column := a.column, result := .drive result, turns := a.turnsDone
                                  stopMark := false }])

/-- R83, R84, R80, R81, R107, R108: a drop counted in the drop window of a CASH sale's attempt sells the product: the
column's count falls by 1 (EMPTY at 0), the grant is released, the hold is settled, the SALE report says VENDED, and
the sale unit is IDLE. (Multi-vend on, or no credit left: with credit left and multi-vend off R27 then applies. Where
multi-vend was written during the sale, a free value says which setting saleMultiVend reads: log 45. With no motor on the current reads 0: log 32.) -/
def Obligations.DropSellsProduct : Prop :=
  ∀ (s : State) (a : Attempt) (x : Sale), s.drive.sensor = .clear → s.drive.attempt = some a →
    a.phase = .dropWait → a.requester = .sale → s.sale.current = some x → x.source = .cash →
    (saleMultiVend x s = true ∨ (s.ledger.credit = 0 ∧ s.ledger.pending ≤ 65535 ∧
      (s.payout.phase = .idle → s.ledger.pending = 0))) →
    (s.map.selections[x.selection]).search = .first → s.load.requests = [] → s.sale.pendingReturn = false →
    s.port.reports.length < 20 →
    let column := s.map.columns[a.column]
    let after : Column := match column.count with
      | none => column
      | some n => if n ≤ 1 then { column with count := some 0, state := .empty } else { column with count := some (n - 1) }
    ∃ (t : State) (p : Port), exec .beamBroken s = .next t ∧
      LinksOnly { s with
        pins := { s.pins with beamBroken := true, motorCurrent := 0 }
        drive := { s.drive with attempt := none, blockTimer := some (s.now + 2000) }
        load := { s.load with grants := (s.load.grants.filter fun g => !decide (g.holder = .spiral)) }
        map := { s.map with columns := (s.map.columns.set a.column after), pMin := t.map.lowest }
        ledger := { s.ledger with settled := s.ledger.settled + BitVec.ofNat 32 s.ledger.hold, hold := 0 }
        sale := { s.sale with current := none }
        port := p } t ∧
      ∃ r : SaleReport, .report (.sale r) ∈ t.outLine ∧ r.number = x.number ∧ r.outcome = .vended ∧
        r.tries = x.tried ++ [{ column := a.column, result := .drive .vended, turns := a.turnsDone, stopMark := false }]

/-- R83, R86: the drop sensor's states and timers, and the limit of a waiting test request. An expiry moves the clock on
(log 1, log 2). -/
def Obligations.DropSensorAndTestLimit : Prop :=
  ∀ s : State,
    let sensor (u : State) (broken : Bool) (d : Drive) : State :=
      { u with pins := { s.pins with beamBroken := broken }, drive := d }
    (s.drive.sensor ≠ .clear → ∃ t : State, exec .beamBroken s = .next t ∧
      LinksOnly (sensor s true { s.drive with clearTimer := none }) t) ∧
    (s.drive.sensor ≠ .clear → ∃ t : State, exec .beamUnbroken s = .next t ∧
      LinksOnly (sensor s false { s.drive with clearTimer := some (s.now + 2000) }) t) ∧
    (s.drive.sensor = .clear → ∃ t : State, exec .beamUnbroken s = .next t ∧
      LinksOnly (sensor s false { s.drive with blockTimer := none }) t) ∧
    (∀ due, s.drive.clearTimer = some due → ∃ t : State, exec .clearTimerExpiry s = .next t ∧
      LinksOnly { s.advanceTo due with drive := { s.drive with sensor := .clear, clearTimer := none } } t) ∧
    (∀ due, s.drive.blockTimer = some due → ∃ t : State, exec .blockTimerExpiry s = .next t ∧
      LinksOnly { s.advanceTo due with drive := { s.drive with sensor := .blocked, blockTimer := none } } t) ∧
    ∀ r : TestRequest, s.drive.testRequest = some r → (∀ q ∈ s.load.requests, q.requester = .testDrive) →
      s.port.reports.length < 20 →
      ∃ (t : State) (p : Port), exec .testLoadLimitExpiry s = .next t ∧
        LinksOnly { s.advanceTo r.limit with
          drive := { s.drive with testRequest := none }
          load := { s.load with requests := [] }
          port := p } t ∧
        .report (.testResult { column := r.column, outcome := .noPower, drop := .notJudged
                               before := s.map.columns[r.column].state, after := s.map.columns[r.column].state })
          ∈ t.outLine

/-! ### Promotion, samples, cooling and health -/

/-- R123, R119, R139, R142: the expiry of a promotion timer sets the request's mark. Where the first of the ranked
requests then does not fit, nothing is granted; a lone compressor request that fits starts the compressor, and a lone
heater request that fits starts heating (the evaporator not yet warm). The clock moves on to the expiry (log 1,
log 2). -/
def Obligations.PromotionMakesPass : Prop :=
  ∀ (s : State) (load : CoolingLoad) (r : LoadRequest), r.requester = coolingRequester load → r.promoted = false →
    let u := s.advanceTo (r.time + 45000)
    (∀ before after : List LoadRequest, s.load.requests = before ++ r :: after →
      (∀ q ∈ before, q.requester ≠ r.requester) → (∀ q ∈ after, q.requester ≠ r.requester) →
      let marked : Load := { s.load with requests := before ++ { r with promoted := true } :: after }
      (∀ q, marked.ranked.head? = some q → s.load.free < q.counted) →
      ∃ t : State, exec (.promotionTimerExpiry load) s = .next t ∧ LinksOnly { u with load := marked } t) ∧
    (s.load.requests = [r] → r.counted ≤ s.load.free →
      let granted : Load :=
        { s.load with grants := s.load.grants ++ [{ holder := r.requester, units := r.counted }], requests := [] }
      (load = .compressor → s.cool.plant.phase = .startWait →
        ∃ t : State, exec (.promotionTimerExpiry load) s = .next t ∧
          LinksOnly { u with
            load := granted
            cool := { s.cool with plant := { s.cool.plant with
              phase := .starting, grantedAt := u.now, startWindow := some (u.now + 3000)
              minRun := some (u.now + 1000 * s.settings.minRun) } } } t) ∧
      (load = .heater → s.cool.plant.phase = .heatWait → s.termReached = false →
        ∃ t : State, exec (.promotionTimerExpiry load) s = .next t ∧
          LinksOnly { u with
            load := granted
            cool := { s.cool with plant := { s.cool.plant with
              phase := .heating, due := false, runMs := 0, heatedAt := u.now
              heaterTimer := some (u.now + 60000 * s.settings.heaterMax) } } } t))

/-- R128, R129, R132: what a sample makes of its channel. A fault sample counts; the third running puts the channel in
FAULT and takes its temperature and samples away. A valid sample joins the last four, and outside FAULT, or as the
third of a run in FAULT, makes the channel VALID with the mean of the samples, rounded with halves away from zero. -/
def Obligations.ChannelTakesSample : Prop :=
  ∀ (c : Channel) (table : List (Nat × Int)) (code : Nat),
    let t := c.sample table code
    t.offset = c.offset ∧ t.lastCode = some code ∧
    ((code ≤ 15 ∨ 1008 ≤ code) →
      t.faultKind = some (if code ≤ 15 then .short else .opened) ∧ t.validRun = 0 ∧
      (c.status = .fault → t.status = .fault ∧ t.samples = [] ∧ t.temperature = c.temperature) ∧
      (c.status ≠ .fault → c.faultRun < 2 → t.status = c.status ∧ t.faultRun = c.faultRun + 1 ∧
        t.samples = c.samples ∧ t.temperature = c.temperature ∧ t.limitMark = c.limitMark) ∧
      (c.status ≠ .fault → 2 ≤ c.faultRun → t.status = .fault ∧ t.samples = [] ∧ t.temperature = none ∧
        t.limitMark = false)) ∧
    (15 < code → code < 1008 → c.samples.length ≤ 4 →
      let made := convertCode table code
      t.limitMark = made.2 ∧ t.faultKind = c.faultKind ∧
      t.samples = (c.samples ++ [made.1 + c.offset]).drop (c.samples.length - 3) ∧ t.samples.length ≤ 4 ∧
      (c.status = .fault → c.validRun < 2 → t.status = .fault ∧ t.validRun = c.validRun + 1 ∧
        t.temperature = c.temperature) ∧
      ((c.status = .fault → 2 ≤ c.validRun) → t.status = .valid ∧ (c.status ≠ .fault → t.faultRun = 0) ∧
        ∃ mean : Int, t.temperature = some mean ∧
          2 * (mean * t.samples.length - t.samples.sum).natAbs ≤ t.samples.length ∧
          (2 * (mean * t.samples.length - t.samples.sum).natAbs = t.samples.length →
            t.samples.sum.natAbs < (mean * t.samples.length).natAbs)))

/-- R128, R134, R135, R150, R151, R153, R154: a SAMPLE at its time, in LOCKOUT with no sale in flight. The channel takes
it, the next follows 1 s after it, and the channel's zone judges its demand and its health by what the sample made: a
temperature, or FAULT; the map keeps the zone's new state. The evaporator's channel has no zone. The clock moves on to
the sample's time (log 1, log 2). -/
def Obligations.SampleTaken : Prop :=
  ∀ (s : State) (ch : ChannelId) (code : Fin 1024), s.cool.plant.phase = .lockout → s.sale.current = none →
    let u := s.advanceTo s.cool.nextSample[ch]
    let old := s.cool.channels[ch]
    let new := old.sample s.cool.calibration code.val
    let cool : Cooling :=
      { s.cool with channels := s.cool.channels.set ch new
                    nextSample := s.cool.nextSample.set ch (s.cool.nextSample[ch] + 1000) }
    (ch.val = 3 → ∃ t : State, exec (.sample ch code) s = .next t ∧ LinksOnly { u with cool := cool } t) ∧
    ∀ z : ZoneId, ch.val = z.val → s.map.zoneHealth[z] = (s.health[z]).state →
      ∃ (t : State) (zone : Zone) (health : Health), exec (.sample ch code) s = .next t ∧
        LinksOnly { u with
          cool := { cool with zones := s.cool.zones.set z zone }
          health := s.health.set z health
          map := { s.map with
            zoneHealth := s.map.zoneHealth.set z health.state
            pMin := if health.state = (s.health[z]).state then s.map.pMin else t.map.lowest } } t ∧
        zone = { s.cool.zones[z] with demand := zone.demand, duty := zone.duty } ∧
        (∀ temp, 15 < code.val → code.val < 1008 → new.status = .valid → new.temperature = some temp →
          zone.duty = none ∧
          zone.demand = (match s.cool.zones[z].mode with
            | .monitor => .satisfied
            | .chill =>
              if s.cool.zones[z].setpoint + s.cool.zones[z].differential ≤ temp then .demand
              else if temp ≤ s.cool.zones[z].setpoint then .satisfied else s.cool.zones[z].demand) ∧
          health = (match s.health[z] with
            | .proving => if temp ≤ s.cool.zones[z].healthLimit then .normal else .held .proveFailed
            | .normal => if temp ≤ s.cool.zones[z].healthLimit then .normal else .warning u.now
            | .warning start => if temp ≤ s.cool.zones[z].healthLimit then .normal else .warning start
            | .none => .none
            | .held cause => .held cause)) ∧
        (new.status = .fault → old.status ≠ .fault →
          (s.cool.zones[z].mode = .chill → zone.demand = .demand ∧ zone.duty = some (.demand, u.now + 600000)) ∧
          (s.cool.zones[z].mode = .monitor → zone = s.cool.zones[z]) ∧
          health = (match s.health[z] with
            | .proving => .held .sensor
            | .normal => .held .sensor
            | .warning _ => .held .sensor
            | .none => .none
            | .held cause => .held cause)) ∧
        ((code.val ≤ 15 ∨ 1008 ≤ code.val ∨ new.status ≠ .valid) → new.status = old.status →
          zone = s.cool.zones[z] ∧ health = s.health[z])

/-- R138, R139, R140, R141: the timers of the compressor. LOCKOUT ends in READY, or, with demand and a free supply, in
STARTING; the start window ends in RUNNING with the grant lowered to 3 units; at the end of min run the compressor
runs on with demand, and stops without, giving its grant back; the defrost interval sets defrost due, and stops a
compressor past its min run for the heater. The clock moves on to the expiry (log 1, log 2). -/
def Obligations.CompressorTimersTaken : Prop :=
  ∀ s : State, s.load.requests = [] →
    let demanded : Prop := ∃ z : ZoneId, s.cool.zones[z].mode = .chill ∧ s.cool.zones[z].demand = .demand
    let without (who : Requester) : List Grant := s.load.grants.filter fun g => !decide (g.holder = who)
    (s.cool.plant.phase = .lockout → s.cool.plant.due = false →
      let u := s.advanceTo (s.cool.plant.lastStop + 1000 * s.settings.minOff)
      (¬ demanded → ∃ t : State, exec .minOffPassed s = .next t ∧
        LinksOnly { u with cool := { u.cool with plant := { u.cool.plant with phase := .ready } } } t) ∧
      (demanded → (∀ g ∈ s.load.grants, g.holder ≠ .compressor) → min 7 s.load.budget ≤ s.load.free →
        ∃ t : State, exec .minOffPassed s = .next t ∧
          LinksOnly { u with
            load := { s.load with
              grants := s.load.grants ++ [{ holder := .compressor, units := min 7 s.load.budget }] }
            cool := { u.cool with plant := { u.cool.plant with
              phase := .starting, grantedAt := u.now, startWindow := some (u.now + 3000)
              minRun := some (u.now + 1000 * s.settings.minRun) } } } t)) ∧
    (∀ ends, s.cool.plant.startWindow = some ends → s.cool.plant.minRun ≠ none →
      let u := s.advanceTo ends
      ∃ t : State, exec .startWindowExpiry s = .next t ∧
        LinksOnly { u with
          load := { s.load with grants := (s.load.grants.map fun g =>
            if g.holder = .compressor then { g with units := min g.units 3 } else g) }
          cool := { u.cool with plant := { u.cool.plant with phase := .running, startWindow := none } } } t) ∧
    (∀ ends, s.cool.plant.minRun = some ends → s.cool.plant.phase = .running → s.cool.plant.due = false →
      let u := s.advanceTo ends
      (demanded → ∃ t : State, exec .minRunExpiry s = .next t ∧
        LinksOnly { u with cool := { u.cool with plant := { u.cool.plant with minRun := none } } } t) ∧
      (¬ demanded → ∃ t : State, exec .minRunExpiry s = .next t ∧
        LinksOnly { u with
          load := { s.load with grants := without .compressor }
          cool := { u.cool with plant := { u.cool.plant with
            minRun := none, phase := .lockout, lastStop := u.now } } } t)) ∧
    (s.cool.plant.phase = .starting ∨ s.cool.plant.phase = .running →
      let u := s.advanceTo (s.now + (3600000 * s.settings.defrostInterval - s.cool.plant.runMs))
      (s.cool.plant.phase = .starting ∨ s.cool.plant.minRun ≠ none →
        ∃ t : State, exec .defrostIntervalReached s = .next t ∧
          LinksOnly { u with cool := { u.cool with plant := { u.cool.plant with due := true } } } t) ∧
      (s.cool.plant.phase = .running → s.cool.plant.minRun = none →
        (∀ g ∈ s.load.grants, g.holder ≠ .heater) →
        4 + ((without .compressor).map Grant.units).sum ≤ s.load.budget → s.termReached = false →
        ∃ t : State, exec .defrostIntervalReached s = .next t ∧
          LinksOnly { u with
            load := { s.load with grants := without .compressor ++ [{ holder := .heater, units := 4 }] }
            cool := { u.cool with plant := { u.cool.plant with
              phase := .heating, due := false, runMs := 0, lastStop := u.now, heatedAt := u.now
              heaterTimer := some (u.now + 60000 * s.settings.heaterMax) } } } t))

/-- R142, R143, R135, R147, R152, R158: the heater timer ends heating in DRIP with the grant given back; DRIP ends in
READY where min off has passed, and in LOCKOUT elsewhere; a duty phase gives way to the other; a TEMPS report follows
every 60 s, with the run time in whole seconds, rounded down, and the time since the last stop in milliseconds (the
model's choices, log 18, log 35); an excursion that lasts its allowance holds the zone, and the map keeps that state. The
clock moves on to the expiry (log 1, log 2). -/
def Obligations.HeatDutyTempsExcursionTaken : Prop :=
  ∀ s : State,
    (∀ ends, s.cool.plant.heaterTimer = some ends → s.load.requests = [] →
      let u := s.advanceTo ends
      ∃ t : State, exec .heaterTimerExpiry s = .next t ∧
        LinksOnly { u with
          load := { s.load with grants := (s.load.grants.filter fun g => !decide (g.holder = .heater)) }
          cool := { u.cool with plant := { u.cool.plant with
            phase := .drip, heaterTimer := none, dripAt := u.now
            dripTimer := some (u.now + 1000 * s.settings.drip) } } } t) ∧
    (∀ ends, s.cool.plant.dripTimer = some ends → s.cool.plant.due = false →
      (∀ z : ZoneId, s.cool.zones[z].mode = .chill → s.cool.zones[z].demand = .satisfied) →
      let u := s.advanceTo ends
      ∃ t : State, exec .dripTimerExpiry s = .next t ∧
        LinksOnly { u with cool := { u.cool with plant := { u.cool.plant with
          dripTimer := none
          phase := if s.cool.plant.lastStop + 1000 * s.settings.minOff ≤ u.now then .ready else .lockout } } } t) ∧
    (∀ (z : ZoneId) (phase : DutyPhase) (ends : Nat), s.cool.zones[z].duty = some (phase, ends) →
      (s.cool.plant.phase = .lockout ∨ s.cool.plant.phase = .starting ∨ s.cool.plant.phase = .heatWait ∨
        s.cool.plant.phase = .heating ∨ s.cool.plant.phase = .drip) →
      let u := s.advanceTo ends
      ∃ t : State, exec (.dutyPhaseExpiry z) s = .next t ∧
        LinksOnly { u with cool := { u.cool with zones := (u.cool.zones.set z (match phase with
          | .demand => { s.cool.zones[z] with demand := .satisfied, duty := some (.rest, u.now + 900000) }
          | .rest => { s.cool.zones[z] with demand := .demand, duty := some (.demand, u.now + 600000) })) } } t) ∧
    (let u := s.advanceTo s.cool.nextTemps
     ∃ t : State, exec .temps s = .next t ∧
      LinksOnly { u with cool := { u.cool with nextTemps := s.cool.nextTemps + 60000 } } t ∧
      (s.port.reports.length < 20 → ∃ r : TempsReport, .report (.temps r) ∈ t.outLine ∧
        r.phase = s.cool.plant.phase ∧ r.compressor = s.compressorOn ∧
        (r.heater = true ↔ s.cool.plant.phase = .heating) ∧
        (r.fan = false ↔ s.cool.plant.phase = .heating ∨ s.cool.plant.phase = .drip) ∧
        r.runSeconds = u.cool.plant.runMs / 1000 ∧ r.due = s.cool.plant.due ∧
        r.sinceStop = u.now - s.cool.plant.lastStop ∧
        r.channels.map ChannelView.lastCode = s.cool.channels.toList.map Channel.lastCode ∧
        r.zones.map ZoneView.demand = s.cool.zones.toList.map Zone.demand)) ∧
    ∀ (z : ZoneId) (start : Nat), s.health[z] = .warning start → s.map.zoneHealth[z] = .warning →
      s.sale.current = none → s.port.reports.length < 20 →
      ∃ t : State, exec (.excursionTimerExpiry z) s = .next t ∧
        LinksOnly { s.advanceTo (start + 60000 * s.cool.zones[z].allowance) with
          health := s.health.set z (.held .expired)
          map := { s.map with zoneHealth := s.map.zoneHealth.set z .held, pMin := t.map.lowest } } t ∧
        ∃ r : ZoneReport, .report (.zone r) ∈ t.outLine ∧ r.zone = z ∧ r.cause = .expired ∧ r.health = .held
end

