-- ==== Sys2Proof/Laws/State.lean ====
section
/-! SUPPORT. What a read of one block of the state gives after a write of one block: one lemma per field per write,
for the writes of State.lean and for the nested writes of the blocks. No later proof unfolds a record update. -/

namespace Sys2Proof.Machine

variable (s : State)

/-! ### `State.setNow` -/

@[simp] theorem State.setNow_now (v : Nat) : (s.setNow v).now = v := rfl
@[simp] theorem State.setNow_pins (v : Nat) : (s.setNow v).pins = s.pins := rfl
@[simp] theorem State.setNow_cash (v : Nat) : (s.setNow v).cash = s.cash := rfl
@[simp] theorem State.setNow_ledger (v : Nat) : (s.setNow v).ledger = s.ledger := rfl
@[simp] theorem State.setNow_card (v : Nat) : (s.setNow v).card = s.card := rfl
@[simp] theorem State.setNow_payout (v : Nat) : (s.setNow v).payout = s.payout := rfl
@[simp] theorem State.setNow_map (v : Nat) : (s.setNow v).map = s.map := rfl
@[simp] theorem State.setNow_drive (v : Nat) : (s.setNow v).drive = s.drive := rfl
@[simp] theorem State.setNow_sale (v : Nat) : (s.setNow v).sale = s.sale := rfl
@[simp] theorem State.setNow_load (v : Nat) : (s.setNow v).load = s.load := rfl
@[simp] theorem State.setNow_cool (v : Nat) : (s.setNow v).cool = s.cool := rfl
@[simp] theorem State.setNow_health (v : Nat) : (s.setNow v).health = s.health := rfl
@[simp] theorem State.setNow_line (v : Nat) : (s.setNow v).line = s.line := rfl
@[simp] theorem State.setNow_port (v : Nat) : (s.setNow v).port = s.port := rfl
@[simp] theorem State.setNow_mode (v : Nat) : (s.setNow v).mode = s.mode := rfl
@[simp] theorem State.setNow_settings (v : Nat) : (s.setNow v).settings = s.settings := rfl
@[simp] theorem State.setNow_cutShort (v : Nat) : (s.setNow v).cutShort = s.cutShort := rfl
@[simp] theorem State.setNow_pending (v : Nat) : (s.setNow v).pending = s.pending := rfl
@[simp] theorem State.setNow_twice (v w : Nat) : (s.setNow v).setNow w = s.setNow w := rfl
@[simp] theorem State.setNow_same : s.setNow s.now = s := rfl

/-! ### `State.setPins` -/

@[simp] theorem State.setPins_now (v : Pins) : (s.setPins v).now = s.now := rfl
@[simp] theorem State.setPins_pins (v : Pins) : (s.setPins v).pins = v := rfl
@[simp] theorem State.setPins_cash (v : Pins) : (s.setPins v).cash = s.cash := rfl
@[simp] theorem State.setPins_ledger (v : Pins) : (s.setPins v).ledger = s.ledger := rfl
@[simp] theorem State.setPins_card (v : Pins) : (s.setPins v).card = s.card := rfl
@[simp] theorem State.setPins_payout (v : Pins) : (s.setPins v).payout = s.payout := rfl
@[simp] theorem State.setPins_map (v : Pins) : (s.setPins v).map = s.map := rfl
@[simp] theorem State.setPins_drive (v : Pins) : (s.setPins v).drive = s.drive := rfl
@[simp] theorem State.setPins_sale (v : Pins) : (s.setPins v).sale = s.sale := rfl
@[simp] theorem State.setPins_load (v : Pins) : (s.setPins v).load = s.load := rfl
@[simp] theorem State.setPins_cool (v : Pins) : (s.setPins v).cool = s.cool := rfl
@[simp] theorem State.setPins_health (v : Pins) : (s.setPins v).health = s.health := rfl
@[simp] theorem State.setPins_line (v : Pins) : (s.setPins v).line = s.line := rfl
@[simp] theorem State.setPins_port (v : Pins) : (s.setPins v).port = s.port := rfl
@[simp] theorem State.setPins_mode (v : Pins) : (s.setPins v).mode = s.mode := rfl
@[simp] theorem State.setPins_settings (v : Pins) : (s.setPins v).settings = s.settings := rfl
@[simp] theorem State.setPins_cutShort (v : Pins) : (s.setPins v).cutShort = s.cutShort := rfl
@[simp] theorem State.setPins_pending (v : Pins) : (s.setPins v).pending = s.pending := rfl
@[simp] theorem State.setPins_twice (v w : Pins) : (s.setPins v).setPins w = s.setPins w := rfl
@[simp] theorem State.setPins_same : s.setPins s.pins = s := rfl

/-! ### `State.setCash` -/

@[simp] theorem State.setCash_now (v : Cash) : (s.setCash v).now = s.now := rfl
@[simp] theorem State.setCash_pins (v : Cash) : (s.setCash v).pins = s.pins := rfl
@[simp] theorem State.setCash_cash (v : Cash) : (s.setCash v).cash = v := rfl
@[simp] theorem State.setCash_ledger (v : Cash) : (s.setCash v).ledger = s.ledger := rfl
@[simp] theorem State.setCash_card (v : Cash) : (s.setCash v).card = s.card := rfl
@[simp] theorem State.setCash_payout (v : Cash) : (s.setCash v).payout = s.payout := rfl
@[simp] theorem State.setCash_map (v : Cash) : (s.setCash v).map = s.map := rfl
@[simp] theorem State.setCash_drive (v : Cash) : (s.setCash v).drive = s.drive := rfl
@[simp] theorem State.setCash_sale (v : Cash) : (s.setCash v).sale = s.sale := rfl
@[simp] theorem State.setCash_load (v : Cash) : (s.setCash v).load = s.load := rfl
@[simp] theorem State.setCash_cool (v : Cash) : (s.setCash v).cool = s.cool := rfl
@[simp] theorem State.setCash_health (v : Cash) : (s.setCash v).health = s.health := rfl
@[simp] theorem State.setCash_line (v : Cash) : (s.setCash v).line = s.line := rfl
@[simp] theorem State.setCash_port (v : Cash) : (s.setCash v).port = s.port := rfl
@[simp] theorem State.setCash_mode (v : Cash) : (s.setCash v).mode = s.mode := rfl
@[simp] theorem State.setCash_settings (v : Cash) : (s.setCash v).settings = s.settings := rfl
@[simp] theorem State.setCash_cutShort (v : Cash) : (s.setCash v).cutShort = s.cutShort := rfl
@[simp] theorem State.setCash_pending (v : Cash) : (s.setCash v).pending = s.pending := rfl
@[simp] theorem State.setCash_twice (v w : Cash) : (s.setCash v).setCash w = s.setCash w := rfl
@[simp] theorem State.setCash_same : s.setCash s.cash = s := rfl

/-! ### `State.setLedger` -/

@[simp] theorem State.setLedger_now (v : Ledger) : (s.setLedger v).now = s.now := rfl
@[simp] theorem State.setLedger_pins (v : Ledger) : (s.setLedger v).pins = s.pins := rfl
@[simp] theorem State.setLedger_cash (v : Ledger) : (s.setLedger v).cash = s.cash := rfl
@[simp] theorem State.setLedger_ledger (v : Ledger) : (s.setLedger v).ledger = v := rfl
@[simp] theorem State.setLedger_card (v : Ledger) : (s.setLedger v).card = s.card := rfl
@[simp] theorem State.setLedger_payout (v : Ledger) : (s.setLedger v).payout = s.payout := rfl
@[simp] theorem State.setLedger_map (v : Ledger) : (s.setLedger v).map = s.map := rfl
@[simp] theorem State.setLedger_drive (v : Ledger) : (s.setLedger v).drive = s.drive := rfl
@[simp] theorem State.setLedger_sale (v : Ledger) : (s.setLedger v).sale = s.sale := rfl
@[simp] theorem State.setLedger_load (v : Ledger) : (s.setLedger v).load = s.load := rfl
@[simp] theorem State.setLedger_cool (v : Ledger) : (s.setLedger v).cool = s.cool := rfl
@[simp] theorem State.setLedger_health (v : Ledger) : (s.setLedger v).health = s.health := rfl
@[simp] theorem State.setLedger_line (v : Ledger) : (s.setLedger v).line = s.line := rfl
@[simp] theorem State.setLedger_port (v : Ledger) : (s.setLedger v).port = s.port := rfl
@[simp] theorem State.setLedger_mode (v : Ledger) : (s.setLedger v).mode = s.mode := rfl
@[simp] theorem State.setLedger_settings (v : Ledger) : (s.setLedger v).settings = s.settings := rfl
@[simp] theorem State.setLedger_cutShort (v : Ledger) : (s.setLedger v).cutShort = s.cutShort := rfl
@[simp] theorem State.setLedger_pending (v : Ledger) : (s.setLedger v).pending = s.pending := rfl
@[simp] theorem State.setLedger_twice (v w : Ledger) : (s.setLedger v).setLedger w = s.setLedger w := rfl
@[simp] theorem State.setLedger_same : s.setLedger s.ledger = s := rfl

/-! ### `State.setCard` -/

@[simp] theorem State.setCard_now (v : Card) : (s.setCard v).now = s.now := rfl
@[simp] theorem State.setCard_pins (v : Card) : (s.setCard v).pins = s.pins := rfl
@[simp] theorem State.setCard_cash (v : Card) : (s.setCard v).cash = s.cash := rfl
@[simp] theorem State.setCard_ledger (v : Card) : (s.setCard v).ledger = s.ledger := rfl
@[simp] theorem State.setCard_card (v : Card) : (s.setCard v).card = v := rfl
@[simp] theorem State.setCard_payout (v : Card) : (s.setCard v).payout = s.payout := rfl
@[simp] theorem State.setCard_map (v : Card) : (s.setCard v).map = s.map := rfl
@[simp] theorem State.setCard_drive (v : Card) : (s.setCard v).drive = s.drive := rfl
@[simp] theorem State.setCard_sale (v : Card) : (s.setCard v).sale = s.sale := rfl
@[simp] theorem State.setCard_load (v : Card) : (s.setCard v).load = s.load := rfl
@[simp] theorem State.setCard_cool (v : Card) : (s.setCard v).cool = s.cool := rfl
@[simp] theorem State.setCard_health (v : Card) : (s.setCard v).health = s.health := rfl
@[simp] theorem State.setCard_line (v : Card) : (s.setCard v).line = s.line := rfl
@[simp] theorem State.setCard_port (v : Card) : (s.setCard v).port = s.port := rfl
@[simp] theorem State.setCard_mode (v : Card) : (s.setCard v).mode = s.mode := rfl
@[simp] theorem State.setCard_settings (v : Card) : (s.setCard v).settings = s.settings := rfl
@[simp] theorem State.setCard_cutShort (v : Card) : (s.setCard v).cutShort = s.cutShort := rfl
@[simp] theorem State.setCard_pending (v : Card) : (s.setCard v).pending = s.pending := rfl
@[simp] theorem State.setCard_twice (v w : Card) : (s.setCard v).setCard w = s.setCard w := rfl
@[simp] theorem State.setCard_same : s.setCard s.card = s := rfl

/-! ### `State.setPayout` -/

@[simp] theorem State.setPayout_now (v : Payout) : (s.setPayout v).now = s.now := rfl
@[simp] theorem State.setPayout_pins (v : Payout) : (s.setPayout v).pins = s.pins := rfl
@[simp] theorem State.setPayout_cash (v : Payout) : (s.setPayout v).cash = s.cash := rfl
@[simp] theorem State.setPayout_ledger (v : Payout) : (s.setPayout v).ledger = s.ledger := rfl
@[simp] theorem State.setPayout_card (v : Payout) : (s.setPayout v).card = s.card := rfl
@[simp] theorem State.setPayout_payout (v : Payout) : (s.setPayout v).payout = v := rfl
@[simp] theorem State.setPayout_map (v : Payout) : (s.setPayout v).map = s.map := rfl
@[simp] theorem State.setPayout_drive (v : Payout) : (s.setPayout v).drive = s.drive := rfl
@[simp] theorem State.setPayout_sale (v : Payout) : (s.setPayout v).sale = s.sale := rfl
@[simp] theorem State.setPayout_load (v : Payout) : (s.setPayout v).load = s.load := rfl
@[simp] theorem State.setPayout_cool (v : Payout) : (s.setPayout v).cool = s.cool := rfl
@[simp] theorem State.setPayout_health (v : Payout) : (s.setPayout v).health = s.health := rfl
@[simp] theorem State.setPayout_line (v : Payout) : (s.setPayout v).line = s.line := rfl
@[simp] theorem State.setPayout_port (v : Payout) : (s.setPayout v).port = s.port := rfl
@[simp] theorem State.setPayout_mode (v : Payout) : (s.setPayout v).mode = s.mode := rfl
@[simp] theorem State.setPayout_settings (v : Payout) : (s.setPayout v).settings = s.settings := rfl
@[simp] theorem State.setPayout_cutShort (v : Payout) : (s.setPayout v).cutShort = s.cutShort := rfl
@[simp] theorem State.setPayout_pending (v : Payout) : (s.setPayout v).pending = s.pending := rfl
@[simp] theorem State.setPayout_twice (v w : Payout) : (s.setPayout v).setPayout w = s.setPayout w := rfl
@[simp] theorem State.setPayout_same : s.setPayout s.payout = s := rfl

/-! ### `State.setMap` -/

@[simp] theorem State.setMap_now (v : SelMap) : (s.setMap v).now = s.now := rfl
@[simp] theorem State.setMap_pins (v : SelMap) : (s.setMap v).pins = s.pins := rfl
@[simp] theorem State.setMap_cash (v : SelMap) : (s.setMap v).cash = s.cash := rfl
@[simp] theorem State.setMap_ledger (v : SelMap) : (s.setMap v).ledger = s.ledger := rfl
@[simp] theorem State.setMap_card (v : SelMap) : (s.setMap v).card = s.card := rfl
@[simp] theorem State.setMap_payout (v : SelMap) : (s.setMap v).payout = s.payout := rfl
@[simp] theorem State.setMap_map (v : SelMap) : (s.setMap v).map = v := rfl
@[simp] theorem State.setMap_drive (v : SelMap) : (s.setMap v).drive = s.drive := rfl
@[simp] theorem State.setMap_sale (v : SelMap) : (s.setMap v).sale = s.sale := rfl
@[simp] theorem State.setMap_load (v : SelMap) : (s.setMap v).load = s.load := rfl
@[simp] theorem State.setMap_cool (v : SelMap) : (s.setMap v).cool = s.cool := rfl
@[simp] theorem State.setMap_health (v : SelMap) : (s.setMap v).health = s.health := rfl
@[simp] theorem State.setMap_line (v : SelMap) : (s.setMap v).line = s.line := rfl
@[simp] theorem State.setMap_port (v : SelMap) : (s.setMap v).port = s.port := rfl
@[simp] theorem State.setMap_mode (v : SelMap) : (s.setMap v).mode = s.mode := rfl
@[simp] theorem State.setMap_settings (v : SelMap) : (s.setMap v).settings = s.settings := rfl
@[simp] theorem State.setMap_cutShort (v : SelMap) : (s.setMap v).cutShort = s.cutShort := rfl
@[simp] theorem State.setMap_pending (v : SelMap) : (s.setMap v).pending = s.pending := rfl
@[simp] theorem State.setMap_twice (v w : SelMap) : (s.setMap v).setMap w = s.setMap w := rfl
@[simp] theorem State.setMap_same : s.setMap s.map = s := rfl

/-! ### `State.setDrive` -/

@[simp] theorem State.setDrive_now (v : Drive) : (s.setDrive v).now = s.now := rfl
@[simp] theorem State.setDrive_pins (v : Drive) : (s.setDrive v).pins = s.pins := rfl
@[simp] theorem State.setDrive_cash (v : Drive) : (s.setDrive v).cash = s.cash := rfl
@[simp] theorem State.setDrive_ledger (v : Drive) : (s.setDrive v).ledger = s.ledger := rfl
@[simp] theorem State.setDrive_card (v : Drive) : (s.setDrive v).card = s.card := rfl
@[simp] theorem State.setDrive_payout (v : Drive) : (s.setDrive v).payout = s.payout := rfl
@[simp] theorem State.setDrive_map (v : Drive) : (s.setDrive v).map = s.map := rfl
@[simp] theorem State.setDrive_drive (v : Drive) : (s.setDrive v).drive = v := rfl
@[simp] theorem State.setDrive_sale (v : Drive) : (s.setDrive v).sale = s.sale := rfl
@[simp] theorem State.setDrive_load (v : Drive) : (s.setDrive v).load = s.load := rfl
@[simp] theorem State.setDrive_cool (v : Drive) : (s.setDrive v).cool = s.cool := rfl
@[simp] theorem State.setDrive_health (v : Drive) : (s.setDrive v).health = s.health := rfl
@[simp] theorem State.setDrive_line (v : Drive) : (s.setDrive v).line = s.line := rfl
@[simp] theorem State.setDrive_port (v : Drive) : (s.setDrive v).port = s.port := rfl
@[simp] theorem State.setDrive_mode (v : Drive) : (s.setDrive v).mode = s.mode := rfl
@[simp] theorem State.setDrive_settings (v : Drive) : (s.setDrive v).settings = s.settings := rfl
@[simp] theorem State.setDrive_cutShort (v : Drive) : (s.setDrive v).cutShort = s.cutShort := rfl
@[simp] theorem State.setDrive_pending (v : Drive) : (s.setDrive v).pending = s.pending := rfl
@[simp] theorem State.setDrive_twice (v w : Drive) : (s.setDrive v).setDrive w = s.setDrive w := rfl
@[simp] theorem State.setDrive_same : s.setDrive s.drive = s := rfl

/-! ### `State.setSale` -/

@[simp] theorem State.setSale_now (v : SaleUnit) : (s.setSale v).now = s.now := rfl
@[simp] theorem State.setSale_pins (v : SaleUnit) : (s.setSale v).pins = s.pins := rfl
@[simp] theorem State.setSale_cash (v : SaleUnit) : (s.setSale v).cash = s.cash := rfl
@[simp] theorem State.setSale_ledger (v : SaleUnit) : (s.setSale v).ledger = s.ledger := rfl
@[simp] theorem State.setSale_card (v : SaleUnit) : (s.setSale v).card = s.card := rfl
@[simp] theorem State.setSale_payout (v : SaleUnit) : (s.setSale v).payout = s.payout := rfl
@[simp] theorem State.setSale_map (v : SaleUnit) : (s.setSale v).map = s.map := rfl
@[simp] theorem State.setSale_drive (v : SaleUnit) : (s.setSale v).drive = s.drive := rfl
@[simp] theorem State.setSale_sale (v : SaleUnit) : (s.setSale v).sale = v := rfl
@[simp] theorem State.setSale_load (v : SaleUnit) : (s.setSale v).load = s.load := rfl
@[simp] theorem State.setSale_cool (v : SaleUnit) : (s.setSale v).cool = s.cool := rfl
@[simp] theorem State.setSale_health (v : SaleUnit) : (s.setSale v).health = s.health := rfl
@[simp] theorem State.setSale_line (v : SaleUnit) : (s.setSale v).line = s.line := rfl
@[simp] theorem State.setSale_port (v : SaleUnit) : (s.setSale v).port = s.port := rfl
@[simp] theorem State.setSale_mode (v : SaleUnit) : (s.setSale v).mode = s.mode := rfl
@[simp] theorem State.setSale_settings (v : SaleUnit) : (s.setSale v).settings = s.settings := rfl
@[simp] theorem State.setSale_cutShort (v : SaleUnit) : (s.setSale v).cutShort = s.cutShort := rfl
@[simp] theorem State.setSale_pending (v : SaleUnit) : (s.setSale v).pending = s.pending := rfl
@[simp] theorem State.setSale_twice (v w : SaleUnit) : (s.setSale v).setSale w = s.setSale w := rfl
@[simp] theorem State.setSale_same : s.setSale s.sale = s := rfl

/-! ### `State.setLoad` -/

@[simp] theorem State.setLoad_now (v : Load) : (s.setLoad v).now = s.now := rfl
@[simp] theorem State.setLoad_pins (v : Load) : (s.setLoad v).pins = s.pins := rfl
@[simp] theorem State.setLoad_cash (v : Load) : (s.setLoad v).cash = s.cash := rfl
@[simp] theorem State.setLoad_ledger (v : Load) : (s.setLoad v).ledger = s.ledger := rfl
@[simp] theorem State.setLoad_card (v : Load) : (s.setLoad v).card = s.card := rfl
@[simp] theorem State.setLoad_payout (v : Load) : (s.setLoad v).payout = s.payout := rfl
@[simp] theorem State.setLoad_map (v : Load) : (s.setLoad v).map = s.map := rfl
@[simp] theorem State.setLoad_drive (v : Load) : (s.setLoad v).drive = s.drive := rfl
@[simp] theorem State.setLoad_sale (v : Load) : (s.setLoad v).sale = s.sale := rfl
@[simp] theorem State.setLoad_load (v : Load) : (s.setLoad v).load = v := rfl
@[simp] theorem State.setLoad_cool (v : Load) : (s.setLoad v).cool = s.cool := rfl
@[simp] theorem State.setLoad_health (v : Load) : (s.setLoad v).health = s.health := rfl
@[simp] theorem State.setLoad_line (v : Load) : (s.setLoad v).line = s.line := rfl
@[simp] theorem State.setLoad_port (v : Load) : (s.setLoad v).port = s.port := rfl
@[simp] theorem State.setLoad_mode (v : Load) : (s.setLoad v).mode = s.mode := rfl
@[simp] theorem State.setLoad_settings (v : Load) : (s.setLoad v).settings = s.settings := rfl
@[simp] theorem State.setLoad_cutShort (v : Load) : (s.setLoad v).cutShort = s.cutShort := rfl
@[simp] theorem State.setLoad_pending (v : Load) : (s.setLoad v).pending = s.pending := rfl
@[simp] theorem State.setLoad_twice (v w : Load) : (s.setLoad v).setLoad w = s.setLoad w := rfl
@[simp] theorem State.setLoad_same : s.setLoad s.load = s := rfl

/-! ### `State.setCool` -/

@[simp] theorem State.setCool_now (v : Cooling) : (s.setCool v).now = s.now := rfl
@[simp] theorem State.setCool_pins (v : Cooling) : (s.setCool v).pins = s.pins := rfl
@[simp] theorem State.setCool_cash (v : Cooling) : (s.setCool v).cash = s.cash := rfl
@[simp] theorem State.setCool_ledger (v : Cooling) : (s.setCool v).ledger = s.ledger := rfl
@[simp] theorem State.setCool_card (v : Cooling) : (s.setCool v).card = s.card := rfl
@[simp] theorem State.setCool_payout (v : Cooling) : (s.setCool v).payout = s.payout := rfl
@[simp] theorem State.setCool_map (v : Cooling) : (s.setCool v).map = s.map := rfl
@[simp] theorem State.setCool_drive (v : Cooling) : (s.setCool v).drive = s.drive := rfl
@[simp] theorem State.setCool_sale (v : Cooling) : (s.setCool v).sale = s.sale := rfl
@[simp] theorem State.setCool_load (v : Cooling) : (s.setCool v).load = s.load := rfl
@[simp] theorem State.setCool_cool (v : Cooling) : (s.setCool v).cool = v := rfl
@[simp] theorem State.setCool_health (v : Cooling) : (s.setCool v).health = s.health := rfl
@[simp] theorem State.setCool_line (v : Cooling) : (s.setCool v).line = s.line := rfl
@[simp] theorem State.setCool_port (v : Cooling) : (s.setCool v).port = s.port := rfl
@[simp] theorem State.setCool_mode (v : Cooling) : (s.setCool v).mode = s.mode := rfl
@[simp] theorem State.setCool_settings (v : Cooling) : (s.setCool v).settings = s.settings := rfl
@[simp] theorem State.setCool_cutShort (v : Cooling) : (s.setCool v).cutShort = s.cutShort := rfl
@[simp] theorem State.setCool_pending (v : Cooling) : (s.setCool v).pending = s.pending := rfl
@[simp] theorem State.setCool_twice (v w : Cooling) : (s.setCool v).setCool w = s.setCool w := rfl
@[simp] theorem State.setCool_same : s.setCool s.cool = s := rfl

/-! ### `State.setHealth` -/

@[simp] theorem State.setHealth_now (v : Vector Health 3) : (s.setHealth v).now = s.now := rfl
@[simp] theorem State.setHealth_pins (v : Vector Health 3) : (s.setHealth v).pins = s.pins := rfl
@[simp] theorem State.setHealth_cash (v : Vector Health 3) : (s.setHealth v).cash = s.cash := rfl
@[simp] theorem State.setHealth_ledger (v : Vector Health 3) : (s.setHealth v).ledger = s.ledger := rfl
@[simp] theorem State.setHealth_card (v : Vector Health 3) : (s.setHealth v).card = s.card := rfl
@[simp] theorem State.setHealth_payout (v : Vector Health 3) : (s.setHealth v).payout = s.payout := rfl
@[simp] theorem State.setHealth_map (v : Vector Health 3) : (s.setHealth v).map = s.map := rfl
@[simp] theorem State.setHealth_drive (v : Vector Health 3) : (s.setHealth v).drive = s.drive := rfl
@[simp] theorem State.setHealth_sale (v : Vector Health 3) : (s.setHealth v).sale = s.sale := rfl
@[simp] theorem State.setHealth_load (v : Vector Health 3) : (s.setHealth v).load = s.load := rfl
@[simp] theorem State.setHealth_cool (v : Vector Health 3) : (s.setHealth v).cool = s.cool := rfl
@[simp] theorem State.setHealth_health (v : Vector Health 3) : (s.setHealth v).health = v := rfl
@[simp] theorem State.setHealth_line (v : Vector Health 3) : (s.setHealth v).line = s.line := rfl
@[simp] theorem State.setHealth_port (v : Vector Health 3) : (s.setHealth v).port = s.port := rfl
@[simp] theorem State.setHealth_mode (v : Vector Health 3) : (s.setHealth v).mode = s.mode := rfl
@[simp] theorem State.setHealth_settings (v : Vector Health 3) : (s.setHealth v).settings = s.settings := rfl
@[simp] theorem State.setHealth_cutShort (v : Vector Health 3) : (s.setHealth v).cutShort = s.cutShort := rfl
@[simp] theorem State.setHealth_pending (v : Vector Health 3) : (s.setHealth v).pending = s.pending := rfl
@[simp] theorem State.setHealth_twice (v w : Vector Health 3) : (s.setHealth v).setHealth w = s.setHealth w := rfl
@[simp] theorem State.setHealth_same : s.setHealth s.health = s := rfl

/-! ### `State.setLine` -/

@[simp] theorem State.setLine_now (v : Line) : (s.setLine v).now = s.now := rfl
@[simp] theorem State.setLine_pins (v : Line) : (s.setLine v).pins = s.pins := rfl
@[simp] theorem State.setLine_cash (v : Line) : (s.setLine v).cash = s.cash := rfl
@[simp] theorem State.setLine_ledger (v : Line) : (s.setLine v).ledger = s.ledger := rfl
@[simp] theorem State.setLine_card (v : Line) : (s.setLine v).card = s.card := rfl
@[simp] theorem State.setLine_payout (v : Line) : (s.setLine v).payout = s.payout := rfl
@[simp] theorem State.setLine_map (v : Line) : (s.setLine v).map = s.map := rfl
@[simp] theorem State.setLine_drive (v : Line) : (s.setLine v).drive = s.drive := rfl
@[simp] theorem State.setLine_sale (v : Line) : (s.setLine v).sale = s.sale := rfl
@[simp] theorem State.setLine_load (v : Line) : (s.setLine v).load = s.load := rfl
@[simp] theorem State.setLine_cool (v : Line) : (s.setLine v).cool = s.cool := rfl
@[simp] theorem State.setLine_health (v : Line) : (s.setLine v).health = s.health := rfl
@[simp] theorem State.setLine_line (v : Line) : (s.setLine v).line = v := rfl
@[simp] theorem State.setLine_port (v : Line) : (s.setLine v).port = s.port := rfl
@[simp] theorem State.setLine_mode (v : Line) : (s.setLine v).mode = s.mode := rfl
@[simp] theorem State.setLine_settings (v : Line) : (s.setLine v).settings = s.settings := rfl
@[simp] theorem State.setLine_cutShort (v : Line) : (s.setLine v).cutShort = s.cutShort := rfl
@[simp] theorem State.setLine_pending (v : Line) : (s.setLine v).pending = s.pending := rfl
@[simp] theorem State.setLine_twice (v w : Line) : (s.setLine v).setLine w = s.setLine w := rfl
@[simp] theorem State.setLine_same : s.setLine s.line = s := rfl

/-! ### `State.setPort` -/

@[simp] theorem State.setPort_now (v : Port) : (s.setPort v).now = s.now := rfl
@[simp] theorem State.setPort_pins (v : Port) : (s.setPort v).pins = s.pins := rfl
@[simp] theorem State.setPort_cash (v : Port) : (s.setPort v).cash = s.cash := rfl
@[simp] theorem State.setPort_ledger (v : Port) : (s.setPort v).ledger = s.ledger := rfl
@[simp] theorem State.setPort_card (v : Port) : (s.setPort v).card = s.card := rfl
@[simp] theorem State.setPort_payout (v : Port) : (s.setPort v).payout = s.payout := rfl
@[simp] theorem State.setPort_map (v : Port) : (s.setPort v).map = s.map := rfl
@[simp] theorem State.setPort_drive (v : Port) : (s.setPort v).drive = s.drive := rfl
@[simp] theorem State.setPort_sale (v : Port) : (s.setPort v).sale = s.sale := rfl
@[simp] theorem State.setPort_load (v : Port) : (s.setPort v).load = s.load := rfl
@[simp] theorem State.setPort_cool (v : Port) : (s.setPort v).cool = s.cool := rfl
@[simp] theorem State.setPort_health (v : Port) : (s.setPort v).health = s.health := rfl
@[simp] theorem State.setPort_line (v : Port) : (s.setPort v).line = s.line := rfl
@[simp] theorem State.setPort_port (v : Port) : (s.setPort v).port = v := rfl
@[simp] theorem State.setPort_mode (v : Port) : (s.setPort v).mode = s.mode := rfl
@[simp] theorem State.setPort_settings (v : Port) : (s.setPort v).settings = s.settings := rfl
@[simp] theorem State.setPort_cutShort (v : Port) : (s.setPort v).cutShort = s.cutShort := rfl
@[simp] theorem State.setPort_pending (v : Port) : (s.setPort v).pending = s.pending := rfl
@[simp] theorem State.setPort_twice (v w : Port) : (s.setPort v).setPort w = s.setPort w := rfl
@[simp] theorem State.setPort_same : s.setPort s.port = s := rfl

/-! ### `State.setMode` -/

@[simp] theorem State.setMode_now (v : ModeRecord) : (s.setMode v).now = s.now := rfl
@[simp] theorem State.setMode_pins (v : ModeRecord) : (s.setMode v).pins = s.pins := rfl
@[simp] theorem State.setMode_cash (v : ModeRecord) : (s.setMode v).cash = s.cash := rfl
@[simp] theorem State.setMode_ledger (v : ModeRecord) : (s.setMode v).ledger = s.ledger := rfl
@[simp] theorem State.setMode_card (v : ModeRecord) : (s.setMode v).card = s.card := rfl
@[simp] theorem State.setMode_payout (v : ModeRecord) : (s.setMode v).payout = s.payout := rfl
@[simp] theorem State.setMode_map (v : ModeRecord) : (s.setMode v).map = s.map := rfl
@[simp] theorem State.setMode_drive (v : ModeRecord) : (s.setMode v).drive = s.drive := rfl
@[simp] theorem State.setMode_sale (v : ModeRecord) : (s.setMode v).sale = s.sale := rfl
@[simp] theorem State.setMode_load (v : ModeRecord) : (s.setMode v).load = s.load := rfl
@[simp] theorem State.setMode_cool (v : ModeRecord) : (s.setMode v).cool = s.cool := rfl
@[simp] theorem State.setMode_health (v : ModeRecord) : (s.setMode v).health = s.health := rfl
@[simp] theorem State.setMode_line (v : ModeRecord) : (s.setMode v).line = s.line := rfl
@[simp] theorem State.setMode_port (v : ModeRecord) : (s.setMode v).port = s.port := rfl
@[simp] theorem State.setMode_mode (v : ModeRecord) : (s.setMode v).mode = v := rfl
@[simp] theorem State.setMode_settings (v : ModeRecord) : (s.setMode v).settings = s.settings := rfl
@[simp] theorem State.setMode_cutShort (v : ModeRecord) : (s.setMode v).cutShort = s.cutShort := rfl
@[simp] theorem State.setMode_pending (v : ModeRecord) : (s.setMode v).pending = s.pending := rfl
@[simp] theorem State.setMode_twice (v w : ModeRecord) : (s.setMode v).setMode w = s.setMode w := rfl
@[simp] theorem State.setMode_same : s.setMode s.mode = s := rfl

/-! ### `State.setSettings` -/

@[simp] theorem State.setSettings_now (v : Settings) : (s.setSettings v).now = s.now := rfl
@[simp] theorem State.setSettings_pins (v : Settings) : (s.setSettings v).pins = s.pins := rfl
@[simp] theorem State.setSettings_cash (v : Settings) : (s.setSettings v).cash = s.cash := rfl
@[simp] theorem State.setSettings_ledger (v : Settings) : (s.setSettings v).ledger = s.ledger := rfl
@[simp] theorem State.setSettings_card (v : Settings) : (s.setSettings v).card = s.card := rfl
@[simp] theorem State.setSettings_payout (v : Settings) : (s.setSettings v).payout = s.payout := rfl
@[simp] theorem State.setSettings_map (v : Settings) : (s.setSettings v).map = s.map := rfl
@[simp] theorem State.setSettings_drive (v : Settings) : (s.setSettings v).drive = s.drive := rfl
@[simp] theorem State.setSettings_sale (v : Settings) : (s.setSettings v).sale = s.sale := rfl
@[simp] theorem State.setSettings_load (v : Settings) : (s.setSettings v).load = s.load := rfl
@[simp] theorem State.setSettings_cool (v : Settings) : (s.setSettings v).cool = s.cool := rfl
@[simp] theorem State.setSettings_health (v : Settings) : (s.setSettings v).health = s.health := rfl
@[simp] theorem State.setSettings_line (v : Settings) : (s.setSettings v).line = s.line := rfl
@[simp] theorem State.setSettings_port (v : Settings) : (s.setSettings v).port = s.port := rfl
@[simp] theorem State.setSettings_mode (v : Settings) : (s.setSettings v).mode = s.mode := rfl
@[simp] theorem State.setSettings_settings (v : Settings) : (s.setSettings v).settings = v := rfl
@[simp] theorem State.setSettings_cutShort (v : Settings) : (s.setSettings v).cutShort = s.cutShort := rfl
@[simp] theorem State.setSettings_pending (v : Settings) : (s.setSettings v).pending = s.pending := rfl
@[simp] theorem State.setSettings_twice (v w : Settings) : (s.setSettings v).setSettings w = s.setSettings w := rfl
@[simp] theorem State.setSettings_same : s.setSettings s.settings = s := rfl

/-! ### `State.setCutShort` -/

@[simp] theorem State.setCutShort_now (v : Bool) : (s.setCutShort v).now = s.now := rfl
@[simp] theorem State.setCutShort_pins (v : Bool) : (s.setCutShort v).pins = s.pins := rfl
@[simp] theorem State.setCutShort_cash (v : Bool) : (s.setCutShort v).cash = s.cash := rfl
@[simp] theorem State.setCutShort_ledger (v : Bool) : (s.setCutShort v).ledger = s.ledger := rfl
@[simp] theorem State.setCutShort_card (v : Bool) : (s.setCutShort v).card = s.card := rfl
@[simp] theorem State.setCutShort_payout (v : Bool) : (s.setCutShort v).payout = s.payout := rfl
@[simp] theorem State.setCutShort_map (v : Bool) : (s.setCutShort v).map = s.map := rfl
@[simp] theorem State.setCutShort_drive (v : Bool) : (s.setCutShort v).drive = s.drive := rfl
@[simp] theorem State.setCutShort_sale (v : Bool) : (s.setCutShort v).sale = s.sale := rfl
@[simp] theorem State.setCutShort_load (v : Bool) : (s.setCutShort v).load = s.load := rfl
@[simp] theorem State.setCutShort_cool (v : Bool) : (s.setCutShort v).cool = s.cool := rfl
@[simp] theorem State.setCutShort_health (v : Bool) : (s.setCutShort v).health = s.health := rfl
@[simp] theorem State.setCutShort_line (v : Bool) : (s.setCutShort v).line = s.line := rfl
@[simp] theorem State.setCutShort_port (v : Bool) : (s.setCutShort v).port = s.port := rfl
@[simp] theorem State.setCutShort_mode (v : Bool) : (s.setCutShort v).mode = s.mode := rfl
@[simp] theorem State.setCutShort_settings (v : Bool) : (s.setCutShort v).settings = s.settings := rfl
@[simp] theorem State.setCutShort_cutShort (v : Bool) : (s.setCutShort v).cutShort = v := rfl
@[simp] theorem State.setCutShort_pending (v : Bool) : (s.setCutShort v).pending = s.pending := rfl
@[simp] theorem State.setCutShort_twice (v w : Bool) : (s.setCutShort v).setCutShort w = s.setCutShort w := rfl
@[simp] theorem State.setCutShort_same : s.setCutShort s.cutShort = s := rfl

/-! ### `State.setPending` -/

@[simp] theorem State.setPending_now (v : List Instr) : (s.setPending v).now = s.now := rfl
@[simp] theorem State.setPending_pins (v : List Instr) : (s.setPending v).pins = s.pins := rfl
@[simp] theorem State.setPending_cash (v : List Instr) : (s.setPending v).cash = s.cash := rfl
@[simp] theorem State.setPending_ledger (v : List Instr) : (s.setPending v).ledger = s.ledger := rfl
@[simp] theorem State.setPending_card (v : List Instr) : (s.setPending v).card = s.card := rfl
@[simp] theorem State.setPending_payout (v : List Instr) : (s.setPending v).payout = s.payout := rfl
@[simp] theorem State.setPending_map (v : List Instr) : (s.setPending v).map = s.map := rfl
@[simp] theorem State.setPending_drive (v : List Instr) : (s.setPending v).drive = s.drive := rfl
@[simp] theorem State.setPending_sale (v : List Instr) : (s.setPending v).sale = s.sale := rfl
@[simp] theorem State.setPending_load (v : List Instr) : (s.setPending v).load = s.load := rfl
@[simp] theorem State.setPending_cool (v : List Instr) : (s.setPending v).cool = s.cool := rfl
@[simp] theorem State.setPending_health (v : List Instr) : (s.setPending v).health = s.health := rfl
@[simp] theorem State.setPending_line (v : List Instr) : (s.setPending v).line = s.line := rfl
@[simp] theorem State.setPending_port (v : List Instr) : (s.setPending v).port = s.port := rfl
@[simp] theorem State.setPending_mode (v : List Instr) : (s.setPending v).mode = s.mode := rfl
@[simp] theorem State.setPending_settings (v : List Instr) : (s.setPending v).settings = s.settings := rfl
@[simp] theorem State.setPending_cutShort (v : List Instr) : (s.setPending v).cutShort = s.cutShort := rfl
@[simp] theorem State.setPending_pending (v : List Instr) : (s.setPending v).pending = v := rfl
@[simp] theorem State.setPending_twice (v w : List Instr) : (s.setPending v).setPending w = s.setPending w := rfl
@[simp] theorem State.setPending_same : s.setPending s.pending = s := rfl

/-! ### `State.setQueue` -/

@[simp] theorem State.setQueue_now (v : List QueueEntry) : (s.setQueue v).now = s.now := rfl
@[simp] theorem State.setQueue_pins (v : List QueueEntry) : (s.setQueue v).pins = s.pins := rfl
@[simp] theorem State.setQueue_cash (v : List QueueEntry) : (s.setQueue v).cash = s.cash := rfl
@[simp] theorem State.setQueue_ledger (v : List QueueEntry) : (s.setQueue v).ledger = s.ledger := rfl
@[simp] theorem State.setQueue_card (v : List QueueEntry) : (s.setQueue v).card = s.card := rfl
@[simp] theorem State.setQueue_payout (v : List QueueEntry) : (s.setQueue v).payout = s.payout := rfl
@[simp] theorem State.setQueue_map (v : List QueueEntry) : (s.setQueue v).map = s.map := rfl
@[simp] theorem State.setQueue_drive (v : List QueueEntry) : (s.setQueue v).drive = s.drive := rfl
@[simp] theorem State.setQueue_sale (v : List QueueEntry) : (s.setQueue v).sale = s.sale := rfl
@[simp] theorem State.setQueue_load (v : List QueueEntry) : (s.setQueue v).load = s.load := rfl
@[simp] theorem State.setQueue_cool (v : List QueueEntry) : (s.setQueue v).cool = s.cool := rfl
@[simp] theorem State.setQueue_health (v : List QueueEntry) : (s.setQueue v).health = s.health := rfl
@[simp] theorem State.setQueue_line (v : List QueueEntry) : (s.setQueue v).line = { s.line with queue := v } := rfl
@[simp] theorem State.setQueue_port (v : List QueueEntry) : (s.setQueue v).port = s.port := rfl
@[simp] theorem State.setQueue_mode (v : List QueueEntry) : (s.setQueue v).mode = s.mode := rfl
@[simp] theorem State.setQueue_settings (v : List QueueEntry) : (s.setQueue v).settings = s.settings := rfl
@[simp] theorem State.setQueue_cutShort (v : List QueueEntry) : (s.setQueue v).cutShort = s.cutShort := rfl
@[simp] theorem State.setQueue_pending (v : List QueueEntry) : (s.setQueue v).pending = s.pending := rfl

/-! ### `State.setStation` -/

@[simp] theorem State.setStation_now (st : StationId) (v : Station) : (s.setStation st v).now = s.now := rfl
@[simp] theorem State.setStation_pins (st : StationId) (v : Station) : (s.setStation st v).pins = s.pins := rfl
@[simp] theorem State.setStation_cash (st : StationId) (v : Station) : (s.setStation st v).cash = s.cash := rfl
@[simp] theorem State.setStation_ledger (st : StationId) (v : Station) : (s.setStation st v).ledger = s.ledger := rfl
@[simp] theorem State.setStation_card (st : StationId) (v : Station) : (s.setStation st v).card = s.card := rfl
@[simp] theorem State.setStation_payout (st : StationId) (v : Station) : (s.setStation st v).payout = s.payout := rfl
@[simp] theorem State.setStation_map (st : StationId) (v : Station) : (s.setStation st v).map = s.map := rfl
@[simp] theorem State.setStation_drive (st : StationId) (v : Station) : (s.setStation st v).drive = s.drive := rfl
@[simp] theorem State.setStation_sale (st : StationId) (v : Station) : (s.setStation st v).sale = s.sale := rfl
@[simp] theorem State.setStation_load (st : StationId) (v : Station) : (s.setStation st v).load = s.load := rfl
@[simp] theorem State.setStation_cool (st : StationId) (v : Station) : (s.setStation st v).cool = s.cool := rfl
@[simp] theorem State.setStation_health (st : StationId) (v : Station) : (s.setStation st v).health = s.health := rfl
@[simp] theorem State.setStation_line (st : StationId) (v : Station) : (s.setStation st v).line = { s.line with stations := s.line.stations.set st v } := rfl
@[simp] theorem State.setStation_port (st : StationId) (v : Station) : (s.setStation st v).port = s.port := rfl
@[simp] theorem State.setStation_mode (st : StationId) (v : Station) : (s.setStation st v).mode = s.mode := rfl
@[simp] theorem State.setStation_settings (st : StationId) (v : Station) : (s.setStation st v).settings = s.settings := rfl
@[simp] theorem State.setStation_cutShort (st : StationId) (v : Station) : (s.setStation st v).cutShort = s.cutShort := rfl
@[simp] theorem State.setStation_pending (st : StationId) (v : Station) : (s.setStation st v).pending = s.pending := rfl

/-! ### `State.setAttempt` -/

@[simp] theorem State.setAttempt_now (v : Option Attempt) : (s.setAttempt v).now = s.now := rfl
@[simp] theorem State.setAttempt_pins (v : Option Attempt) : (s.setAttempt v).pins = s.pins := rfl
@[simp] theorem State.setAttempt_cash (v : Option Attempt) : (s.setAttempt v).cash = s.cash := rfl
@[simp] theorem State.setAttempt_ledger (v : Option Attempt) : (s.setAttempt v).ledger = s.ledger := rfl
@[simp] theorem State.setAttempt_card (v : Option Attempt) : (s.setAttempt v).card = s.card := rfl
@[simp] theorem State.setAttempt_payout (v : Option Attempt) : (s.setAttempt v).payout = s.payout := rfl
@[simp] theorem State.setAttempt_map (v : Option Attempt) : (s.setAttempt v).map = s.map := rfl
@[simp] theorem State.setAttempt_drive (v : Option Attempt) : (s.setAttempt v).drive = { s.drive with attempt := v } := rfl
@[simp] theorem State.setAttempt_sale (v : Option Attempt) : (s.setAttempt v).sale = s.sale := rfl
@[simp] theorem State.setAttempt_load (v : Option Attempt) : (s.setAttempt v).load = s.load := rfl
@[simp] theorem State.setAttempt_cool (v : Option Attempt) : (s.setAttempt v).cool = s.cool := rfl
@[simp] theorem State.setAttempt_health (v : Option Attempt) : (s.setAttempt v).health = s.health := rfl
@[simp] theorem State.setAttempt_line (v : Option Attempt) : (s.setAttempt v).line = s.line := rfl
@[simp] theorem State.setAttempt_port (v : Option Attempt) : (s.setAttempt v).port = s.port := rfl
@[simp] theorem State.setAttempt_mode (v : Option Attempt) : (s.setAttempt v).mode = s.mode := rfl
@[simp] theorem State.setAttempt_settings (v : Option Attempt) : (s.setAttempt v).settings = s.settings := rfl
@[simp] theorem State.setAttempt_cutShort (v : Option Attempt) : (s.setAttempt v).cutShort = s.cutShort := rfl
@[simp] theorem State.setAttempt_pending (v : Option Attempt) : (s.setAttempt v).pending = s.pending := rfl

/-! ### `State.setCurrent` -/

@[simp] theorem State.setCurrent_now (v : Nat) : (s.setCurrent v).now = s.now := rfl
@[simp] theorem State.setCurrent_pins (v : Nat) : (s.setCurrent v).pins = { s.pins with motorCurrent := v } := rfl
@[simp] theorem State.setCurrent_cash (v : Nat) : (s.setCurrent v).cash = s.cash := rfl
@[simp] theorem State.setCurrent_ledger (v : Nat) : (s.setCurrent v).ledger = s.ledger := rfl
@[simp] theorem State.setCurrent_card (v : Nat) : (s.setCurrent v).card = s.card := rfl
@[simp] theorem State.setCurrent_payout (v : Nat) : (s.setCurrent v).payout = s.payout := rfl
@[simp] theorem State.setCurrent_map (v : Nat) : (s.setCurrent v).map = s.map := rfl
@[simp] theorem State.setCurrent_drive (v : Nat) : (s.setCurrent v).drive = s.drive := rfl
@[simp] theorem State.setCurrent_sale (v : Nat) : (s.setCurrent v).sale = s.sale := rfl
@[simp] theorem State.setCurrent_load (v : Nat) : (s.setCurrent v).load = s.load := rfl
@[simp] theorem State.setCurrent_cool (v : Nat) : (s.setCurrent v).cool = s.cool := rfl
@[simp] theorem State.setCurrent_health (v : Nat) : (s.setCurrent v).health = s.health := rfl
@[simp] theorem State.setCurrent_line (v : Nat) : (s.setCurrent v).line = s.line := rfl
@[simp] theorem State.setCurrent_port (v : Nat) : (s.setCurrent v).port = s.port := rfl
@[simp] theorem State.setCurrent_mode (v : Nat) : (s.setCurrent v).mode = s.mode := rfl
@[simp] theorem State.setCurrent_settings (v : Nat) : (s.setCurrent v).settings = s.settings := rfl
@[simp] theorem State.setCurrent_cutShort (v : Nat) : (s.setCurrent v).cutShort = s.cutShort := rfl
@[simp] theorem State.setCurrent_pending (v : Nat) : (s.setCurrent v).pending = s.pending := rfl

/-! ### `State.setTube` -/

@[simp] theorem State.setTube_now (n : TubeId) (v : Tube) : (s.setTube n v).now = s.now := rfl
@[simp] theorem State.setTube_pins (n : TubeId) (v : Tube) : (s.setTube n v).pins = s.pins := rfl
@[simp] theorem State.setTube_cash (n : TubeId) (v : Tube) : (s.setTube n v).cash = { s.cash with tubes := s.cash.tubes.set n v } := rfl
@[simp] theorem State.setTube_ledger (n : TubeId) (v : Tube) : (s.setTube n v).ledger = s.ledger := rfl
@[simp] theorem State.setTube_card (n : TubeId) (v : Tube) : (s.setTube n v).card = s.card := rfl
@[simp] theorem State.setTube_payout (n : TubeId) (v : Tube) : (s.setTube n v).payout = s.payout := rfl
@[simp] theorem State.setTube_map (n : TubeId) (v : Tube) : (s.setTube n v).map = s.map := rfl
@[simp] theorem State.setTube_drive (n : TubeId) (v : Tube) : (s.setTube n v).drive = s.drive := rfl
@[simp] theorem State.setTube_sale (n : TubeId) (v : Tube) : (s.setTube n v).sale = s.sale := rfl
@[simp] theorem State.setTube_load (n : TubeId) (v : Tube) : (s.setTube n v).load = s.load := rfl
@[simp] theorem State.setTube_cool (n : TubeId) (v : Tube) : (s.setTube n v).cool = s.cool := rfl
@[simp] theorem State.setTube_health (n : TubeId) (v : Tube) : (s.setTube n v).health = s.health := rfl
@[simp] theorem State.setTube_line (n : TubeId) (v : Tube) : (s.setTube n v).line = s.line := rfl
@[simp] theorem State.setTube_port (n : TubeId) (v : Tube) : (s.setTube n v).port = s.port := rfl
@[simp] theorem State.setTube_mode (n : TubeId) (v : Tube) : (s.setTube n v).mode = s.mode := rfl
@[simp] theorem State.setTube_settings (n : TubeId) (v : Tube) : (s.setTube n v).settings = s.settings := rfl
@[simp] theorem State.setTube_cutShort (n : TubeId) (v : Tube) : (s.setTube n v).cutShort = s.cutShort := rfl
@[simp] theorem State.setTube_pending (n : TubeId) (v : Tube) : (s.setTube n v).pending = s.pending := rfl

/-! ### `State.setEscrow` -/

@[simp] theorem State.setEscrow_now (v : Escrow) : (s.setEscrow v).now = s.now := rfl
@[simp] theorem State.setEscrow_pins (v : Escrow) : (s.setEscrow v).pins = s.pins := rfl
@[simp] theorem State.setEscrow_cash (v : Escrow) : (s.setEscrow v).cash = { s.cash with escrow := v } := rfl
@[simp] theorem State.setEscrow_ledger (v : Escrow) : (s.setEscrow v).ledger = s.ledger := rfl
@[simp] theorem State.setEscrow_card (v : Escrow) : (s.setEscrow v).card = s.card := rfl
@[simp] theorem State.setEscrow_payout (v : Escrow) : (s.setEscrow v).payout = s.payout := rfl
@[simp] theorem State.setEscrow_map (v : Escrow) : (s.setEscrow v).map = s.map := rfl
@[simp] theorem State.setEscrow_drive (v : Escrow) : (s.setEscrow v).drive = s.drive := rfl
@[simp] theorem State.setEscrow_sale (v : Escrow) : (s.setEscrow v).sale = s.sale := rfl
@[simp] theorem State.setEscrow_load (v : Escrow) : (s.setEscrow v).load = s.load := rfl
@[simp] theorem State.setEscrow_cool (v : Escrow) : (s.setEscrow v).cool = s.cool := rfl
@[simp] theorem State.setEscrow_health (v : Escrow) : (s.setEscrow v).health = s.health := rfl
@[simp] theorem State.setEscrow_line (v : Escrow) : (s.setEscrow v).line = s.line := rfl
@[simp] theorem State.setEscrow_port (v : Escrow) : (s.setEscrow v).port = s.port := rfl
@[simp] theorem State.setEscrow_mode (v : Escrow) : (s.setEscrow v).mode = s.mode := rfl
@[simp] theorem State.setEscrow_settings (v : Escrow) : (s.setEscrow v).settings = s.settings := rfl
@[simp] theorem State.setEscrow_cutShort (v : Escrow) : (s.setEscrow v).cutShort = s.cutShort := rfl
@[simp] theorem State.setEscrow_pending (v : Escrow) : (s.setEscrow v).pending = s.pending := rfl

/-! ### `State.setPlant` -/

@[simp] theorem State.setPlant_now (v : Plant) : (s.setPlant v).now = s.now := rfl
@[simp] theorem State.setPlant_pins (v : Plant) : (s.setPlant v).pins = s.pins := rfl
@[simp] theorem State.setPlant_cash (v : Plant) : (s.setPlant v).cash = s.cash := rfl
@[simp] theorem State.setPlant_ledger (v : Plant) : (s.setPlant v).ledger = s.ledger := rfl
@[simp] theorem State.setPlant_card (v : Plant) : (s.setPlant v).card = s.card := rfl
@[simp] theorem State.setPlant_payout (v : Plant) : (s.setPlant v).payout = s.payout := rfl
@[simp] theorem State.setPlant_map (v : Plant) : (s.setPlant v).map = s.map := rfl
@[simp] theorem State.setPlant_drive (v : Plant) : (s.setPlant v).drive = s.drive := rfl
@[simp] theorem State.setPlant_sale (v : Plant) : (s.setPlant v).sale = s.sale := rfl
@[simp] theorem State.setPlant_load (v : Plant) : (s.setPlant v).load = s.load := rfl
@[simp] theorem State.setPlant_cool (v : Plant) : (s.setPlant v).cool = { s.cool with plant := v } := rfl
@[simp] theorem State.setPlant_health (v : Plant) : (s.setPlant v).health = s.health := rfl
@[simp] theorem State.setPlant_line (v : Plant) : (s.setPlant v).line = s.line := rfl
@[simp] theorem State.setPlant_port (v : Plant) : (s.setPlant v).port = s.port := rfl
@[simp] theorem State.setPlant_mode (v : Plant) : (s.setPlant v).mode = s.mode := rfl
@[simp] theorem State.setPlant_settings (v : Plant) : (s.setPlant v).settings = s.settings := rfl
@[simp] theorem State.setPlant_cutShort (v : Plant) : (s.setPlant v).cutShort = s.cutShort := rfl
@[simp] theorem State.setPlant_pending (v : Plant) : (s.setPlant v).pending = s.pending := rfl

/-! ### `State.setZone` -/

@[simp] theorem State.setZone_now (z : ZoneId) (v : Zone) : (s.setZone z v).now = s.now := rfl
@[simp] theorem State.setZone_pins (z : ZoneId) (v : Zone) : (s.setZone z v).pins = s.pins := rfl
@[simp] theorem State.setZone_cash (z : ZoneId) (v : Zone) : (s.setZone z v).cash = s.cash := rfl
@[simp] theorem State.setZone_ledger (z : ZoneId) (v : Zone) : (s.setZone z v).ledger = s.ledger := rfl
@[simp] theorem State.setZone_card (z : ZoneId) (v : Zone) : (s.setZone z v).card = s.card := rfl
@[simp] theorem State.setZone_payout (z : ZoneId) (v : Zone) : (s.setZone z v).payout = s.payout := rfl
@[simp] theorem State.setZone_map (z : ZoneId) (v : Zone) : (s.setZone z v).map = s.map := rfl
@[simp] theorem State.setZone_drive (z : ZoneId) (v : Zone) : (s.setZone z v).drive = s.drive := rfl
@[simp] theorem State.setZone_sale (z : ZoneId) (v : Zone) : (s.setZone z v).sale = s.sale := rfl
@[simp] theorem State.setZone_load (z : ZoneId) (v : Zone) : (s.setZone z v).load = s.load := rfl
@[simp] theorem State.setZone_cool (z : ZoneId) (v : Zone) : (s.setZone z v).cool = { s.cool with zones := s.cool.zones.set z v } := rfl
@[simp] theorem State.setZone_health (z : ZoneId) (v : Zone) : (s.setZone z v).health = s.health := rfl
@[simp] theorem State.setZone_line (z : ZoneId) (v : Zone) : (s.setZone z v).line = s.line := rfl
@[simp] theorem State.setZone_port (z : ZoneId) (v : Zone) : (s.setZone z v).port = s.port := rfl
@[simp] theorem State.setZone_mode (z : ZoneId) (v : Zone) : (s.setZone z v).mode = s.mode := rfl
@[simp] theorem State.setZone_settings (z : ZoneId) (v : Zone) : (s.setZone z v).settings = s.settings := rfl
@[simp] theorem State.setZone_cutShort (z : ZoneId) (v : Zone) : (s.setZone z v).cutShort = s.cutShort := rfl
@[simp] theorem State.setZone_pending (z : ZoneId) (v : Zone) : (s.setZone z v).pending = s.pending := rfl

/-! ### `State.setChannel` -/

@[simp] theorem State.setChannel_now (c : ChannelId) (v : Channel) : (s.setChannel c v).now = s.now := rfl
@[simp] theorem State.setChannel_pins (c : ChannelId) (v : Channel) : (s.setChannel c v).pins = s.pins := rfl
@[simp] theorem State.setChannel_cash (c : ChannelId) (v : Channel) : (s.setChannel c v).cash = s.cash := rfl
@[simp] theorem State.setChannel_ledger (c : ChannelId) (v : Channel) : (s.setChannel c v).ledger = s.ledger := rfl
@[simp] theorem State.setChannel_card (c : ChannelId) (v : Channel) : (s.setChannel c v).card = s.card := rfl
@[simp] theorem State.setChannel_payout (c : ChannelId) (v : Channel) : (s.setChannel c v).payout = s.payout := rfl
@[simp] theorem State.setChannel_map (c : ChannelId) (v : Channel) : (s.setChannel c v).map = s.map := rfl
@[simp] theorem State.setChannel_drive (c : ChannelId) (v : Channel) : (s.setChannel c v).drive = s.drive := rfl
@[simp] theorem State.setChannel_sale (c : ChannelId) (v : Channel) : (s.setChannel c v).sale = s.sale := rfl
@[simp] theorem State.setChannel_load (c : ChannelId) (v : Channel) : (s.setChannel c v).load = s.load := rfl
@[simp] theorem State.setChannel_cool (c : ChannelId) (v : Channel) : (s.setChannel c v).cool = { s.cool with channels := s.cool.channels.set c v } := rfl
@[simp] theorem State.setChannel_health (c : ChannelId) (v : Channel) : (s.setChannel c v).health = s.health := rfl
@[simp] theorem State.setChannel_line (c : ChannelId) (v : Channel) : (s.setChannel c v).line = s.line := rfl
@[simp] theorem State.setChannel_port (c : ChannelId) (v : Channel) : (s.setChannel c v).port = s.port := rfl
@[simp] theorem State.setChannel_mode (c : ChannelId) (v : Channel) : (s.setChannel c v).mode = s.mode := rfl
@[simp] theorem State.setChannel_settings (c : ChannelId) (v : Channel) : (s.setChannel c v).settings = s.settings := rfl
@[simp] theorem State.setChannel_cutShort (c : ChannelId) (v : Channel) : (s.setChannel c v).cutShort = s.cutShort := rfl
@[simp] theorem State.setChannel_pending (c : ChannelId) (v : Channel) : (s.setChannel c v).pending = s.pending := rfl

/-! ### `State.setCurrentSale` -/

@[simp] theorem State.setCurrentSale_now (v : Option Sale) : (s.setCurrentSale v).now = s.now := rfl
@[simp] theorem State.setCurrentSale_pins (v : Option Sale) : (s.setCurrentSale v).pins = s.pins := rfl
@[simp] theorem State.setCurrentSale_cash (v : Option Sale) : (s.setCurrentSale v).cash = s.cash := rfl
@[simp] theorem State.setCurrentSale_ledger (v : Option Sale) : (s.setCurrentSale v).ledger = s.ledger := rfl
@[simp] theorem State.setCurrentSale_card (v : Option Sale) : (s.setCurrentSale v).card = s.card := rfl
@[simp] theorem State.setCurrentSale_payout (v : Option Sale) : (s.setCurrentSale v).payout = s.payout := rfl
@[simp] theorem State.setCurrentSale_map (v : Option Sale) : (s.setCurrentSale v).map = s.map := rfl
@[simp] theorem State.setCurrentSale_drive (v : Option Sale) : (s.setCurrentSale v).drive = s.drive := rfl
@[simp] theorem State.setCurrentSale_sale (v : Option Sale) : (s.setCurrentSale v).sale = { s.sale with current := v } := rfl
@[simp] theorem State.setCurrentSale_load (v : Option Sale) : (s.setCurrentSale v).load = s.load := rfl
@[simp] theorem State.setCurrentSale_cool (v : Option Sale) : (s.setCurrentSale v).cool = s.cool := rfl
@[simp] theorem State.setCurrentSale_health (v : Option Sale) : (s.setCurrentSale v).health = s.health := rfl
@[simp] theorem State.setCurrentSale_line (v : Option Sale) : (s.setCurrentSale v).line = s.line := rfl
@[simp] theorem State.setCurrentSale_port (v : Option Sale) : (s.setCurrentSale v).port = s.port := rfl
@[simp] theorem State.setCurrentSale_mode (v : Option Sale) : (s.setCurrentSale v).mode = s.mode := rfl
@[simp] theorem State.setCurrentSale_settings (v : Option Sale) : (s.setCurrentSale v).settings = s.settings := rfl
@[simp] theorem State.setCurrentSale_cutShort (v : Option Sale) : (s.setCurrentSale v).cutShort = s.cutShort := rfl
@[simp] theorem State.setCurrentSale_pending (v : Option Sale) : (s.setCurrentSale v).pending = s.pending := rfl

/-! ### `State.setModes` -/

@[simp] theorem State.setModes_now (r : Mode) (f : Bool) (d : Door) (e : Mode) : (s.setModes r f d e).now = s.now := rfl
@[simp] theorem State.setModes_pins (r : Mode) (f : Bool) (d : Door) (e : Mode) : (s.setModes r f d e).pins = s.pins := rfl
@[simp] theorem State.setModes_cash (r : Mode) (f : Bool) (d : Door) (e : Mode) : (s.setModes r f d e).cash = s.cash := rfl
@[simp] theorem State.setModes_ledger (r : Mode) (f : Bool) (d : Door) (e : Mode) : (s.setModes r f d e).ledger = s.ledger := rfl
@[simp] theorem State.setModes_card (r : Mode) (f : Bool) (d : Door) (e : Mode) : (s.setModes r f d e).card = s.card := rfl
@[simp] theorem State.setModes_payout (r : Mode) (f : Bool) (d : Door) (e : Mode) : (s.setModes r f d e).payout = s.payout := rfl
@[simp] theorem State.setModes_map (r : Mode) (f : Bool) (d : Door) (e : Mode) : (s.setModes r f d e).map = s.map := rfl
@[simp] theorem State.setModes_drive (r : Mode) (f : Bool) (d : Door) (e : Mode) : (s.setModes r f d e).drive = s.drive := rfl
@[simp] theorem State.setModes_sale (r : Mode) (f : Bool) (d : Door) (e : Mode) : (s.setModes r f d e).sale = s.sale := rfl
@[simp] theorem State.setModes_load (r : Mode) (f : Bool) (d : Door) (e : Mode) : (s.setModes r f d e).load = s.load := rfl
@[simp] theorem State.setModes_cool (r : Mode) (f : Bool) (d : Door) (e : Mode) : (s.setModes r f d e).cool = s.cool := rfl
@[simp] theorem State.setModes_health (r : Mode) (f : Bool) (d : Door) (e : Mode) : (s.setModes r f d e).health = s.health := rfl
@[simp] theorem State.setModes_line (r : Mode) (f : Bool) (d : Door) (e : Mode) : (s.setModes r f d e).line = s.line := rfl
@[simp] theorem State.setModes_port (r : Mode) (f : Bool) (d : Door) (e : Mode) : (s.setModes r f d e).port = s.port := rfl
@[simp] theorem State.setModes_mode (r : Mode) (f : Bool) (d : Door) (e : Mode) : (s.setModes r f d e).mode = { requested := r, fill := f, door := d, effective := e } := rfl
@[simp] theorem State.setModes_settings (r : Mode) (f : Bool) (d : Door) (e : Mode) : (s.setModes r f d e).settings = s.settings := rfl
@[simp] theorem State.setModes_cutShort (r : Mode) (f : Bool) (d : Door) (e : Mode) : (s.setModes r f d e).cutShort = s.cutShort := rfl
@[simp] theorem State.setModes_pending (r : Mode) (f : Bool) (d : Door) (e : Mode) : (s.setModes r f d e).pending = s.pending := rfl

end Sys2Proof.Machine
end

