-- ==== Sys2Proof/Laws/Ops.lean ====
section
/-! SUPPORT. What each shared operation can do: the blocks it leaves as they are, how the port and the line queue
may change, and the sums the ledger's operations keep. -/

namespace Sys2Proof.Machine

/-! ### How the port grows -/

/-- Reports join behind what the port holds, and STATUS_LOST may be flagged; nothing else changes (R191, R179). -/
structure PortGrows (p q : Port) : Prop where
  slot : q.slot = p.slot
  sending : q.sending = p.sending
  reports : ∃ more, q.reports = p.reports ++ more
  conditions : q.conditions = p.conditions ∨ q.conditions = p.conditions.flag .statusLost

theorem PortGrows.refl (p : Port) : PortGrows p p := ⟨rfl, rfl, ⟨[], by simp⟩, .inl rfl⟩

theorem Conditions.flag_twice (c : Conditions) (x : Condition) : (c.flag x).flag x = c.flag x := by
  cases x <;> rfl

theorem PortGrows.trans {p q r : Port} (h : PortGrows p q) (k : PortGrows q r) : PortGrows p r := by
  obtain ⟨m, hm⟩ := h.reports
  obtain ⟨n, hn⟩ := k.reports
  refine ⟨k.slot.trans h.slot, k.sending.trans h.sending, ⟨m ++ n, by rw [hn, hm, List.append_assoc]⟩, ?_⟩
  rcases h.conditions with h1 | h1 <;> rcases k.conditions with k1 | k1
  · exact .inl (k1.trans h1)
  · exact .inr (by rw [k1, h1])
  · exact .inr (k1.trans h1)
  · exact .inr (by rw [k1, h1, Conditions.flag_twice])

/-! ### Reports -/

/-- `t` is `s` but for the port. -/
def PortOnly (s t : State) : Prop := t = s.setPort t.port

theorem State.flag_eq (s : State) (c : Condition) : PortOnly s (s.flag c) := rfl

theorem State.answer_eq (s : State) (k : ReqKind) (c : ResultCode) (d : AnswerData) : PortOnly s (s.answer k c d) := rfl

theorem State.pushReport_eq (s : State) (r : Report) : PortOnly s (s.pushReport r) := rfl

theorem State.mustJoin_eq (s : State) (r : Report) : PortOnly s (s.mustJoin r) := by
  unfold State.mustJoin
  split
  · rfl
  · split
    · rfl
    · split <;> rfl

theorem State.report_eq (s : State) (r : Report) : PortOnly s (s.report r) := by
  unfold State.report
  split
  · split <;> rfl
  · exact s.mustJoin_eq r

theorem State.coinIn_eq (s : State) (f : Bool) (c : CoinId) (d : Route) : PortOnly s (s.coinIn f c d) := by
  unfold State.coinIn
  split
  · rfl
  · exact s.report_eq _

/-- A status report that is no SALE_ASK only joins, where the reserve is open (R191). -/
theorem State.report_grows (s : State) (r : Report) (h : r.removable = true) :
    PortGrows s.port (s.report r).port := by
  unfold State.report
  rw [if_pos h]
  split
  · exact ⟨rfl, rfl, ⟨[r], rfl⟩, .inl rfl⟩
  · exact ⟨rfl, rfl, ⟨[], by simp [State.flag]⟩, .inr rfl⟩

end Sys2Proof.Machine
end

