-- ==== Sys2Proof/Laws/Links.lean ====
section
/-! SUPPORT. What follows an event taken whole, and what ends a step, touches the two links and the acceptance set
alone: the frame every claim about a command rests on. -/

namespace Sys2Proof.Machine

/-! ### The frame composes -/

theorem LinksOnly.refl (s : State) : LinksOnly s s where
  now := rfl
  pins := rfl
  coins := rfl
  bills := rfl
  tubes := rfl
  routing := rfl
  escrow := rfl
  ledger := rfl
  card := rfl
  payout := rfl
  map := rfl
  drive := rfl
  sale := rfl
  lastNumber := rfl
  pendingReturn := rfl
  load := rfl
  cool := rfl
  health := rfl
  mode := rfl
  settings := rfl
  cutShort := rfl
  pending := rfl
  lastRelay := rfl
  restartDue := rfl
  stations := fun _ => rfl
  outstanding := fun _ => .inl rfl
  queue := fun _ h => .inl h
  busy := fun _ => ⟨rfl, rfl⟩
  money := fun _ _ h _ => h
  frames := ⟨[], by simp⟩
  conditions := .inl rfl

theorem LinksOnly.trans {s t u : State} (h : LinksOnly s t) (k : LinksOnly t u) : LinksOnly s u where
  now := k.now.trans h.now
  pins := k.pins.trans h.pins
  coins := k.coins.trans h.coins
  bills := k.bills.trans h.bills
  tubes := k.tubes.trans h.tubes
  routing := k.routing.trans h.routing
  escrow := k.escrow.trans h.escrow
  ledger := k.ledger.trans h.ledger
  card := k.card.trans h.card
  payout := k.payout.trans h.payout
  map := k.map.trans h.map
  drive := k.drive.trans h.drive
  sale := k.sale.trans h.sale
  lastNumber := k.lastNumber.trans h.lastNumber
  pendingReturn := k.pendingReturn.trans h.pendingReturn
  load := k.load.trans h.load
  cool := k.cool.trans h.cool
  health := k.health.trans h.health
  mode := k.mode.trans h.mode
  settings := k.settings.trans h.settings
  cutShort := k.cutShort.trans h.cutShort
  pending := k.pending.trans h.pending
  lastRelay := k.lastRelay.trans h.lastRelay
  restartDue := k.restartDue.trans h.restartDue
  stations := fun st => by rw [k.stations st, h.stations st]
  outstanding := fun st => by
    rcases h.outstanding st with ht | ⟨hn, x, hx, hs, ho⟩
    · rcases k.outstanding st with hu | ⟨hn, hx⟩
      · exact .inl (hu.trans ht)
      · exact .inr ⟨ht.symm.trans hn, hx⟩
    · obtain ⟨hp, hr⟩ := k.busy (by rw [hx]; exact nofun)
      exact .inr ⟨hn, x, hp.trans hx, hs, by rw [hr]; exact ho⟩
  queue := fun e he => by
    rcases k.queue e he with ht | hs
    · exact h.queue e ht
    · exact .inr hs
  busy := fun b => by
    obtain ⟨p1, r1⟩ := h.busy b
    obtain ⟨p2, r2⟩ := k.busy (p1 ▸ b)
    exact ⟨p2.trans p1, r2.trans r1⟩
  money := fun b e he hc => k.money ((h.busy b).1 ▸ b) e (h.money b e he hc) hc
  frames := by
    obtain ⟨m, hm⟩ := h.frames
    obtain ⟨n, hn⟩ := k.frames
    exact ⟨m ++ n, by rw [hn, hm, List.map_append, List.append_assoc]⟩
  conditions := by
    rcases h.conditions with h1 | h1 <;> rcases k.conditions with k1 | k1
    · exact .inl (k1.trans h1)
    · exact .inr (by rw [k1, h1])
    · exact .inr (k1.trans h1)
    · exact .inr (by rw [k1, h1, Conditions.flag_twice])

/-! ### Its pieces -/

/-- A port that grows is the links' own doing. -/
theorem LinksOnly.ofPort (s : State) (p : Port) (h : PortGrows s.port p) : LinksOnly s (s.setPort p) :=
  { LinksOnly.refl s with
    frames := by
      obtain ⟨m, hm⟩ := h.reports
      exact ⟨m, by simp [State.outLine, State.setPort, h.slot, h.sending, hm]⟩
    conditions := h.conditions }

theorem LinksOnly.report (s : State) (r : Report) (h : r.removable = true) : LinksOnly s (s.report r) := by
  rw [s.report_eq r]
  exact .ofPort s _ (s.report_grows r h)

theorem LinksOnly.discarded (s : State) (st : StationId) (r : LineRequest) (b : Bool) (c : DiscardCause) :
    LinksOnly s (s.discarded st r b c) := .report s _ rfl

theorem LinksOnly.stationReport (s : State) (st : StationId) (c : StationCause) (d : StationDetail) :
    LinksOnly s (s.stationReport st c d) := .report s _ rfl

/-- A queue that keeps its MONEY entries, and takes none but ADMIT, STEER and SHOW entries. -/
theorem LinksOnly.ofQueue (s : State) (q : List QueueEntry)
    (h : ∀ e ∈ s.line.queue, e.request.kind.cls = .money → e ∈ q)
    (k : ∀ e ∈ q, e ∈ s.line.queue ∨ e.request.kind.single = true) : LinksOnly s (s.setQueue q) :=
  { LinksOnly.refl s with queue := k, money := fun _ => h }

theorem LinksOnly.ofSet (s : State) (a b : AdmitSet) :
    LinksOnly s (s.setCash { s.cash with acceptance := a, handed := b }) :=
  { LinksOnly.refl s with }

theorem LinksOnly.ofShow (s : State) (m : ShowCode × Nat) :
    LinksOnly s (s.setSale { s.sale with lastShow := m }) :=
  { LinksOnly.refl s with }

/-- Rewriting for a kind of which a station has one entry takes no MONEY entry away (R173). -/
theorem rewriteEntry_money {st : StationId} {r : LineRequest} (hr : r.kind.single = true) :
    ∀ {q q' : List QueueEntry}, rewriteEntry st r q = some q' →
      ∀ e ∈ q, e.request.kind.cls = .money → e ∈ q'
  | [], _, h => by simp [rewriteEntry] at h
  | x :: xs, q', h => by
    intro e he hc
    unfold rewriteEntry at h
    split at h
    · rename_i hx
      injection h with h
      subst h
      rcases List.mem_cons.mp he with rfl | he
      · obtain ⟨-, hw⟩ := hx
        revert hw hr hc
        cases r.kind <;> cases e.request.kind <;> simp [LineKind.single, LineKind.rewrites, LineKind.cls]
      · exact List.mem_cons_of_mem _ he
    · obtain ⟨q1, h1, rfl⟩ := Option.map_eq_some_iff.mp h
      rcases List.mem_cons.mp he with rfl | he
      · exact List.mem_cons_self
      · exact List.mem_cons_of_mem _ (rewriteEntry_money hr h1 e he hc)

/-- Rewriting puts the frame handed in an entry's place and touches no other (R173). -/
theorem rewriteEntry_mem {st : StationId} {r : LineRequest} : ∀ {q q' : List QueueEntry},
    rewriteEntry st r q = some q' → ∀ e ∈ q', e ∈ q ∨ e.request = r
  | [], _, h => by simp [rewriteEntry] at h
  | x :: xs, q', h => by
    intro e he
    unfold rewriteEntry at h
    split at h
    · injection h with h
      subst h
      rcases List.mem_cons.mp he with rfl | he
      · exact .inr rfl
      · exact .inl (List.mem_cons_of_mem _ he)
    · obtain ⟨q1, h1, rfl⟩ := Option.map_eq_some_iff.mp h
      rcases List.mem_cons.mp he with rfl | he
      · exact .inl List.mem_cons_self
      · exact (rewriteEntry_mem h1 e he).imp_left (List.mem_cons_of_mem _)

/-- Making room adds nothing (R173). -/
theorem dropNewestRelay_mem : ∀ {q : List QueueEntry} {p : QueueEntry × List QueueEntry},
    dropNewestRelay q = some p → ∀ e ∈ p.2, e ∈ q
  | [], _, h => by simp [dropNewestRelay] at h
  | x :: xs, p, h => by
    intro e he
    unfold dropNewestRelay at h
    split at h
    · rename_i p1 h1
      injection h with h
      subst h
      rcases List.mem_cons.mp he with rfl | he
      · exact List.mem_cons_self
      · exact List.mem_cons_of_mem _ (dropNewestRelay_mem h1 e he)
    · split at h
      · injection h with h
        subst h
        exact List.mem_cons_of_mem _ he
      · cases h

/-- Sending an entry adds nothing to the queue (R172). -/
theorem takeEntry_mem {f : QueueEntry → Bool} : ∀ {q : List QueueEntry} {p : QueueEntry × List QueueEntry},
    takeEntry f q = some p → ∀ e ∈ p.2, e ∈ q
  | [], _, h => by simp [takeEntry] at h
  | x :: xs, p, h => by
    intro e he
    unfold takeEntry at h
    split at h
    · injection h with h
      subst h
      exact List.mem_cons_of_mem _ he
    · obtain ⟨p1, h1, rfl⟩ := Option.map_eq_some_iff.mp h
      rcases List.mem_cons.mp he with rfl | he
      · exact List.mem_cons_self
      · exact List.mem_cons_of_mem _ (takeEntry_mem h1 e he)

/-- The entry sent passes the test (R172). -/
theorem takeEntry_passes {f : QueueEntry → Bool} : ∀ {q : List QueueEntry} {p : QueueEntry × List QueueEntry},
    takeEntry f q = some p → f p.1 = true
  | [], _, h => by simp [takeEntry] at h
  | x :: xs, p, h => by
    unfold takeEntry at h
    split at h
    · injection h with h
      subst h
      assumption
    · obtain ⟨p1, h1, rfl⟩ := Option.map_eq_some_iff.mp h
      exact takeEntry_passes (p := p1) h1

/-- What a command slot sends is for a station without an outstanding request, and the queue loses it alone (R172). -/
theorem State.commandEntry_spec {s : State} {p : QueueEntry × List QueueEntry} (h : s.commandEntry = some p) :
    (s.line.stations[p.1.station]).outstanding = none ∧ ∀ e ∈ p.2, e ∈ s.line.queue := by
  have key : ∀ c : FrameClass,
      takeEntry (fun e => decide (e.request.kind.cls = c) && s.sendable e) s.line.queue = some p →
        (s.line.stations[p.1.station]).outstanding = none ∧ ∀ e ∈ p.2, e ∈ s.line.queue := by
    intro c hc
    have hp := takeEntry_passes hc
    simp only [Bool.and_eq_true, State.sendable, Option.isNone_iff_eq_none] at hp
    exact ⟨hp.2.2, takeEntry_mem hc⟩
  unfold State.commandEntry at h
  dsimp only at h
  rcases Option.or_eq_some_iff.mp h with h | ⟨-, h⟩
  · rcases Option.or_eq_some_iff.mp h with h | ⟨-, h⟩
    · exact key _ h
    · exact key _ h
  · exact key _ h

/-- Making room drops relay entries alone (R173). -/
theorem dropNewestRelay_money : ∀ {q : List QueueEntry} {p : QueueEntry × List QueueEntry},
    dropNewestRelay q = some p → ∀ e ∈ q, e.request.kind.cls = .money → e ∈ p.2
  | [], _, h => by simp [dropNewestRelay] at h
  | x :: xs, p, h => by
    intro e he hc
    unfold dropNewestRelay at h
    split at h
    · rename_i p1 h1
      injection h with h
      subst h
      rcases List.mem_cons.mp he with rfl | he
      · exact List.mem_cons_self
      · exact List.mem_cons_of_mem _ (dropNewestRelay_money h1 e he hc)
    · split at h
      · rename_i hx
        injection h with h
        subst h
        rcases List.mem_cons.mp he with rfl | he
        · revert hx hc
          unfold QueueEntry.isRelay
          cases e.request.kind <;> simp [LineKind.isRelayed, LineKind.cls]
        · exact he
      · cases h

/-- Handing an ADMIT, STEER or SHOW (R173). -/
theorem LinksOnly.hand (s : State) (st : StationId) (r : LineRequest) (hr : r.kind.single = true) :
    LinksOnly s (s.hand st r) := by
  have hstale : s.dropStaleAsk st r = s := by
    unfold State.dropStaleAsk
    split
    · rename_i h
      subst h
      simp [chargeEndRequest, LineRequest.with, LineKind.single] at hr
    · rfl
  have joined {q : List QueueEntry} (h : ∀ e ∈ q, e ∈ s.line.queue) :
      ∀ e ∈ q ++ [{ station := st, request := r }], e ∈ s.line.queue ∨ e.request.kind.single = true := by
    intro e he
    rcases List.mem_append.mp he with he | he
    · exact .inl (h e he)
    · rw [List.mem_singleton.mp he]
      exact .inr hr
  unfold State.hand State.handFrame
  split
  · simp only [hstale]
    split
    · rename_i q hq
      exact .ofQueue s q (rewriteEntry_money hr hq) fun e he =>
        (rewriteEntry_mem hq e he).imp_right fun h => by rw [h]; exact hr
    · unfold State.joinQueue
      split
      · exact .ofQueue s _ (fun e he _ => List.mem_append_left _ he) (joined fun _ => id)
      · split
        · rename_i old q hq
          refine LinksOnly.trans ?_ (.discarded _ _ _ _ _)
          exact .ofQueue s _ (fun e he hc => List.mem_append_left _ (dropNewestRelay_money hq e he hc))
            (joined (dropNewestRelay_mem hq))
        · exact .stationReport _ _ _ _
  · exact .refl s

theorem LinksOnly.show (s : State) (c : ShowCode) (n : Nat) : LinksOnly s (s.show c n) :=
  (LinksOnly.ofShow s (c, n)).trans (.hand _ _ _ rfl)

theorem LinksOnly.handPart (s : State) (st : StationId) : LinksOnly s (s.handPart st) := by
  unfold State.handPart
  split
  · exact (LinksOnly.ofSet s _ _).trans (.hand _ _ _ rfl)
  · exact .refl s

theorem LinksOnly.recomputeSet (s : State) : LinksOnly s s.recomputeSet := by
  have h : LinksOnly s (s.setCash { s.cash with acceptance := acceptSet s }) := { LinksOnly.refl s with }
  exact ((h.trans (.handPart _ _)).trans (.handPart _ _)).trans (.handPart _ _)

theorem LinksOnly.refreshSet (s : State) : LinksOnly s s.refreshSet :=
  (LinksOnly.recomputeSet s).trans (.recomputeSet _)

theorem LinksOnly.creditEnd (s before : State) : LinksOnly s (s.creditEnd before) := by
  unfold State.creditEnd
  split
  · exact .refl s
  · exact .report _ _ rfl

theorem LinksOnly.panelEnd (s before : State) : LinksOnly s (s.panelEnd before) := by
  unfold State.panelEnd
  split
  · exact .show _ _ _
  · exact .refl s

/-- What follows an event taken whole (R31, R110, R37). -/
theorem LinksOnly.eventEnd (s before : State) : LinksOnly s (s.eventEnd before) :=
  ((LinksOnly.creditEnd s before).trans (.panelEnd _ _)).trans (.refreshSet _)

theorem LinksOnly.transmit (s : State) : LinksOnly s s.transmit := by
  unfold State.transmit
  split
  · exact .refl s
  · rename_i h
    have hs : s.port.sending = none := by
      cases hx : s.port.sending with
      | none => rfl
      | some _ => simp [hx] at h
    split
    · rename_i a ha
      exact { LinksOnly.refl s with
        frames := ⟨[], by simp [State.outLine, State.setPort, hs, ha]⟩
        conditions := .inl rfl }
    · rename_i hslot
      split
      · rename_i r rs hr
        exact { LinksOnly.refl s with
          frames := ⟨[], by simp [State.outLine, State.setPort, hs, hslot, hr]⟩
          conditions := .inl rfl }
      · exact .refl s

/-- Sending a request changes its station's outstanding request alone, where the line is IDLE (R168); the request is a
JOIN, the outstanding one again, or a new one where none is. -/
theorem LinksOnly.send (s : State) (st : StationId) (r : LineRequest) (hi : s.line.phase = .idle)
    (ho : r.kind = .join ∨ ∀ q, (s.line.stations[st]).outstanding = some q → r = q) : LinksOnly s (s.send st r) := by
  by_cases hk : r.kind = .join
  · rw [State.send]
    dsimp only
    rw [if_pos hk]
    exact { LinksOnly.refl s with
      outstanding := fun _ => .inl rfl
      busy := fun h => absurd hi h
      money := fun h => absurd hi h }
  · rw [State.send]
    dsimp only
    rw [if_neg hk]
    exact { LinksOnly.refl s with
      stations := fun i => by
        by_cases h : st = i
        · subst h
          simp
        · have : st.val ≠ i.val := fun hc => h (Fin.ext hc)
          simp [this]
      outstanding := fun i => by
        by_cases h : st = i
        · subst h
          cases hq : (s.line.stations[st]).outstanding with
          | none => exact .inr ⟨rfl, _, rfl, rfl, by simp⟩
          | some q => exact .inl (by simpa using (ho.resolve_left hk) q hq)
        · have : st.val ≠ i.val := fun hc => h (Fin.ext hc)
          exact .inl (by simp [this])
      busy := fun h => absurd hi h
      money := fun h => absurd hi h }

/-- The line's own fields but the stations, where it is IDLE. -/
theorem LinksOnly.ofLine (s : State) (l : Line) (hi : s.line.phase = .idle) (h1 : l.lastRelay = s.line.lastRelay)
    (h2 : l.restartDue = s.line.restartDue) (h3 : l.stations = s.line.stations)
    (h4 : ∀ e ∈ l.queue, e ∈ s.line.queue) : LinksOnly s (s.setLine l) :=
  { LinksOnly.refl s with
    lastRelay := h1
    restartDue := h2
    stations := fun st => by simp [State.setLine, h3]
    outstanding := fun st => .inl (by simp [State.setLine, h3])
    queue := fun e he => .inl (h4 e he)
    busy := fun h => absurd hi h
    money := fun h => absurd hi h }

theorem LinksOnly.pollSlot (s : State) (hi : s.line.phase = .idle) : LinksOnly s s.pollSlot := by
  have h1 : LinksOnly s (s.setLine { s.line with nextSlot := .command }) := .ofLine s _ hi rfl rfl rfl fun _ => id
  unfold State.pollSlot
  dsimp only
  split
  · exact h1.trans (.send _ _ _ (by exact hi) (.inl rfl))
  · split
    · refine LinksOnly.trans ?_ (.send _ _ _ (by exact hi) (.inr fun q hq => ?_))
      · exact h1.trans (.ofLine _ _ hi rfl rfl rfl fun _ => id)
      · rw [State.setLine_line] at hq
        rw [hq]
        rfl
    · exact h1.trans (.ofLine _ _ hi rfl rfl rfl fun _ => id)

theorem LinksOnly.beginSlot (s : State) : LinksOnly s s.beginSlot := by
  unfold State.beginSlot
  split
  · rename_i h
    split
    · exact .pollSlot s h.1
    · split
      · rename_i p hp
        obtain ⟨hn, hq⟩ := State.commandEntry_spec hp
        refine LinksOnly.trans ?_ (.send _ _ _ (by exact h.1) (.inr fun q hs => ?_))
        · exact .ofLine s _ h.1 rfl rfl rfl hq
        · rw [State.setLine_line] at hs
          rw [hn] at hs
          cases hs
      · exact .pollSlot s h.1
  · exact .refl s

/-- What ends a step (R181, R172). -/
theorem LinksOnly.stepEnd (s : State) : LinksOnly s s.stepEnd :=
  (((LinksOnly.transmit s).trans (.refreshSet _)).trans (.transmit _)).trans (.beginSlot _)

/-- What stands behind an event's own effect. -/
theorem LinksOnly.ends (s before : State) : LinksOnly s (s.eventEnd before).stepEnd :=
  (LinksOnly.eventEnd s before).trans (.stepEnd _)

/-! ### The port and the ANSWER -/

theorem State.hand_grows (s : State) (st : StationId) (r : LineRequest) : PortGrows s.port (s.hand st r).port := by
  have hs : (s.dropStaleAsk st r).port = s.port := by
    unfold State.dropStaleAsk
    split <;> rfl
  unfold State.hand State.handFrame
  split
  · dsimp only
    split
    · dsimp only
      rw [State.setQueue_port, hs]
      exact .refl _
    · unfold State.joinQueue
      split
      · dsimp only
        rw [State.setQueue_port, hs]
        exact .refl _
      · split
        · have h := State.report_grows ((s.dropStaleAsk st r).setQueue ?_) ?_ ?_
          rw [State.setQueue_port, hs] at h
          exact h
          rfl
        · have h := State.report_grows (s.dropStaleAsk st r) ?_ ?_
          rw [hs] at h
          exact h
          rfl
  · exact .refl _

theorem State.report_slot (s : State) (r : Report) : (s.report r).port.slot = s.port.slot := by
  unfold State.report State.mustJoin
  split
  · split <;> rfl
  · split
    · rfl
    · split
      · rfl
      · split <;> rfl

theorem State.report_sending (s : State) (r : Report) : (s.report r).port.sending = s.port.sending := by
  unfold State.report State.mustJoin
  split
  · split <;> rfl
  · split
    · rfl
    · split
      · rfl
      · split <;> rfl

theorem State.show_grows (s : State) (c : ShowCode) (n : Nat) : PortGrows s.port (s.show c n).port := by
  have h := State.hand_grows (s.setSale { s.sale with lastShow := (c, n) }) panel (showRequest (c, n))
  rw [State.setSale_port] at h
  exact h

theorem State.handPart_grows (s : State) (st : StationId) : PortGrows s.port (s.handPart st).port := by
  unfold State.handPart
  split
  · have h := State.hand_grows
      (s.setCash { s.cash with handed := s.cash.handed.withPart s.cash.acceptance st }) st
      (admitRequest s.cash.acceptance st)
    rw [State.setCash_port] at h
    exact h
  · exact .refl _

theorem State.recomputeSet_grows (s : State) : PortGrows s.port s.recomputeSet.port :=
  ((State.handPart_grows (s.setCash { s.cash with acceptance := acceptSet s }) coinMech).trans
    (State.handPart_grows _ _)).trans (State.handPart_grows _ _)

theorem State.refreshSet_grows (s : State) : PortGrows s.port s.refreshSet.port :=
  (State.recomputeSet_grows s).trans (State.recomputeSet_grows _)

theorem State.eventEnd_grows (s before : State) : PortGrows s.port (s.eventEnd before).port := by
  have h1 : PortGrows s.port (s.creditEnd before).port := by
    unfold State.creditEnd
    split
    · exact .refl _
    · exact State.report_grows _ _ rfl
  have h2 : PortGrows (s.creditEnd before).port ((s.creditEnd before).panelEnd before).port := by
    generalize s.creditEnd before = u
    unfold State.panelEnd
    split
    · have h := State.hand_grows (u.setSale { u.sale with lastShow := (.credit, u.funds) }) panel
        (showRequest (.credit, u.funds))
      rw [State.setSale_port] at h
      exact h
    · exact .refl _
  exact (h1.trans h2).trans (State.refreshSet_grows _)

theorem State.send_port (s : State) (st : StationId) (r : LineRequest) : (s.send st r).port = s.port := by
  unfold State.send
  dsimp only
  split <;> rfl

theorem State.pollSlot_port (s : State) : s.pollSlot.port = s.port := by
  unfold State.pollSlot
  dsimp only
  split
  · exact State.send_port _ _ _
  · split
    · exact State.send_port _ _ _
    · rfl

theorem State.beginSlot_port (s : State) : s.beginSlot.port = s.port := by
  unfold State.beginSlot
  split
  · split
    · exact s.pollSlot_port
    · split
      · exact State.send_port _ _ _
      · exact s.pollSlot_port
  · rfl

/-- The ANSWER in the slot stays the newest: it waits there, or the transmitter has begun it (R181). -/
theorem State.transmit_answer (s : State) (a : Answer)
    (h : s.port.slot = some a ∨ (s.port.slot = none ∧ s.port.sending = some (.answer a))) :
    s.transmit.port.slot = some a ∨ (s.transmit.port.slot = none ∧ s.transmit.port.sending = some (.answer a)) := by
  unfold State.transmit
  split
  · exact h
  · rename_i hb
    rcases h with h | ⟨h1, h2⟩
    · simp [h]
    · simp [h2] at hb

theorem State.ends_newestAnswer (s before : State) (a : Answer) (h : s.port.slot = some a) :
    (s.eventEnd before).stepEnd.newestAnswer = some a := by
  have h1 : (s.eventEnd before).port.slot = some a := (s.eventEnd_grows before).slot.trans h
  have h2 := State.transmit_answer _ a (.inl h1)
  have hg := State.refreshSet_grows (s.eventEnd before).transmit
  have h3 := State.transmit_answer (s.eventEnd before).transmit.refreshSet a (by rw [hg.slot, hg.sending]; exact h2)
  unfold State.newestAnswer State.stepEnd
  rw [State.beginSlot_port]
  rcases h3 with h3 | ⟨h3, h4⟩
  · simp [h3]
  · simp [h3, h4]

/-- A command that is one event answers a next state, and the links alone follow the event's own effect. -/
theorem finish_links (before : State) (o : Out) :
    ∃ t, finish before o = .next t ∧ LinksOnly (runOut o) t :=
  ⟨_, rfl, .ends _ _⟩

end Sys2Proof.Machine
end

