-- ==== Sys2Proof/Laws/Fields.lean ====
section
/-! SUPPORT. What a read of one block gives after a shared operation that leaves the block as it is. -/

namespace Sys2Proof.Machine

variable (s : State)

/-! ### `State.flag` -/

@[simp] theorem State.flag_now (c : Condition) : (s.flag c).now = s.now := by
  rw [s.flag_eq c]; rfl
@[simp] theorem State.flag_pins (c : Condition) : (s.flag c).pins = s.pins := by
  rw [s.flag_eq c]; rfl
@[simp] theorem State.flag_cash (c : Condition) : (s.flag c).cash = s.cash := by
  rw [s.flag_eq c]; rfl
@[simp] theorem State.flag_ledger (c : Condition) : (s.flag c).ledger = s.ledger := by
  rw [s.flag_eq c]; rfl
@[simp] theorem State.flag_card (c : Condition) : (s.flag c).card = s.card := by
  rw [s.flag_eq c]; rfl
@[simp] theorem State.flag_payout (c : Condition) : (s.flag c).payout = s.payout := by
  rw [s.flag_eq c]; rfl
@[simp] theorem State.flag_map (c : Condition) : (s.flag c).map = s.map := by
  rw [s.flag_eq c]; rfl
@[simp] theorem State.flag_drive (c : Condition) : (s.flag c).drive = s.drive := by
  rw [s.flag_eq c]; rfl
@[simp] theorem State.flag_sale (c : Condition) : (s.flag c).sale = s.sale := by
  rw [s.flag_eq c]; rfl
@[simp] theorem State.flag_load (c : Condition) : (s.flag c).load = s.load := by
  rw [s.flag_eq c]; rfl
@[simp] theorem State.flag_cool (c : Condition) : (s.flag c).cool = s.cool := by
  rw [s.flag_eq c]; rfl
@[simp] theorem State.flag_health (c : Condition) : (s.flag c).health = s.health := by
  rw [s.flag_eq c]; rfl
@[simp] theorem State.flag_line (c : Condition) : (s.flag c).line = s.line := by
  rw [s.flag_eq c]; rfl
@[simp] theorem State.flag_mode (c : Condition) : (s.flag c).mode = s.mode := by
  rw [s.flag_eq c]; rfl
@[simp] theorem State.flag_settings (c : Condition) : (s.flag c).settings = s.settings := by
  rw [s.flag_eq c]; rfl
@[simp] theorem State.flag_cutShort (c : Condition) : (s.flag c).cutShort = s.cutShort := by
  rw [s.flag_eq c]; rfl
@[simp] theorem State.flag_pending (c : Condition) : (s.flag c).pending = s.pending := by
  rw [s.flag_eq c]; rfl

/-! ### `State.answer` -/

@[simp] theorem State.answer_now (k : ReqKind) (c : ResultCode) (d : AnswerData) : (s.answer k c d).now = s.now := by
  rw [s.answer_eq k c d]; rfl
@[simp] theorem State.answer_pins (k : ReqKind) (c : ResultCode) (d : AnswerData) : (s.answer k c d).pins = s.pins := by
  rw [s.answer_eq k c d]; rfl
@[simp] theorem State.answer_cash (k : ReqKind) (c : ResultCode) (d : AnswerData) : (s.answer k c d).cash = s.cash := by
  rw [s.answer_eq k c d]; rfl
@[simp] theorem State.answer_ledger (k : ReqKind) (c : ResultCode) (d : AnswerData) : (s.answer k c d).ledger = s.ledger := by
  rw [s.answer_eq k c d]; rfl
@[simp] theorem State.answer_card (k : ReqKind) (c : ResultCode) (d : AnswerData) : (s.answer k c d).card = s.card := by
  rw [s.answer_eq k c d]; rfl
@[simp] theorem State.answer_payout (k : ReqKind) (c : ResultCode) (d : AnswerData) : (s.answer k c d).payout = s.payout := by
  rw [s.answer_eq k c d]; rfl
@[simp] theorem State.answer_map (k : ReqKind) (c : ResultCode) (d : AnswerData) : (s.answer k c d).map = s.map := by
  rw [s.answer_eq k c d]; rfl
@[simp] theorem State.answer_drive (k : ReqKind) (c : ResultCode) (d : AnswerData) : (s.answer k c d).drive = s.drive := by
  rw [s.answer_eq k c d]; rfl
@[simp] theorem State.answer_sale (k : ReqKind) (c : ResultCode) (d : AnswerData) : (s.answer k c d).sale = s.sale := by
  rw [s.answer_eq k c d]; rfl
@[simp] theorem State.answer_load (k : ReqKind) (c : ResultCode) (d : AnswerData) : (s.answer k c d).load = s.load := by
  rw [s.answer_eq k c d]; rfl
@[simp] theorem State.answer_cool (k : ReqKind) (c : ResultCode) (d : AnswerData) : (s.answer k c d).cool = s.cool := by
  rw [s.answer_eq k c d]; rfl
@[simp] theorem State.answer_health (k : ReqKind) (c : ResultCode) (d : AnswerData) : (s.answer k c d).health = s.health := by
  rw [s.answer_eq k c d]; rfl
@[simp] theorem State.answer_line (k : ReqKind) (c : ResultCode) (d : AnswerData) : (s.answer k c d).line = s.line := by
  rw [s.answer_eq k c d]; rfl
@[simp] theorem State.answer_mode (k : ReqKind) (c : ResultCode) (d : AnswerData) : (s.answer k c d).mode = s.mode := by
  rw [s.answer_eq k c d]; rfl
@[simp] theorem State.answer_settings (k : ReqKind) (c : ResultCode) (d : AnswerData) : (s.answer k c d).settings = s.settings := by
  rw [s.answer_eq k c d]; rfl
@[simp] theorem State.answer_cutShort (k : ReqKind) (c : ResultCode) (d : AnswerData) : (s.answer k c d).cutShort = s.cutShort := by
  rw [s.answer_eq k c d]; rfl
@[simp] theorem State.answer_pending (k : ReqKind) (c : ResultCode) (d : AnswerData) : (s.answer k c d).pending = s.pending := by
  rw [s.answer_eq k c d]; rfl

/-! ### `State.report` -/

@[simp] theorem State.report_now (r : Report) : (s.report r).now = s.now := by
  rw [s.report_eq r]; rfl
@[simp] theorem State.report_pins (r : Report) : (s.report r).pins = s.pins := by
  rw [s.report_eq r]; rfl
@[simp] theorem State.report_cash (r : Report) : (s.report r).cash = s.cash := by
  rw [s.report_eq r]; rfl
@[simp] theorem State.report_ledger (r : Report) : (s.report r).ledger = s.ledger := by
  rw [s.report_eq r]; rfl
@[simp] theorem State.report_card (r : Report) : (s.report r).card = s.card := by
  rw [s.report_eq r]; rfl
@[simp] theorem State.report_payout (r : Report) : (s.report r).payout = s.payout := by
  rw [s.report_eq r]; rfl
@[simp] theorem State.report_map (r : Report) : (s.report r).map = s.map := by
  rw [s.report_eq r]; rfl
@[simp] theorem State.report_drive (r : Report) : (s.report r).drive = s.drive := by
  rw [s.report_eq r]; rfl
@[simp] theorem State.report_sale (r : Report) : (s.report r).sale = s.sale := by
  rw [s.report_eq r]; rfl
@[simp] theorem State.report_load (r : Report) : (s.report r).load = s.load := by
  rw [s.report_eq r]; rfl
@[simp] theorem State.report_cool (r : Report) : (s.report r).cool = s.cool := by
  rw [s.report_eq r]; rfl
@[simp] theorem State.report_health (r : Report) : (s.report r).health = s.health := by
  rw [s.report_eq r]; rfl
@[simp] theorem State.report_line (r : Report) : (s.report r).line = s.line := by
  rw [s.report_eq r]; rfl
@[simp] theorem State.report_mode (r : Report) : (s.report r).mode = s.mode := by
  rw [s.report_eq r]; rfl
@[simp] theorem State.report_settings (r : Report) : (s.report r).settings = s.settings := by
  rw [s.report_eq r]; rfl
@[simp] theorem State.report_cutShort (r : Report) : (s.report r).cutShort = s.cutShort := by
  rw [s.report_eq r]; rfl
@[simp] theorem State.report_pending (r : Report) : (s.report r).pending = s.pending := by
  rw [s.report_eq r]; rfl

/-! ### `State.coinIn` -/

@[simp] theorem State.coinIn_now (f : Bool) (c : CoinId) (d : Route) : (s.coinIn f c d).now = s.now := by
  rw [s.coinIn_eq f c d]; rfl
@[simp] theorem State.coinIn_pins (f : Bool) (c : CoinId) (d : Route) : (s.coinIn f c d).pins = s.pins := by
  rw [s.coinIn_eq f c d]; rfl
@[simp] theorem State.coinIn_cash (f : Bool) (c : CoinId) (d : Route) : (s.coinIn f c d).cash = s.cash := by
  rw [s.coinIn_eq f c d]; rfl
@[simp] theorem State.coinIn_ledger (f : Bool) (c : CoinId) (d : Route) : (s.coinIn f c d).ledger = s.ledger := by
  rw [s.coinIn_eq f c d]; rfl
@[simp] theorem State.coinIn_card (f : Bool) (c : CoinId) (d : Route) : (s.coinIn f c d).card = s.card := by
  rw [s.coinIn_eq f c d]; rfl
@[simp] theorem State.coinIn_payout (f : Bool) (c : CoinId) (d : Route) : (s.coinIn f c d).payout = s.payout := by
  rw [s.coinIn_eq f c d]; rfl
@[simp] theorem State.coinIn_map (f : Bool) (c : CoinId) (d : Route) : (s.coinIn f c d).map = s.map := by
  rw [s.coinIn_eq f c d]; rfl
@[simp] theorem State.coinIn_drive (f : Bool) (c : CoinId) (d : Route) : (s.coinIn f c d).drive = s.drive := by
  rw [s.coinIn_eq f c d]; rfl
@[simp] theorem State.coinIn_sale (f : Bool) (c : CoinId) (d : Route) : (s.coinIn f c d).sale = s.sale := by
  rw [s.coinIn_eq f c d]; rfl
@[simp] theorem State.coinIn_load (f : Bool) (c : CoinId) (d : Route) : (s.coinIn f c d).load = s.load := by
  rw [s.coinIn_eq f c d]; rfl
@[simp] theorem State.coinIn_cool (f : Bool) (c : CoinId) (d : Route) : (s.coinIn f c d).cool = s.cool := by
  rw [s.coinIn_eq f c d]; rfl
@[simp] theorem State.coinIn_health (f : Bool) (c : CoinId) (d : Route) : (s.coinIn f c d).health = s.health := by
  rw [s.coinIn_eq f c d]; rfl
@[simp] theorem State.coinIn_line (f : Bool) (c : CoinId) (d : Route) : (s.coinIn f c d).line = s.line := by
  rw [s.coinIn_eq f c d]; rfl
@[simp] theorem State.coinIn_mode (f : Bool) (c : CoinId) (d : Route) : (s.coinIn f c d).mode = s.mode := by
  rw [s.coinIn_eq f c d]; rfl
@[simp] theorem State.coinIn_settings (f : Bool) (c : CoinId) (d : Route) : (s.coinIn f c d).settings = s.settings := by
  rw [s.coinIn_eq f c d]; rfl
@[simp] theorem State.coinIn_cutShort (f : Bool) (c : CoinId) (d : Route) : (s.coinIn f c d).cutShort = s.cutShort := by
  rw [s.coinIn_eq f c d]; rfl
@[simp] theorem State.coinIn_pending (f : Bool) (c : CoinId) (d : Route) : (s.coinIn f c d).pending = s.pending := by
  rw [s.coinIn_eq f c d]; rfl

/-! ### `State.billIn` -/

@[simp] theorem State.billIn_now (b : BillId) (t : BillInState) (n : Nat) : (s.billIn b t n).now = s.now := by simp [State.billIn]
@[simp] theorem State.billIn_pins (b : BillId) (t : BillInState) (n : Nat) : (s.billIn b t n).pins = s.pins := by simp [State.billIn]
@[simp] theorem State.billIn_cash (b : BillId) (t : BillInState) (n : Nat) : (s.billIn b t n).cash = s.cash := by simp [State.billIn]
@[simp] theorem State.billIn_ledger (b : BillId) (t : BillInState) (n : Nat) : (s.billIn b t n).ledger = s.ledger := by simp [State.billIn]
@[simp] theorem State.billIn_card (b : BillId) (t : BillInState) (n : Nat) : (s.billIn b t n).card = s.card := by simp [State.billIn]
@[simp] theorem State.billIn_payout (b : BillId) (t : BillInState) (n : Nat) : (s.billIn b t n).payout = s.payout := by simp [State.billIn]
@[simp] theorem State.billIn_map (b : BillId) (t : BillInState) (n : Nat) : (s.billIn b t n).map = s.map := by simp [State.billIn]
@[simp] theorem State.billIn_drive (b : BillId) (t : BillInState) (n : Nat) : (s.billIn b t n).drive = s.drive := by simp [State.billIn]
@[simp] theorem State.billIn_sale (b : BillId) (t : BillInState) (n : Nat) : (s.billIn b t n).sale = s.sale := by simp [State.billIn]
@[simp] theorem State.billIn_load (b : BillId) (t : BillInState) (n : Nat) : (s.billIn b t n).load = s.load := by simp [State.billIn]
@[simp] theorem State.billIn_cool (b : BillId) (t : BillInState) (n : Nat) : (s.billIn b t n).cool = s.cool := by simp [State.billIn]
@[simp] theorem State.billIn_health (b : BillId) (t : BillInState) (n : Nat) : (s.billIn b t n).health = s.health := by simp [State.billIn]
@[simp] theorem State.billIn_line (b : BillId) (t : BillInState) (n : Nat) : (s.billIn b t n).line = s.line := by simp [State.billIn]
@[simp] theorem State.billIn_mode (b : BillId) (t : BillInState) (n : Nat) : (s.billIn b t n).mode = s.mode := by simp [State.billIn]
@[simp] theorem State.billIn_settings (b : BillId) (t : BillInState) (n : Nat) : (s.billIn b t n).settings = s.settings := by simp [State.billIn]
@[simp] theorem State.billIn_cutShort (b : BillId) (t : BillInState) (n : Nat) : (s.billIn b t n).cutShort = s.cutShort := by simp [State.billIn]
@[simp] theorem State.billIn_pending (b : BillId) (t : BillInState) (n : Nat) : (s.billIn b t n).pending = s.pending := by simp [State.billIn]

/-! ### `State.stationReport` -/

@[simp] theorem State.stationReport_now (st : StationId) (c : StationCause) (d : StationDetail) : (s.stationReport st c d).now = s.now := by simp [State.stationReport]
@[simp] theorem State.stationReport_pins (st : StationId) (c : StationCause) (d : StationDetail) : (s.stationReport st c d).pins = s.pins := by simp [State.stationReport]
@[simp] theorem State.stationReport_cash (st : StationId) (c : StationCause) (d : StationDetail) : (s.stationReport st c d).cash = s.cash := by simp [State.stationReport]
@[simp] theorem State.stationReport_ledger (st : StationId) (c : StationCause) (d : StationDetail) : (s.stationReport st c d).ledger = s.ledger := by simp [State.stationReport]
@[simp] theorem State.stationReport_card (st : StationId) (c : StationCause) (d : StationDetail) : (s.stationReport st c d).card = s.card := by simp [State.stationReport]
@[simp] theorem State.stationReport_payout (st : StationId) (c : StationCause) (d : StationDetail) : (s.stationReport st c d).payout = s.payout := by simp [State.stationReport]
@[simp] theorem State.stationReport_map (st : StationId) (c : StationCause) (d : StationDetail) : (s.stationReport st c d).map = s.map := by simp [State.stationReport]
@[simp] theorem State.stationReport_drive (st : StationId) (c : StationCause) (d : StationDetail) : (s.stationReport st c d).drive = s.drive := by simp [State.stationReport]
@[simp] theorem State.stationReport_sale (st : StationId) (c : StationCause) (d : StationDetail) : (s.stationReport st c d).sale = s.sale := by simp [State.stationReport]
@[simp] theorem State.stationReport_load (st : StationId) (c : StationCause) (d : StationDetail) : (s.stationReport st c d).load = s.load := by simp [State.stationReport]
@[simp] theorem State.stationReport_cool (st : StationId) (c : StationCause) (d : StationDetail) : (s.stationReport st c d).cool = s.cool := by simp [State.stationReport]
@[simp] theorem State.stationReport_health (st : StationId) (c : StationCause) (d : StationDetail) : (s.stationReport st c d).health = s.health := by simp [State.stationReport]
@[simp] theorem State.stationReport_line (st : StationId) (c : StationCause) (d : StationDetail) : (s.stationReport st c d).line = s.line := by simp [State.stationReport]
@[simp] theorem State.stationReport_mode (st : StationId) (c : StationCause) (d : StationDetail) : (s.stationReport st c d).mode = s.mode := by simp [State.stationReport]
@[simp] theorem State.stationReport_settings (st : StationId) (c : StationCause) (d : StationDetail) : (s.stationReport st c d).settings = s.settings := by simp [State.stationReport]
@[simp] theorem State.stationReport_cutShort (st : StationId) (c : StationCause) (d : StationDetail) : (s.stationReport st c d).cutShort = s.cutShort := by simp [State.stationReport]
@[simp] theorem State.stationReport_pending (st : StationId) (c : StationCause) (d : StationDetail) : (s.stationReport st c d).pending = s.pending := by simp [State.stationReport]

/-! ### `State.discarded` -/

@[simp] theorem State.discarded_now (st : StationId) (r : LineRequest) (b : Bool) (c : DiscardCause) : (s.discarded st r b c).now = s.now := by simp [State.discarded]
@[simp] theorem State.discarded_pins (st : StationId) (r : LineRequest) (b : Bool) (c : DiscardCause) : (s.discarded st r b c).pins = s.pins := by simp [State.discarded]
@[simp] theorem State.discarded_cash (st : StationId) (r : LineRequest) (b : Bool) (c : DiscardCause) : (s.discarded st r b c).cash = s.cash := by simp [State.discarded]
@[simp] theorem State.discarded_ledger (st : StationId) (r : LineRequest) (b : Bool) (c : DiscardCause) : (s.discarded st r b c).ledger = s.ledger := by simp [State.discarded]
@[simp] theorem State.discarded_card (st : StationId) (r : LineRequest) (b : Bool) (c : DiscardCause) : (s.discarded st r b c).card = s.card := by simp [State.discarded]
@[simp] theorem State.discarded_payout (st : StationId) (r : LineRequest) (b : Bool) (c : DiscardCause) : (s.discarded st r b c).payout = s.payout := by simp [State.discarded]
@[simp] theorem State.discarded_map (st : StationId) (r : LineRequest) (b : Bool) (c : DiscardCause) : (s.discarded st r b c).map = s.map := by simp [State.discarded]
@[simp] theorem State.discarded_drive (st : StationId) (r : LineRequest) (b : Bool) (c : DiscardCause) : (s.discarded st r b c).drive = s.drive := by simp [State.discarded]
@[simp] theorem State.discarded_sale (st : StationId) (r : LineRequest) (b : Bool) (c : DiscardCause) : (s.discarded st r b c).sale = s.sale := by simp [State.discarded]
@[simp] theorem State.discarded_load (st : StationId) (r : LineRequest) (b : Bool) (c : DiscardCause) : (s.discarded st r b c).load = s.load := by simp [State.discarded]
@[simp] theorem State.discarded_cool (st : StationId) (r : LineRequest) (b : Bool) (c : DiscardCause) : (s.discarded st r b c).cool = s.cool := by simp [State.discarded]
@[simp] theorem State.discarded_health (st : StationId) (r : LineRequest) (b : Bool) (c : DiscardCause) : (s.discarded st r b c).health = s.health := by simp [State.discarded]
@[simp] theorem State.discarded_line (st : StationId) (r : LineRequest) (b : Bool) (c : DiscardCause) : (s.discarded st r b c).line = s.line := by simp [State.discarded]
@[simp] theorem State.discarded_mode (st : StationId) (r : LineRequest) (b : Bool) (c : DiscardCause) : (s.discarded st r b c).mode = s.mode := by simp [State.discarded]
@[simp] theorem State.discarded_settings (st : StationId) (r : LineRequest) (b : Bool) (c : DiscardCause) : (s.discarded st r b c).settings = s.settings := by simp [State.discarded]
@[simp] theorem State.discarded_cutShort (st : StationId) (r : LineRequest) (b : Bool) (c : DiscardCause) : (s.discarded st r b c).cutShort = s.cutShort := by simp [State.discarded]
@[simp] theorem State.discarded_pending (st : StationId) (r : LineRequest) (b : Bool) (c : DiscardCause) : (s.discarded st r b c).pending = s.pending := by simp [State.discarded]

/-! ### `State.limitReport` -/

@[simp] theorem State.limitReport_now (n : Nat) : (s.limitReport n).now = s.now := by
  unfold State.limitReport; split <;> simp
@[simp] theorem State.limitReport_pins (n : Nat) : (s.limitReport n).pins = s.pins := by
  unfold State.limitReport; split <;> simp
@[simp] theorem State.limitReport_cash (n : Nat) : (s.limitReport n).cash = s.cash := by
  unfold State.limitReport; split <;> simp
@[simp] theorem State.limitReport_ledger (n : Nat) : (s.limitReport n).ledger = s.ledger := by
  unfold State.limitReport; split <;> simp
@[simp] theorem State.limitReport_card (n : Nat) : (s.limitReport n).card = s.card := by
  unfold State.limitReport; split <;> simp
@[simp] theorem State.limitReport_payout (n : Nat) : (s.limitReport n).payout = s.payout := by
  unfold State.limitReport; split <;> simp
@[simp] theorem State.limitReport_map (n : Nat) : (s.limitReport n).map = s.map := by
  unfold State.limitReport; split <;> simp
@[simp] theorem State.limitReport_drive (n : Nat) : (s.limitReport n).drive = s.drive := by
  unfold State.limitReport; split <;> simp
@[simp] theorem State.limitReport_sale (n : Nat) : (s.limitReport n).sale = s.sale := by
  unfold State.limitReport; split <;> simp
@[simp] theorem State.limitReport_load (n : Nat) : (s.limitReport n).load = s.load := by
  unfold State.limitReport; split <;> simp
@[simp] theorem State.limitReport_cool (n : Nat) : (s.limitReport n).cool = s.cool := by
  unfold State.limitReport; split <;> simp
@[simp] theorem State.limitReport_health (n : Nat) : (s.limitReport n).health = s.health := by
  unfold State.limitReport; split <;> simp
@[simp] theorem State.limitReport_line (n : Nat) : (s.limitReport n).line = s.line := by
  unfold State.limitReport; split <;> simp
@[simp] theorem State.limitReport_mode (n : Nat) : (s.limitReport n).mode = s.mode := by
  unfold State.limitReport; split <;> simp
@[simp] theorem State.limitReport_settings (n : Nat) : (s.limitReport n).settings = s.settings := by
  unfold State.limitReport; split <;> simp
@[simp] theorem State.limitReport_cutShort (n : Nat) : (s.limitReport n).cutShort = s.cutShort := by
  unfold State.limitReport; split <;> simp
@[simp] theorem State.limitReport_pending (n : Nat) : (s.limitReport n).pending = s.pending := by
  unfold State.limitReport; split <;> simp

/-! ### `State.hand` -/

/-- A frame handed changes the queue, and the port where it can not be queued (R173). -/
theorem State.hand_eq (st : StationId) (r : LineRequest) :
    s.hand st r = (s.setQueue (s.hand st r).line.queue).setPort (s.hand st r).port := by
  have hs : s.dropStaleAsk st r = s.setQueue (s.dropStaleAsk st r).line.queue := by
    unfold State.dropStaleAsk
    split <;> rfl
  unfold State.hand State.handFrame
  split
  · dsimp only
    generalize s.dropStaleAsk st r = u at hs ⊢
    split
    · dsimp only
      rw [hs]
      rfl
    · unfold State.joinQueue
      split
      · dsimp only
        rw [hs]
        rfl
      · split
        · rename_i old q _
          dsimp only
          have h := State.report_eq (u.setQueue (q ++ [{ station := st, request := r }]))
            (.discarded { station := old.station, relayNo := old.request.relayNo.getD 0, kind := old.request.kind
                          sent := false, cause := .room })
          unfold State.discarded
          unfold PortOnly at h
          rw [h, hs]
          rfl
        · dsimp only
          unfold State.stationReport
          rw [State.report_eq u _, hs]
          rfl
  · rfl

@[simp] theorem State.hand_now (st : StationId) (r : LineRequest) : (s.hand st r).now = s.now := by
  rw [s.hand_eq st r]; rfl
@[simp] theorem State.hand_pins (st : StationId) (r : LineRequest) : (s.hand st r).pins = s.pins := by
  rw [s.hand_eq st r]; rfl
@[simp] theorem State.hand_cash (st : StationId) (r : LineRequest) : (s.hand st r).cash = s.cash := by
  rw [s.hand_eq st r]; rfl
@[simp] theorem State.hand_ledger (st : StationId) (r : LineRequest) : (s.hand st r).ledger = s.ledger := by
  rw [s.hand_eq st r]; rfl
@[simp] theorem State.hand_card (st : StationId) (r : LineRequest) : (s.hand st r).card = s.card := by
  rw [s.hand_eq st r]; rfl
@[simp] theorem State.hand_payout (st : StationId) (r : LineRequest) : (s.hand st r).payout = s.payout := by
  rw [s.hand_eq st r]; rfl
@[simp] theorem State.hand_map (st : StationId) (r : LineRequest) : (s.hand st r).map = s.map := by
  rw [s.hand_eq st r]; rfl
@[simp] theorem State.hand_drive (st : StationId) (r : LineRequest) : (s.hand st r).drive = s.drive := by
  rw [s.hand_eq st r]; rfl
@[simp] theorem State.hand_sale (st : StationId) (r : LineRequest) : (s.hand st r).sale = s.sale := by
  rw [s.hand_eq st r]; rfl
@[simp] theorem State.hand_load (st : StationId) (r : LineRequest) : (s.hand st r).load = s.load := by
  rw [s.hand_eq st r]; rfl
@[simp] theorem State.hand_cool (st : StationId) (r : LineRequest) : (s.hand st r).cool = s.cool := by
  rw [s.hand_eq st r]; rfl
@[simp] theorem State.hand_health (st : StationId) (r : LineRequest) : (s.hand st r).health = s.health := by
  rw [s.hand_eq st r]; rfl
@[simp] theorem State.hand_mode (st : StationId) (r : LineRequest) : (s.hand st r).mode = s.mode := by
  rw [s.hand_eq st r]; rfl
@[simp] theorem State.hand_settings (st : StationId) (r : LineRequest) : (s.hand st r).settings = s.settings := by
  rw [s.hand_eq st r]; rfl
@[simp] theorem State.hand_cutShort (st : StationId) (r : LineRequest) : (s.hand st r).cutShort = s.cutShort := by
  rw [s.hand_eq st r]; rfl
@[simp] theorem State.hand_pending (st : StationId) (r : LineRequest) : (s.hand st r).pending = s.pending := by
  rw [s.hand_eq st r]; rfl
@[simp] theorem State.hand_line_stations (st : StationId) (r : LineRequest) :
    (s.hand st r).line.stations = s.line.stations := by
  rw [s.hand_eq st r]; rfl
@[simp] theorem State.hand_line_phase (st : StationId) (r : LineRequest) :
    (s.hand st r).line.phase = s.line.phase := by
  rw [s.hand_eq st r]; rfl
@[simp] theorem State.hand_line_nextSlot (st : StationId) (r : LineRequest) :
    (s.hand st r).line.nextSlot = s.line.nextSlot := by
  rw [s.hand_eq st r]; rfl
@[simp] theorem State.hand_line_lastPolled (st : StationId) (r : LineRequest) :
    (s.hand st r).line.lastPolled = s.line.lastPolled := by
  rw [s.hand_eq st r]; rfl
@[simp] theorem State.hand_line_lastRelay (st : StationId) (r : LineRequest) :
    (s.hand st r).line.lastRelay = s.line.lastRelay := by
  rw [s.hand_eq st r]; rfl
@[simp] theorem State.hand_line_restartDue (st : StationId) (r : LineRequest) :
    (s.hand st r).line.restartDue = s.line.restartDue := by
  rw [s.hand_eq st r]; rfl

/-! ### `State.show`, `State.removeFrames` -/

@[simp] theorem State.show_now (c : ShowCode) (n : Nat) : (s.show c n).now = s.now := by simp [State.show]
@[simp] theorem State.show_pins (c : ShowCode) (n : Nat) : (s.show c n).pins = s.pins := by simp [State.show]
@[simp] theorem State.show_cash (c : ShowCode) (n : Nat) : (s.show c n).cash = s.cash := by simp [State.show]
@[simp] theorem State.show_ledger (c : ShowCode) (n : Nat) : (s.show c n).ledger = s.ledger := by simp [State.show]
@[simp] theorem State.show_card (c : ShowCode) (n : Nat) : (s.show c n).card = s.card := by simp [State.show]
@[simp] theorem State.show_payout (c : ShowCode) (n : Nat) : (s.show c n).payout = s.payout := by simp [State.show]
@[simp] theorem State.show_map (c : ShowCode) (n : Nat) : (s.show c n).map = s.map := by simp [State.show]
@[simp] theorem State.show_drive (c : ShowCode) (n : Nat) : (s.show c n).drive = s.drive := by simp [State.show]
@[simp] theorem State.show_load (c : ShowCode) (n : Nat) : (s.show c n).load = s.load := by simp [State.show]
@[simp] theorem State.show_cool (c : ShowCode) (n : Nat) : (s.show c n).cool = s.cool := by simp [State.show]
@[simp] theorem State.show_health (c : ShowCode) (n : Nat) : (s.show c n).health = s.health := by simp [State.show]
@[simp] theorem State.show_mode (c : ShowCode) (n : Nat) : (s.show c n).mode = s.mode := by simp [State.show]
@[simp] theorem State.show_settings (c : ShowCode) (n : Nat) : (s.show c n).settings = s.settings := by simp [State.show]
@[simp] theorem State.show_cutShort (c : ShowCode) (n : Nat) : (s.show c n).cutShort = s.cutShort := by simp [State.show]
@[simp] theorem State.show_pending (c : ShowCode) (n : Nat) : (s.show c n).pending = s.pending := by simp [State.show]
@[simp] theorem State.show_sale (c : ShowCode) (n : Nat) :
    (s.show c n).sale = { s.sale with lastShow := (c, n) } := by simp [State.show]
@[simp] theorem State.show_line_stations (c : ShowCode) (n : Nat) : (s.show c n).line.stations = s.line.stations := by
  simp [State.show]
@[simp] theorem State.show_line_phase (c : ShowCode) (n : Nat) : (s.show c n).line.phase = s.line.phase := by
  simp [State.show]
@[simp] theorem State.show_line_nextSlot (c : ShowCode) (n : Nat) : (s.show c n).line.nextSlot = s.line.nextSlot := by
  simp [State.show]
@[simp] theorem State.show_line_lastPolled (c : ShowCode) (n : Nat) : (s.show c n).line.lastPolled = s.line.lastPolled := by
  simp [State.show]
@[simp] theorem State.show_line_lastRelay (c : ShowCode) (n : Nat) : (s.show c n).line.lastRelay = s.line.lastRelay := by
  simp [State.show]
@[simp] theorem State.show_line_restartDue (c : ShowCode) (n : Nat) : (s.show c n).line.restartDue = s.line.restartDue := by
  simp [State.show]
@[simp] theorem State.removeFrames_now (st : StationId) (k : List LineKind) :
    (s.removeFrames st k).now = s.now := rfl
@[simp] theorem State.removeFrames_pins (st : StationId) (k : List LineKind) :
    (s.removeFrames st k).pins = s.pins := rfl
@[simp] theorem State.removeFrames_cash (st : StationId) (k : List LineKind) :
    (s.removeFrames st k).cash = s.cash := rfl
@[simp] theorem State.removeFrames_ledger (st : StationId) (k : List LineKind) :
    (s.removeFrames st k).ledger = s.ledger := rfl
@[simp] theorem State.removeFrames_card (st : StationId) (k : List LineKind) :
    (s.removeFrames st k).card = s.card := rfl
@[simp] theorem State.removeFrames_payout (st : StationId) (k : List LineKind) :
    (s.removeFrames st k).payout = s.payout := rfl
@[simp] theorem State.removeFrames_map (st : StationId) (k : List LineKind) :
    (s.removeFrames st k).map = s.map := rfl
@[simp] theorem State.removeFrames_drive (st : StationId) (k : List LineKind) :
    (s.removeFrames st k).drive = s.drive := rfl
@[simp] theorem State.removeFrames_sale (st : StationId) (k : List LineKind) :
    (s.removeFrames st k).sale = s.sale := rfl
@[simp] theorem State.removeFrames_load (st : StationId) (k : List LineKind) :
    (s.removeFrames st k).load = s.load := rfl
@[simp] theorem State.removeFrames_cool (st : StationId) (k : List LineKind) :
    (s.removeFrames st k).cool = s.cool := rfl
@[simp] theorem State.removeFrames_health (st : StationId) (k : List LineKind) :
    (s.removeFrames st k).health = s.health := rfl
@[simp] theorem State.removeFrames_port (st : StationId) (k : List LineKind) :
    (s.removeFrames st k).port = s.port := rfl
@[simp] theorem State.removeFrames_mode (st : StationId) (k : List LineKind) :
    (s.removeFrames st k).mode = s.mode := rfl
@[simp] theorem State.removeFrames_settings (st : StationId) (k : List LineKind) :
    (s.removeFrames st k).settings = s.settings := rfl
@[simp] theorem State.removeFrames_cutShort (st : StationId) (k : List LineKind) :
    (s.removeFrames st k).cutShort = s.cutShort := rfl
@[simp] theorem State.removeFrames_pending (st : StationId) (k : List LineKind) :
    (s.removeFrames st k).pending = s.pending := rfl

/-! ### `State.advanceTo` (log 1) -/

@[simp] theorem State.advanceTo_pins (t : Nat) : (s.advanceTo t).pins = s.pins := by
  unfold State.advanceTo; split <;> rfl
@[simp] theorem State.advanceTo_cash (t : Nat) : (s.advanceTo t).cash = s.cash := by
  unfold State.advanceTo; split <;> rfl
@[simp] theorem State.advanceTo_ledger (t : Nat) : (s.advanceTo t).ledger = s.ledger := by
  unfold State.advanceTo; split <;> rfl
@[simp] theorem State.advanceTo_card (t : Nat) : (s.advanceTo t).card = s.card := by
  unfold State.advanceTo; split <;> rfl
@[simp] theorem State.advanceTo_payout (t : Nat) : (s.advanceTo t).payout = s.payout := by
  unfold State.advanceTo; split <;> rfl
@[simp] theorem State.advanceTo_map (t : Nat) : (s.advanceTo t).map = s.map := by
  unfold State.advanceTo; split <;> rfl
@[simp] theorem State.advanceTo_drive (t : Nat) : (s.advanceTo t).drive = s.drive := by
  unfold State.advanceTo; split <;> rfl
@[simp] theorem State.advanceTo_sale (t : Nat) : (s.advanceTo t).sale = s.sale := by
  unfold State.advanceTo; split <;> rfl
@[simp] theorem State.advanceTo_load (t : Nat) : (s.advanceTo t).load = s.load := by
  unfold State.advanceTo; split <;> rfl
@[simp] theorem State.advanceTo_health (t : Nat) : (s.advanceTo t).health = s.health := by
  unfold State.advanceTo; split <;> rfl
@[simp] theorem State.advanceTo_line (t : Nat) : (s.advanceTo t).line = s.line := by
  unfold State.advanceTo; split <;> rfl
@[simp] theorem State.advanceTo_port (t : Nat) : (s.advanceTo t).port = s.port := by
  unfold State.advanceTo; split <;> rfl
@[simp] theorem State.advanceTo_mode (t : Nat) : (s.advanceTo t).mode = s.mode := by
  unfold State.advanceTo; split <;> rfl
@[simp] theorem State.advanceTo_settings (t : Nat) : (s.advanceTo t).settings = s.settings := by
  unfold State.advanceTo; split <;> rfl
@[simp] theorem State.advanceTo_cutShort (t : Nat) : (s.advanceTo t).cutShort = s.cutShort := by
  unfold State.advanceTo; split <;> rfl
@[simp] theorem State.advanceTo_pending (t : Nat) : (s.advanceTo t).pending = s.pending := by
  unfold State.advanceTo; split <;> rfl
@[simp] theorem State.advanceTo_now (t : Nat) : (s.advanceTo t).now = max s.now t := by
  unfold State.advanceTo
  split
  · rename_i h; exact (Nat.max_eq_left h).symm
  · rename_i h; exact (Nat.max_eq_right (Nat.le_of_not_le h)).symm

/-- The run time is what the clock changes in the cooling controller (R137). -/
theorem State.advanceTo_cool (t : Nat) :
    (s.advanceTo t).cool = { s.cool with plant := { s.cool.plant with runMs := (s.advanceTo t).cool.plant.runMs } } := by
  unfold State.advanceTo
  split <;> rfl

@[simp] theorem State.advanceTo_runMs (t : Nat) :
    (s.advanceTo t).cool.plant.runMs =
      s.cool.plant.runMs + (if s.cool.plant.phase.compressorOn then t - s.now else 0) := by
  unfold State.advanceTo
  split
  · rename_i h
    simp [Nat.sub_eq_zero_of_le h]
  · simp only [State.setNow_cool, State.setCool_cool]
    split <;> simp
@[simp] theorem State.advanceTo_calibration (t : Nat) : (s.advanceTo t).cool.calibration = s.cool.calibration := by
  rw [State.advanceTo_cool]
@[simp] theorem State.advanceTo_channels (t : Nat) : (s.advanceTo t).cool.channels = s.cool.channels := by
  rw [State.advanceTo_cool]
@[simp] theorem State.advanceTo_zones (t : Nat) : (s.advanceTo t).cool.zones = s.cool.zones := by
  rw [State.advanceTo_cool]
@[simp] theorem State.advanceTo_nextSample (t : Nat) : (s.advanceTo t).cool.nextSample = s.cool.nextSample := by
  rw [State.advanceTo_cool]
@[simp] theorem State.advanceTo_nextTemps (t : Nat) : (s.advanceTo t).cool.nextTemps = s.cool.nextTemps := by
  rw [State.advanceTo_cool]
@[simp] theorem State.advanceTo_plant_phase (t : Nat) : (s.advanceTo t).cool.plant.phase = s.cool.plant.phase := by
  rw [State.advanceTo_cool]
@[simp] theorem State.advanceTo_plant_lastStop (t : Nat) : (s.advanceTo t).cool.plant.lastStop = s.cool.plant.lastStop := by
  rw [State.advanceTo_cool]
@[simp] theorem State.advanceTo_plant_due (t : Nat) : (s.advanceTo t).cool.plant.due = s.cool.plant.due := by
  rw [State.advanceTo_cool]
@[simp] theorem State.advanceTo_plant_startWindow (t : Nat) : (s.advanceTo t).cool.plant.startWindow = s.cool.plant.startWindow := by
  rw [State.advanceTo_cool]
@[simp] theorem State.advanceTo_plant_minRun (t : Nat) : (s.advanceTo t).cool.plant.minRun = s.cool.plant.minRun := by
  rw [State.advanceTo_cool]
@[simp] theorem State.advanceTo_plant_heaterTimer (t : Nat) : (s.advanceTo t).cool.plant.heaterTimer = s.cool.plant.heaterTimer := by
  rw [State.advanceTo_cool]
@[simp] theorem State.advanceTo_plant_dripTimer (t : Nat) : (s.advanceTo t).cool.plant.dripTimer = s.cool.plant.dripTimer := by
  rw [State.advanceTo_cool]
@[simp] theorem State.advanceTo_plant_grantedAt (t : Nat) : (s.advanceTo t).cool.plant.grantedAt = s.cool.plant.grantedAt := by
  rw [State.advanceTo_cool]
@[simp] theorem State.advanceTo_plant_heatedAt (t : Nat) : (s.advanceTo t).cool.plant.heatedAt = s.cool.plant.heatedAt := by
  rw [State.advanceTo_cool]
@[simp] theorem State.advanceTo_plant_dripAt (t : Nat) : (s.advanceTo t).cool.plant.dripAt = s.cool.plant.dripAt := by
  rw [State.advanceTo_cool]

end Sys2Proof.Machine
end

