-- ==== Sys2Proof/Laws/Cascade.lean ====
section
/-! SUPPORT. How an event runs: its inner steps one by one, and a property that every inner step keeps. -/

namespace Sys2Proof.Machine

/-! ### Unfolding -/

@[simp] theorem runJobs_nil (n : Nat) (s : State) : runJobs n [] s = s := by cases n <;> rfl

theorem runJobs_cons (n : Nat) (j : Job) (js : List Job) (s : State) :
    runJobs (n + 1) (j :: js) s = runJobs n (runJob j js s).2 (runJob j js s).1 := rfl

/-- An event that hands nothing on. -/
@[simp] theorem runOut_nil (s : State) : runOut (s, []) = s := runJobs_nil _ s

@[simp] theorem runOut_only (s : State) : runOut s.only = s := runJobs_nil _ s

/-- An event whose first inner step is no load operation. -/
theorem runJob_plain (j : Job) (js : List Job) (s : State) (h : ∀ op, j ≠ .load op) :
    runJob j js s = ((runOne j s).1, (runOne j s).2 ++ js) := by
  unfold runJob
  split
  · rename_i op
    exact absurd rfl (h op)
  · rfl

/-- A load operation while no hand-on is in progress reaches the arbiter at once (R120). -/
theorem runJob_load (op : LoadOp) (js : List Job) (s : State) (h : deferTo op js = none) :
    runJob (.load op) js s = ((loadStep op s).1, (loadStep op s).2 ++ js) := by
  simp [runJob, h]

/-- A load operation while a hand-on is in progress waits for its end (R120, log 12). -/
theorem runJob_deferred (op : LoadOp) (js js' : List Job) (s : State) (h : deferTo op js = some js') :
    runJob (.load op) js s = (s, js') := by
  simp [runJob, h]

/-! ### Lifting -/

/-- An inner step keeps what every `runOne` keeps. -/
theorem runJob_keeps {P : State → Prop} (one : ∀ j s, P s → P (runOne j s).1) (j : Job) (js : List Job) (s : State)
    (h : P s) : P (runJob j js s).1 := by
  unfold runJob
  split
  · split
    · exact h
    · exact one (.load _) s h
  · exact one _ s h

/-- An event keeps what every inner step keeps, whether or not the bound of log 11 cuts it short. -/
theorem runJobs_keeps {P : State → Prop} (one : ∀ j s, P s → P (runOne j s).1)
    (cut : ∀ s, P s → P (s.setCutShort true)) :
    ∀ (n : Nat) (js : List Job) (s : State), P s → P (runJobs n js s)
  | 0, [], _, h => h
  | 0, _ :: _, s, h => cut s h
  | _ + 1, [], _, h => h
  | n + 1, j :: js, s, h => runJobs_keeps one cut n _ _ (runJob_keeps one j js s h)

/-- An event keeps what its own effect has, what every inner step keeps and what the links leave alone. -/
theorem event_keeps {P : State → Prop} (one : ∀ j s, P s → P (runOne j s).1)
    (cut : ∀ s, P s → P (s.setCutShort true)) (links : ∀ s t, LinksOnly s t → P s → P t)
    (before : State) (o : Out) (h : P o.1) : P (event before o) :=
  links _ _ (.eventEnd _ _) (runJobs_keeps one cut _ _ _ h)

/-- So does a command that is one event. -/
theorem finish_keeps {P : State → Prop} (one : ∀ j s, P s → P (runOne j s).1)
    (cut : ∀ s, P s → P (s.setCutShort true)) (links : ∀ s t, LinksOnly s t → P s → P t)
    (before t : State) (o : Out) (h : P o.1) (ht : finish before o = .next t) : P t := by
  injection ht with ht
  exact ht ▸ links _ _ (.stepEnd _) (event_keeps one cut links before o h)

/-! ### Taking a request (R178, R180) -/

@[simp] theorem State.noteHeader_slot (s : State) (h : ReqHeader) : (s.noteHeader h).port.slot = s.port.slot := by
  unfold State.noteHeader
  split <;> rfl

@[simp] theorem State.noteHeader_now (s : State) (h : ReqHeader) : (s.noteHeader h).now = s.now := by
  unfold State.noteHeader; split <;> rfl
@[simp] theorem State.noteHeader_pins (s : State) (h : ReqHeader) : (s.noteHeader h).pins = s.pins := by
  unfold State.noteHeader; split <;> rfl
@[simp] theorem State.noteHeader_cash (s : State) (h : ReqHeader) : (s.noteHeader h).cash = s.cash := by
  unfold State.noteHeader; split <;> rfl
@[simp] theorem State.noteHeader_ledger (s : State) (h : ReqHeader) : (s.noteHeader h).ledger = s.ledger := by
  unfold State.noteHeader; split <;> rfl
@[simp] theorem State.noteHeader_card (s : State) (h : ReqHeader) : (s.noteHeader h).card = s.card := by
  unfold State.noteHeader; split <;> rfl
@[simp] theorem State.noteHeader_payout (s : State) (h : ReqHeader) : (s.noteHeader h).payout = s.payout := by
  unfold State.noteHeader; split <;> rfl
@[simp] theorem State.noteHeader_map (s : State) (h : ReqHeader) : (s.noteHeader h).map = s.map := by
  unfold State.noteHeader; split <;> rfl
@[simp] theorem State.noteHeader_drive (s : State) (h : ReqHeader) : (s.noteHeader h).drive = s.drive := by
  unfold State.noteHeader; split <;> rfl
@[simp] theorem State.noteHeader_sale (s : State) (h : ReqHeader) : (s.noteHeader h).sale = s.sale := by
  unfold State.noteHeader; split <;> rfl
@[simp] theorem State.noteHeader_load (s : State) (h : ReqHeader) : (s.noteHeader h).load = s.load := by
  unfold State.noteHeader; split <;> rfl
@[simp] theorem State.noteHeader_cool (s : State) (h : ReqHeader) : (s.noteHeader h).cool = s.cool := by
  unfold State.noteHeader; split <;> rfl
@[simp] theorem State.noteHeader_health (s : State) (h : ReqHeader) : (s.noteHeader h).health = s.health := by
  unfold State.noteHeader; split <;> rfl
@[simp] theorem State.noteHeader_line (s : State) (h : ReqHeader) : (s.noteHeader h).line = s.line := by
  unfold State.noteHeader; split <;> rfl
@[simp] theorem State.noteHeader_mode (s : State) (h : ReqHeader) : (s.noteHeader h).mode = s.mode := by
  unfold State.noteHeader; split <;> rfl
@[simp] theorem State.noteHeader_settings (s : State) (h : ReqHeader) : (s.noteHeader h).settings = s.settings := by
  unfold State.noteHeader; split <;> rfl
@[simp] theorem State.noteHeader_cutShort (s : State) (h : ReqHeader) : (s.noteHeader h).cutShort = s.cutShort := by
  unfold State.noteHeader; split <;> rfl
@[simp] theorem State.noteHeader_pending (s : State) (h : ReqHeader) : (s.noteHeader h).pending = s.pending := by
  unfold State.noteHeader; split <;> rfl

@[simp] theorem State.noteHeader_sending (s : State) (h : ReqHeader) :
    (s.noteHeader h).port.sending = s.port.sending := by
  unfold State.noteHeader; split <;> rfl

@[simp] theorem State.noteHeader_reports (s : State) (h : ReqHeader) :
    (s.noteHeader h).port.reports = s.port.reports := by
  unfold State.noteHeader; split <;> rfl

/-- The ANSWER of a request, with the conditions as they stood and the set emptied (R179, R180). -/
theorem State.noteHeader_answer (s : State) (h : ReqHeader) (k : ReqKind) (c : ResultCode) (d : AnswerData) :
    (s.noteHeader h).answer k c d = s.setPort (answeredPort s h k c d) := by
  unfold State.noteHeader
  split
  · simp [State.answer, State.flag, answeredPort, answerTo, State.noteHeader, *]
  · simp [State.answer, answeredPort, answerTo, State.noteHeader, *]

/-- A request refused: its ANSWER, and no more (R183, and each owner's checks). -/
theorem refuse_noteHeader (s : State) (h : ReqHeader) (k : ReqKind) (c : ResultCode) :
    refuse k c (s.noteHeader h) = (s.setPort (answeredPort s h k c .empty), []) := by
  simp [refuse, State.only, State.noteHeader_answer]

/-- A request is one event where the header names no station and the slot is empty. -/
theorem takeRequest_taken (h : ReqHeader) (k : ReqKind) (body : State → Out) (s : State) (ht : s.takes h) :
    takeRequest h k body s = finish s (body (s.noteHeader h)) := by
  obtain ⟨hst, hslot⟩ := ht
  simp [takeRequest, hslot, hst]

/-- What a request answers that hands nothing on: the ANSWER, and no more than its own effect beside it. -/
theorem request_answered (before : State) (s : State) (a : Answer) (h : s.port.slot = some a) :
    ∃ t, finish before (s, []) = .next t ∧ LinksOnly s t ∧ t.newestAnswer = some a := by
  refine ⟨_, rfl, ?_, ?_⟩
  · have := LinksOnly.ends s before
    unfold event
    rwa [runOut_nil]
  · unfold event
    rw [runOut_nil]
    exact s.ends_newestAnswer before a h

end Sys2Proof.Machine
end

