-- ==== Sys2Proof/Laws/Choices.lean ====
section
/-! SUPPORT. What the two definitions that read a free value between the readings of R114 and of R53, R92 and R108
can answer. -/

namespace Sys2Proof.Machine

/-- The setting at the acceptance or the one at the settlement, by the free value (log 45). -/
theorem saleMultiVend_eq (x : Sale) (s : State) :
    saleMultiVend x s = if Config.multiVendKept then x.multiVend else s.settings.multiVend := by
  unfold saleMultiVend
  split
  · simp_all
  · rfl

/-- Unwritten during the sale, the setting counts whatever the free value. -/
theorem saleMultiVend_of_eq {x : Sale} {s : State} (h : x.multiVend = s.settings.multiVend) :
    saleMultiVend x s = s.settings.multiVend := if_pos h

/-- BUSY of a TUBE_OUT: R53's check of the payout unit, or R114's of the sale unit where the free value has it
(log 46). -/
theorem tubeOutBusy_iff (s : State) :
    tubeOutBusy s = true ↔ s.payIdle = false ∨ (s.saleIdle = false ∧ Config.tubeOutWaitsForSale = true) := by
  simp [tubeOutBusy]

/-- With the sale unit IDLE the check is R53's alone. -/
theorem tubeOutBusy_of_saleIdle {s : State} (h : s.saleIdle = true) : tubeOutBusy s = !s.payIdle := by
  simp [tubeOutBusy, h]

end Sys2Proof.Machine
end

