-- ==== Sys2Proof/Laws/Ledger.lean ====
section
/-! SUPPORT. The credit ledger's operations (R23 to R28) keep its identity and its ranges (R29, R30). -/

namespace Sys2Proof.Laws

open Sys2Proof Sys2Proof.Machine

/-- R29, of a ledger. -/
def LedgerKept (l : Ledger) : Prop :=
  l.cashIn = BitVec.ofNat 32 (l.credit + l.hold + l.pending) + l.settled + l.changePaid + l.changeOwed

/-- R30, of a ledger. -/
def LedgerBounded (l : Ledger) : Prop := l.credit ≤ 9999 ∧ l.hold ≤ 9999 ∧ l.pending ≤ 65535

theorem moneyKept_iff (s : State) : MoneyKept s ↔ LedgerKept s.ledger := Iff.rfl
theorem moneyBounded_iff (s : State) : MoneyBounded s ↔ LedgerBounded s.ledger := Iff.rfl

theorem ofNat_sum {a b c d : Nat} (h : a + b = c + d) :
    BitVec.ofNat 32 a + BitVec.ofNat 32 b = BitVec.ofNat 32 c + BitVec.ofNat 32 d := by
  rw [← BitVec.ofNat_add, ← BitVec.ofNat_add, h]

theorem kept_of {cashIn cashIn' settled settled' paid paid' owed owed' : BitVec 32} {n n' : Nat}
    (h : cashIn = BitVec.ofNat 32 n + settled + paid + owed) (m k : Nat)
    (hin : cashIn' = cashIn + BitVec.ofNat 32 m)
    (hout : settled' + paid' + owed' = settled + paid + owed + BitVec.ofNat 32 k) (hn : n' + k = n + m) :
    cashIn' = BitVec.ofNat 32 n' + settled' + paid' + owed' := by
  have h1 := ofNat_sum hn
  rw [hin, h]
  have e1 : BitVec.ofNat 32 n' + settled' + paid' + owed' = BitVec.ofNat 32 n' + (settled' + paid' + owed') := by
    simp only [BitVec.add_assoc]
  rw [e1, hout]
  calc BitVec.ofNat 32 n + settled + paid + owed + BitVec.ofNat 32 m
      = (BitVec.ofNat 32 n + BitVec.ofNat 32 m) + (settled + paid + owed) := by ac_rfl
    _ = (BitVec.ofNat 32 n' + BitVec.ofNat 32 k) + (settled + paid + owed) := by rw [h1]
    _ = BitVec.ofNat 32 n' + (settled + paid + owed + BitVec.ofNat 32 k) := by ac_rfl

theorem deposit_kept {l : Ledger} (v : Nat) (h : LedgerKept l) : LedgerKept (l.deposit v) := by
  refine kept_of h v (l.pending + (l.credit + v - 9999) - 65535) rfl ?_ ?_
  · simp [Ledger.deposit, Ledger.addPending, Ledger.excess, Ledger.over, Config.moneyMax, Config.pendingMax,
      BitVec.add_assoc]
  · simp [Ledger.deposit, Ledger.addPending, Ledger.excess, Ledger.over, Config.moneyMax, Config.pendingMax]; omega

theorem returnHold_kept {l : Ledger} (h : LedgerKept l) : LedgerKept l.returnHold := by
  refine kept_of h 0 (l.pending + (l.credit + l.hold - 9999) - 65535) (by simp [Ledger.returnHold, Ledger.addPending])
    ?_ ?_
  · simp [Ledger.returnHold, Ledger.addPending, Ledger.excess, Ledger.over, Config.moneyMax, Config.pendingMax,
      BitVec.add_assoc]
  · simp [Ledger.returnHold, Ledger.addPending, Ledger.excess, Ledger.over, Config.moneyMax, Config.pendingMax]; omega

theorem releaseAll_kept {l : Ledger} (h : LedgerKept l) : LedgerKept l.releaseAll := by
  refine kept_of h 0 (l.pending + l.credit - 65535) (by simp [Ledger.releaseAll, Ledger.addPending]) ?_ ?_
  · simp [Ledger.releaseAll, Ledger.addPending, Ledger.excess, Config.pendingMax, BitVec.add_assoc]
  · simp [Ledger.releaseAll, Ledger.addPending, Ledger.excess, Config.pendingMax]; omega

theorem takeHold_kept {l : Ledger} (p : Nat) (h : LedgerKept l) : LedgerKept (l.takeHold p) := by
  unfold Ledger.takeHold
  split
  · rename_i hc
    simp only [Ledger.canHold, Bool.and_eq_true, decide_eq_true_eq] at hc
    refine kept_of h 0 0 (by simp) (by simp) ?_
    simp only; omega
  · exact h

theorem settle_kept {l : Ledger} (h : LedgerKept l) : LedgerKept l.settle := by
  refine kept_of h 0 l.hold (by simp [Ledger.settle]) ?_ ?_
  · simp only [Ledger.settle]; ac_rfl
  · simp only [Ledger.settle]; omega

theorem payBooked_kept {l : Ledger} (x : Nat) (h : LedgerKept l) : LedgerKept (l.payBooked x) := by
  refine kept_of h 0 (min x l.pending) (by simp [Ledger.payBooked]) ?_ ?_
  · simp only [Ledger.payBooked]; ac_rfl
  · simp only [Ledger.payBooked]; omega

theorem owe_kept {l : Ledger} (x : Nat) (h : LedgerKept l) : LedgerKept (l.owe x) := by
  refine kept_of h 0 (min x l.pending) (by simp [Ledger.owe]) ?_ ?_
  · simp only [Ledger.owe]; ac_rfl
  · simp only [Ledger.owe]; omega

theorem deposit_bounded {l : Ledger} (v : Nat) (h : LedgerBounded l) : LedgerBounded (l.deposit v) := by
  simp only [LedgerBounded, Ledger.deposit, Ledger.addPending, Config.moneyMax, Config.pendingMax] at *; omega

theorem returnHold_bounded {l : Ledger} : LedgerBounded l.returnHold := by
  simp only [LedgerBounded, Ledger.returnHold, Ledger.addPending, Config.moneyMax, Config.pendingMax]; omega

theorem releaseAll_bounded {l : Ledger} (h : LedgerBounded l) : LedgerBounded l.releaseAll := by
  simp only [LedgerBounded, Ledger.releaseAll, Ledger.addPending, Config.pendingMax] at *; omega

theorem takeHold_bounded {l : Ledger} (p : Nat) (h : LedgerBounded l) : LedgerBounded (l.takeHold p) := by
  simp only [LedgerBounded, Ledger.takeHold, Ledger.canHold, Bool.and_eq_true, decide_eq_true_eq] at *
  split
  · simp_all; omega
  · simp_all

theorem settle_bounded {l : Ledger} (h : LedgerBounded l) : LedgerBounded l.settle := by
  simp only [LedgerBounded, Ledger.settle] at *; omega

theorem payBooked_bounded {l : Ledger} (x : Nat) (h : LedgerBounded l) : LedgerBounded (l.payBooked x) := by
  simp only [LedgerBounded, Ledger.payBooked] at *; omega

theorem owe_bounded {l : Ledger} (x : Nat) (h : LedgerBounded l) : LedgerBounded (l.owe x) := by
  simp only [LedgerBounded, Ledger.owe] at *; omega

/-! ### The load arbiter: a pass and what reaches it change the load record alone -/

/-- Everything a pass grants fits in the free units (R119). -/
theorem passGrants_fit : ∀ (rs : List LoadRequest) (free : Nat), ((passGrants free rs).map Grant.units).sum ≤ free
  | [], _ => by simp [passGrants]
  | r :: rs, free => by
    unfold passGrants
    split
    · have := passGrants_fit rs (free - r.counted); simp; omega
    · simp

/-- What reaches the arbiter changes the load record, and hands on grants of that record alone (R117 to R125). -/
theorem loadStep_eq (op : LoadOp) (s : State) :
    ∃ l : Load, (loadStep op s).1 = s.setLoad l ∧
      ((loadStep op s).2 = [] ∧ l = s.load ∨ ∃ m : Load, (loadStep op s).2 = handOn m.passMakes ∧ l = m.pass) := by
  have same : s.setLoad s.load = s := rfl
  cases op with
  | ask who =>
    simp only [loadStep]; split
    · exact ⟨_, same.symm, .inl ⟨rfl, rfl⟩⟩
    · exact ⟨_, rfl, .inr ⟨_, rfl, rfl⟩⟩
  | release who =>
    simp only [loadStep]; split
    · exact ⟨_, rfl, .inr ⟨_, rfl, rfl⟩⟩
    · exact ⟨_, same.symm, .inl ⟨rfl, rfl⟩⟩
  | reduce =>
    simp only [loadStep]; split
    · exact ⟨_, same.symm, .inl ⟨rfl, rfl⟩⟩
    · exact ⟨_, rfl, .inr ⟨_, rfl, rfl⟩⟩
  | withdraw who =>
    simp only [loadStep]; split
    · exact ⟨_, rfl, .inr ⟨_, rfl, rfl⟩⟩
    · exact ⟨_, same.symm, .inl ⟨rfl, rfl⟩⟩
  | promote who => exact ⟨_, rfl, .inr ⟨_, rfl, rfl⟩⟩
  | recount => exact ⟨_, rfl, .inr ⟨_, rfl, rfl⟩⟩

end Sys2Proof.Laws
end

