-- ==== Sys2Proof/Laws/Map.lean ====
section
/-! SUPPORT. The shape of the links (R58) reads a selection's head and a column's next alone. -/

namespace Sys2Proof.Laws

open Sys2Proof Sys2Proof.Machine

theorem filterMap_set_congr {α β : Type} (f : α → Option β) (l : List α) (n : Nat) {x y : α} (h : f x = f y) :
    (l.set n x).filterMap f = (l.set n y).filterMap f := by
  have key : ∀ z : α, (l.set n z).filterMap f = ((l.map f).set n (f z)).filterMap id := fun z => by
    rw [← List.map_set, List.filterMap_map]; rfl
  rw [key x, key y, h]

/-- Two columns' worth of chains agree where their nexts do. -/
theorem chainEnds_congr {a b : Vector Column 64} (h : ∀ c : ColumnId, a[c].next = b[c].next) :
    ∀ (n : Nat) (c : Option ColumnId), chainEnds a n c = chainEnds b n c
  | 0, none => rfl
  | 0, some _ => rfl
  | _ + 1, none => rfl
  | n + 1, some c => by simp only [chainEnds]; rw [h c]; exact chainEnds_congr h n _

/-- The lists of a map agree where the columns' nexts and the selection's head do. -/
theorem chainFrom_congr {a b : Vector Column 64} (h : ∀ c : ColumnId, a[c].next = b[c].next) :
    ∀ (n : Nat) (c : Option ColumnId), chainFrom a n c = chainFrom b n c
  | 0, _ => rfl
  | _ + 1, none => rfl
  | n + 1, some c => by simp only [chainFrom]; rw [h c, chainFrom_congr h n]

theorem linksKept_selection (m : SelMap) (i : SelectionId) {x y : Selection} (h : x.head = y.head) :
    SelMap.linksKept { m with selections := m.selections.set i x } =
      SelMap.linksKept { m with selections := m.selections.set i y } := by
  simp only [SelMap.linksKept, SelMap.links, Vector.toList_set]
  rw [filterMap_set_congr Selection.head _ _ h]

theorem linksKept_column (m : SelMap) (c : ColumnId) {x y : Column} (h : x.next = y.next) :
    SelMap.linksKept { m with columns := m.columns.set c x } =
      SelMap.linksKept { m with columns := m.columns.set c y } := by
  have hc : ∀ d : ColumnId, (m.columns.set c x)[d].next = (m.columns.set c y)[d].next := fun d => by
    simp only [Fin.getElem_fin, Vector.getElem_set]; split <;> simp_all
  simp only [SelMap.linksKept, SelMap.links, Vector.toList_set]
  rw [filterMap_set_congr Column.next _ _ h]
  simp only [chainEnds_congr hc]

end Sys2Proof.Laws
end

