-- ==== Sys2Proof/WellFormed.lean ====
section
/-! DEFINITION. Which commands a frame can carry: R159 bounds a payload at 120 bytes and R177 gives the size of
each request. `exec` has a meaning for every command, well formed or not. -/

namespace Sys2Proof

/-- A WRITE's payload (table, index, records) is not empty of records and fits a frame (R177, R159). -/
def recordsFit (recordBytes n : Nat) : Bool :=
  decide (1 ≤ n) && decide (2 + recordBytes * n ≤ Config.payloadMax)

/-- A calibration WRITE carries its count byte and four bytes a breakpoint (R177). -/
def pointsFit (n : Nat) : Bool := decide (3 + 4 * n ≤ Config.payloadMax)

/-- A RELAY carries a kind and at most 119 bytes (R190). -/
def relayFits (n : Nat) : Bool := decide (1 + n ≤ Config.payloadMax)

/-- Bytes of a frame as it arrives: sync, header, check, payload and CRC make at most 127 (R159). -/
def frameFits (n : Nat) : Bool := decide (n ≤ 7 + Config.payloadMax)

/-- The commands the links and the wires can bring. -/
def Instr.wellFormed : Instr → Bool
  | .powerOn => true
  | .doorSwitch _ => true
  | .holdAsserted => true
  | .holdReleased => true
  | .frameTransmitted => true
  | .serviceFrameDiscarded bytes => frameFits bytes.length
  | .serviceByteGap bytes => frameFits bytes.length
  | .read _ _ _ _ => true
  | .writeCoinTable _ _ rs => recordsFit 3 rs.length
  | .writeBillTable _ _ rs => recordsFit 3 rs.length
  | .writeTubeTable _ _ rs => recordsFit 5 rs.length
  | .writeSelectionTable _ _ rs => recordsFit 5 rs.length
  | .writeColumnTable _ _ rs => recordsFit 4 rs.length
  | .writeCalibrationTable _ _ ps => pointsFit ps.length
  | .writeChannelTable _ _ os => recordsFit 1 os.length
  | .writeZoneTable _ _ rs => recordsFit 8 rs.length
  | .writeSettings _ _ rs => recordsFit 15 rs.length
  | .writeRelayTable _ _ rs => recordsFit 1 rs.length
  | .mode _ _ => true
  | .select _ _ => true
  | .approve _ _ _ => true
  | .lever _ => true
  | .testDrive _ _ => true
  | .tubeOut _ _ _ => true
  | .fill _ _ => true
  | .release _ _ => true
  | .defrost _ => true
  | .status _ _ => true
  | .restart _ => true
  | .relay _ _ payload => relayFits payload.length
  | .lineBreakEnd => true
  | .probeDue _ => true
  | .retryAt _ => true
  | .replyReceived bytes => frameFits bytes.length
  | .replyWindowExpiry => true
  | .replyGap bytes => frameFits bytes.length
  | .stackingLimitExpiry => true
  | .payLimitExpiry => true
  | .hostApprovalLimitExpiry => true
  | .readerApprovalLimitExpiry => true
  | .loadLimitExpiry => true
  | .homeSwitchOpens _ => true
  | .homeSwitchCloses => true
  | .motorCurrentChange _ => true
  | .openCheckExpiry _ => true
  | .leaveHomeLimitExpiry _ => true
  | .turnLimitExpiry => true
  | .jamRunExpiry => true
  | .dropWindowExpiry => true
  | .beamBroken => true
  | .beamUnbroken => true
  | .clearTimerExpiry => true
  | .blockTimerExpiry => true
  | .testLoadLimitExpiry => true
  | .promotionTimerExpiry _ => true
  | .sample _ _ => true
  | .dutyPhaseExpiry _ => true
  | .minOffPassed => true
  | .startWindowExpiry => true
  | .minRunExpiry => true
  | .defrostIntervalReached => true
  | .heaterTimerExpiry => true
  | .dripTimerExpiry => true
  | .temps => true
  | .excursionTimerExpiry _ => true

end Sys2Proof
end

