-- ==== Sys2Proof/Tests/Slice0.lean ====
section
/-! SUPPORT. Tests of the model: what WellFormed refuses, rows of the manual's worked sequences (each test names its
section), and for every statement with hypotheses a state and operands that meet them. -/

namespace Sys2Proof.Tests

set_option Elab.async false

open Sys2Proof Sys2Proof.Machine

/-! ### Building small states -/

/-- The state of an outcome. -/
def stateOf : Host.Outcome State Fault Refusal → Option State
  | .next t => some t
  | .fault _ => none
  | .refused _ => none

/-- The outcome is a next state of which `p` holds. -/
def endsIn (o : Host.Outcome State Fault Refusal) (p : State → Bool) : Bool := (stateOf o).any p

theorem exists_of_endsIn {o : Host.Outcome State Fault Refusal} (h : endsIn o (fun _ => true) = true) :
    ∃ t, o = .next t := by
  cases o with
  | next t => exact ⟨t, rfl⟩
  | fault r => cases r; simp [endsIn, stateOf] at h
  | refused r => simp [endsIn, stateOf] at h

def hdr : ReqHeader := { station := 0, corrected := false }

/-- A station that has joined. -/
def activeStation : Station := { Station.powerOn 100 with active := true, probeAt := none }

/-- The machine after reset with its stations ACTIVE and the line at rest. -/
def joined : State :=
  { State.reset with line := { State.reset.line with
      phase := .idle
      stations := Vector.replicate 7 activeStation } }

/-- `s` with a CALL to a station in progress. -/
def asked (st : StationId) (s : State) : State :=
  let x : Exchange :=
    { station := st, request := { kind := .call, payload := [], relayNo := none }
      turn := s.line.stations[st].turn, wire := [], windowEnd := s.now + 25 }
  { s with line := { s.line with phase := .exchange x } }

/-- A REPLY of a station to a request with turn bit 0. -/
def replyFrame (st : StationId) (payload : List Byte) : List Byte := buildFrame 0x90#8 (st.val + 1) false true payload

/-- The station is asked, and its REPLY brings a payload. -/
def brings (st : StationId) (payload : List Byte) (s : State) : Host.Outcome State Fault Refusal :=
  exec (.replyReceived (replyFrame st payload)) (asked st s)

/-- `s` in VEND with the drop sensor CLEAR. -/
def vending (s : State) : State :=
  { s with mode := { requested := .vend, fill := false, door := .closed, effective := .vend }
           drive := { s.drive with sensor := .clear, clearTimer := none } }

/-- `s` with a column AVAILABLE and a selection of FIRST search whose list it heads. -/
def stocked (i : SelectionId) (price : Nat) (c : ColumnId) (count : Nat) (s : State) : State :=
  { s with map := { s.map with
      pMin := some price
      columns := s.map.columns.set c { state := .available, zone := 0, turns := 2, count := some count, next := none }
      selections := s.map.selections.set i
        { price := price, head := some c, search := .first, cursor := none, approval := .none } } }

/-- `s` in SERVICE. -/
def serviced (s : State) : State :=
  { s with mode := { requested := .service, fill := false, door := .closed, effective := .service } }

/-- A shop: VEND, one selection of 50 units on column 3, 100 units of credit, the stations ACTIVE. -/
def shop : State :=
  let s := stocked 1 50 3 5 (vending joined)
  let t := { s with ledger := { s.ledger with credit := 100, cashIn := 100 } }
  { t with cash := { t.cash with acceptance := acceptSet t, handed := acceptSet t }
           port := { t.port with sending := none } }

/-- A CASH sale of 50 units of selection 1, in a stage. -/
def saleAt (stage : Stage) : Sale :=
  { stage := stage, number := 41, origin := .servicePort, selection := 1, source := .cash, price := 50
    approval := .none, triesAllowed := 2, multiVend := false, chosen := none, tried := [], told := .none, outcome := none
    loadLimit := none, approvalLimit := none, billStacked := false }

/-- An attempt on column 3 in a phase. -/
def attemptAt (requester : DriveRequester) (phase : DrivePhase) : Attempt :=
  { requester := requester, column := 3, turnsAllowed := 2, turnsDone := 0, dropSeen := false, judging := true
    phase := phase, motor := true, openCheck := none, leaveHome := none, turnLimit := none, jamRun := none
    dropWindow := none, result := none, before := .available }

/-- `s` with an attempt. -/
def driven (a : Attempt) (s : State) : State := { s with drive := { s.drive with attempt := some a } }

/-- `s` with a sale. -/
def selling (x : Sale) (s : State) : State := { s with sale := { s.sale with current := some x } }

/-- `s` with a tube of a coin type. -/
def tubed (n : TubeId) (c : CoinId) (value count : Nat) (s : State) : State :=
  { s with cash := { s.cash with
      coins := s.cash.coins.set c { value := value, accept := true, assured := false }
      tubes := s.cash.tubes.set n
        { coinType := some c, count := count, capacity := 100, full := 95, low := 10, trust := .exact } } }

/-- `s` with a form of the compressor and defrost record. -/
def planted (f : Plant → Plant) (s : State) : State := { s with cool := { s.cool with plant := f s.cool.plant } }

/-- `s` with zone B in DEMAND. -/
def wanting (s : State) : State :=
  { s with cool := { s.cool with zones := s.cool.zones.set 1 { s.cool.zones[(1 : ZoneId)] with demand := .demand } } }

/-! ### WellFormed: one ill-formed command for each check -/

theorem test_wf_empty_write : Instr.wellFormed (.writeCoinTable hdr 0 []) = false := by decide
theorem test_wf_long_write : Instr.wellFormed (.writeZoneTable hdr 0 (List.replicate 15
    { mode := 0, setpoint := 0, differential := 0, healthFlag := 0, healthLimit := 0, allowance := 0 })) = false := by
  decide
theorem test_wf_long_calibration :
    Instr.wellFormed (.writeCalibrationTable hdr 0 (List.replicate 30 { code := 0, temperature := 0 })) = false := by
  decide
theorem test_wf_long_relay : Instr.wellFormed (.relay hdr 0xC0 (List.replicate 120 0)) = false := by decide +kernel
theorem test_wf_long_frame : Instr.wellFormed (.replyReceived (List.replicate 128 0)) = false := by decide +kernel

/-! ### Rows of the worked sequences -/

/-- 1.8: COIN_SEEN 3, TUBE 0 at 94 of full 95: 95, and the routing turns to TUBE 1. -/
theorem test_coin_fills_tube :
    endsIn (brings coinMech [1, 3, 0]
        (let s := tubed 1 3 25 94 (tubed 0 3 25 94 (vending joined))
         { s with cash := { s.cash with routing := routesFor s.cash.tubes }
                  ledger := { s.ledger with credit := 25 } }))
      (fun t => decide (t.cash.tubes[(0 : TubeId)].count = 95 ∧ t.cash.routing[(3 : CoinId)] = .tube 1 ∧
        t.ledger.credit = 50 ∧ t.cash.tubes[(0 : TubeId)].trust = .exact)) = true := by
  decide +kernel

/-- 2.7: return_hold at credit 9900 and hold 300 stops at 9999 and sends 201 units to pending payout. -/
theorem test_return_hold_ceiling :
    Ledger.returnHold { credit := 9900, hold := 300, pending := 0, cashIn := 10200, settled := 0, changePaid := 0
                        changeOwed := 0 } =
      { credit := 9999, hold := 0, pending := 201, cashIn := 10200, settled := 0, changePaid := 0, changeOwed := 0 } := by
  decide

def coinsOf (p : PlanResult) : List Nat × Nat × Bool := (p.plan.map Prod.snd, p.shortfall, p.exact)

/-- 3.1, plain case. -/
theorem test_plan_plain : coinsOf (makePlan 475 [⟨0, 100, 5⟩, ⟨1, 25, 13⟩, ⟨2, 10, 30⟩, ⟨3, 5, 40⟩]) =
    ([4, 3, 0, 0], 0, true) := by decide +kernel
/-- 3.1, not greedy. -/
theorem test_plan_not_greedy : coinsOf (makePlan 60 [⟨0, 50, 1⟩, ⟨1, 20, 3⟩]) = ([0, 3], 0, true) := by
  decide +kernel
/-- 3.1, underpay. -/
theorem test_plan_underpay : coinsOf (makePlan 65 [⟨0, 50, 1⟩, ⟨1, 20, 1⟩]) = ([1, 0], 15, false) := by
  decide +kernel
/-- R42. -/
theorem test_split : (splitCoins 2 10 32).map PayCmd.coins = [15, 15, 2] := by decide

/-- 3.4: PAID 2, 1 coin of 3: tube 2 is EMPTY, and the replan of 495 pays 450 and owes 45, PAY (4, 15) first. -/
theorem test_short_paid_replans :
    endsIn (brings coinMech [2, 2, 1]
        (let s := tubed 5 0 5 10 (tubed 4 1 10 40 (tubed 2 2 50 3 joined))
         { s with
           ledger := { s.ledger with pending := 545 }
           payout := { Payout.powerOn with
             phase := .paying, payJoined := true, limit := some 30000
             inFlight := some { tube := 2, coins := 3, value := 50 }
             remaining := [⟨4, 15, 10⟩, ⟨4, 15, 10⟩, ⟨4, 9, 10⟩, ⟨5, 1, 5⟩]
             entries := [{ tube := 2, asked := 3, paid := 0, ending := none }] } }))
      (fun t => decide (t.ledger.pending = 450 ∧ t.payout.paid = 50 ∧ t.ledger.changeOwed = 45 ∧
        t.cash.tubes[(2 : TubeId)].count = 0 ∧ t.payout.inFlight = some ⟨4, 15, 10⟩ ∧
        t.payout.remaining.length = 3)) = true := by
  decide +kernel

/-- 4.8: column 23 with next 23 is a loop. -/
theorem test_column_loop_refused :
    endsIn (exec (.writeColumnTable hdr 23 [{ stateZone := 0x10, turns := 2, count := 8, next := 23 }]) joined)
      (fun t => decide (t.newestAnswer.map Answer.code = some .listError ∧ t.map = joined.map)) = true := by
  decide +kernel

/-- 5.7: the home switch closes at 2.64 s: DROP_WAIT with turns done 1 and a drop window to 3.84 s. -/
theorem test_home_closes :
    endsIn (exec .homeSwitchCloses { driven { attemptAt .sale .turning with turnLimit := some 5170 } (vending joined)
        with now := 2640 })
      (fun t => decide (t.drive.attempt.map (fun a => (a.phase, a.motor, a.turnsDone, a.dropWindow)) =
        some (.dropWait, false, 1, some 3840))) = true := by
  decide +kernel

/-- 6.10: KEY 27 with 100 units of credit and a 200-unit bill HELD: sale 41 stacks the bill. -/
theorem test_key_stacks_bill :
    endsIn (brings panel [8, 27]
        (let s := stocked 27 180 50 5 (vending joined)
         { s with ledger := { s.ledger with credit := 100 }, cash := { s.cash with escrow := .held 1 200 }
                  sale := { s.sale with lastNumber := 40 } }))
      (fun t => decide (t.cash.escrow = .stacking 1 200 8000 ∧
        t.sale.current.map (fun x => (x.number, x.stage, x.source)) = some (41, .stacking, .cash) ∧
        t.line.queue.any (fun e => decide (e.request.kind = .keepBill)))) = true := by
  decide +kernel

/-- 7.7: the start window ends: the compressor holds 3 units, and the waiting spiral gets its 2. -/
theorem test_start_window_lets_spiral_in :
    endsIn (exec .startWindowExpiry
        (let s := planted (fun p => { p with phase := .starting, startWindow := some 7000, minRun := some 60000 })
           (selling { saleAt .loadWait with chosen := some 3, loadLimit := some 34000 } (wanting shop))
         { s with load := { budget := 8, grants := [⟨.compressor, 7⟩]
                            requests := [⟨.spiral, 2, 2, 4000, false⟩] } }))
      (fun t => decide (t.load.grants = [⟨.compressor, 3⟩, ⟨.spiral, 2⟩] ∧ t.load.requests = [] ∧
        t.drive.energised = some 3 ∧ t.cool.plant.phase = .running)) = true := by
  decide +kernel

/-- 8.2: code 505 lies at −49.5 of its segment, rounded to −50; codes 120 and 900 are at the table's ends. -/
theorem test_conversion : convertCode defaultCalibration 505 = (90, false) ∧
    convertCode defaultCalibration 120 = (600, true) ∧ convertCode defaultCalibration 900 = (-200, true) := by decide
/-- 8.2: 91.5 rounds to 92, and −3.75 to −4. -/
theorem test_average : meanOf [90, 91, 93, 92] = 92 ∧ meanOf [-3, -4, -4, -4] = -4 := by decide

/-- 8.7: min off passes at 180 s; zone B calls, and the compressor is granted 7 units. -/
theorem test_first_start :
    endsIn (exec .minOffPassed (wanting State.reset))
      (fun t => decide (t.now = 180000 ∧ t.cool.plant.phase = .starting ∧ t.load.grants = [⟨.compressor, 7⟩] ∧
        t.cool.plant.startWindow = some 183000 ∧ t.cool.plant.minRun = some 240000)) = true := by
  decide +kernel

/-- 8.7: the run time reaches 6 h: the compressor stops, and the heater is on in the same event. -/
theorem test_defrost_by_run_time :
    endsIn (exec .defrostIntervalReached
        (let s := planted (fun p => { p with phase := .running, runMs := 21600000 }) (wanting State.reset)
         { s with now := 30000000, load := { s.load with grants := [⟨.compressor, 3⟩] } }))
      (fun t => decide (t.cool.plant.phase = .heating ∧ t.cool.plant.runMs = 0 ∧ t.cool.plant.due = false ∧
        t.load.grants = [⟨.heater, 4⟩] ∧ t.cool.plant.lastStop = 30000000)) = true := by
  decide +kernel

/-- 9.7: a NORMAL zone's sample of 51 against the limit of 50 starts an excursion. -/
theorem test_excursion_starts : healthOnTemperature .normal 50 51 412000 = (.warning 412000, some .excursion) ∧
    healthOnTemperature (.warning 412000) 50 50 1687000 = (.normal, some .recovered) := by decide

/-- 10.1: a CALL to station 1 with turn bit 0 has the check byte 0x04. -/
theorem test_call_check : (LineRequest.plain .call).wire coinMech false = [0x5A#8, 0x82#8, 0x01#8, 0x00#8, 0x04#8] := by
  decide
/-- 10.1: with H1 bit 0 lost the header is corrected back. -/
theorem test_call_corrected : judgeHeader { h0 := 0x82#8, h1 := 0x00#8, h2 := 0x00#8, check := 0x04#8 } =
    .corrected { h0 := 0x82#8, h1 := 0x01#8, h2 := 0x00#8, check := 0x04#8 } := by decide

/-- 10.9, exchange 1: a reply with two header bits inverted is a miss, and the request stays outstanding. -/
theorem test_uncorrectable_reply_is_miss :
    endsIn (exec (.replyReceived [0x5A#8, 0x93#8, 0x21#8, 0x00#8, 0x00#8])
        (asked coinMech (let s := joined
          let r : Station := { activeStation with outstanding := some (.plain .call) }
          { s with line := { s.line with stations := s.line.stations.set coinMech r } })))
      (fun t => decide (t.line.stations[(0 : StationId)].misses = 1 ∧
        t.line.stations[(0 : StationId)].outstanding = some (.plain .call) ∧
        t.line.stations[(0 : StationId)].turn = false)) = true := by
  decide +kernel

/-- 11.7: with 20 reports queued a selection is refused BUSY_REPORTS. -/
theorem test_busy_reports :
    endsIn (exec (.select hdr 1) { shop with port := { shop.port with
        reports := List.replicate 20 (.strayDrop { attempt := none }) } })
      (fun t => decide (t.newestAnswer.map Answer.code = some .busyReports ∧ t.sale.current = none)) = true := by
  decide +kernel

/-- R184: the door opens in VEND. -/
theorem test_door_opens :
    endsIn (exec (.doorSwitch .opened) shop) (fun t => decide (t.mode.effective = .service)) = true := by
  decide +kernel

/-- R66: one event changes a column's zone and its state: the notice names ZONE. -/
theorem test_zone_and_state_notice :
    (let r : Column := { state := .disabled, zone := 1, turns := 2, count := none, next := none }
     noticeCause shop.map { shop.map with columns := shop.map.columns.set 3 r } 3) = .zone := by decide +kernel

/-- R168: a reply of an unknown kind is flagged whatever its turn bit. -/
theorem test_unknown_reply_kind :
    judgeReply { station := 0, request := .plain .call, turn := false, wire := [], windowEnd := 25 }
      (buildFrame 0x92#8 1 true true []) = .miss true := by decide

/-- R168: a gap breaks off a reply of an unknown kind after its header: a miss, with KIND_UNKNOWN. -/
theorem test_gap_flags_unknown_kind :
    endsIn (exec (.replyGap ((buildFrame 0x92#8 1 false true [7, 7]).take 6)) (asked coinMech joined))
      (fun t => decide (t.port.conditions = Conditions.none.flag .kindUnknown ∧
        t.line.stations[(0 : StationId)].misses = 1)) = true := by decide +kernel

/-- R145, R188: STATUS(COOLING) with the plant as power-on leaves it: LOCKOUT, no run time, not due, and the six defaults. -/
theorem test_status_gives_cooling_settings :
    endsIn (exec (.status hdr 5) shop)
      (fun t => decide (t.newestAnswer.map Answer.data = some (.snapshot (.cooling .lockout 0 false 0
        { minOff := 180, minRun := 60, defrostInterval := 6, heaterMax := 30, termination := 80, drip := 180 })))) =
      true := by decide +kernel

/-- R55, R89: the mode leaves SERVICE with a test drive under way and a manual payout waiting for its unit: the payout's
request is withdrawn, and no PAY is made. -/
theorem test_service_left_cuts_waiting_payout :
    endsIn (exec (.mode hdr 0)
        (let s := serviced joined
         { driven { attemptAt .test .dropWait with motor := false } s with
           load := { budget := 2, grants := [⟨.testDrive, 2⟩], requests := [⟨.payout, 1, 1, 0, false⟩] }
           payout := { Payout.powerOn with phase := .loadWait, manual := true, remaining := [⟨5, 1, 10⟩] } }))
      (fun t => decide (t.payout.phase = .idle ∧ t.load.requests = [] ∧ t.payout.entries = [] ∧
        t.line.queue.all (fun e => decide (e.request.kind ≠ .pay)) = true)) = true := by
  decide +kernel

/-! ### States and operands that meet the statements' hypotheses -/

/-- The shop with a lever request waiting. -/
def shopLever : State := { shop with pending := [.lever hdr] }

theorem shop_takes : shop.takes hdr := ⟨rfl, rfl⟩

theorem shopLever_steps : ∃ t, step shopLever = .next t := exists_of_endsIn (by decide +kernel)

theorem witness_IdleStepIsAMillisecond : shop.pending = [] := rfl
theorem witness_MoneyKeptByStep : MoneyKept shopLever ∧ ∃ t, step shopLever = .next t :=
  ⟨by unfold MoneyKept; decide +kernel, shopLever_steps⟩
theorem witness_MoneyBoundedByStep : MoneyBounded shopLever ∧ ∃ t, step shopLever = .next t :=
  ⟨by unfold MoneyBounded; decide +kernel, shopLever_steps⟩
/-- Each row of R35's table: SETUP, SERVICE with fill off and on, VEND closed for each of its three grounds, and open. -/
theorem witness_AcceptanceSetCurrent : (SetCurrent shopLever ∧ ∃ t, step shopLever = .next t) ∧
    joined.mode.effective = .setup ∧ ((serviced shop).mode.effective = .service ∧ (serviced shop).mode.fill = false) ∧
    (let s : State := { serviced shop with mode := { (serviced shop).mode with fill := true } }
     s.mode.effective = .service ∧ s.mode.fill = true) ∧
    (let s : State := { shop with port := { shop.port with
       reports := List.replicate 20 (.strayDrop { attempt := none }) } }
     s.mode.effective = .vend ∧ 20 ≤ s.port.reports.length) ∧
    (let s : State := { shop with ledger := { shop.ledger with credit := 2000 } }
     s.settings.creditMax ≤ s.ledger.credit) ∧
    (vending joined).map.pMin = none ∧
    (shop.port.reports.length < 20 ∧ shop.ledger.credit < shop.settings.creditMax ∧ shop.map.pMin = some 50) :=
  ⟨⟨by unfold SetCurrent; decide +kernel, shopLever_steps⟩, by decide +kernel⟩
theorem witness_ReportsBoundedByStep : ReportsBounded shopLever ∧ ∃ t, step shopLever = .next t :=
  ⟨by unfold ReportsBounded; decide +kernel, shopLever_steps⟩
theorem witness_LineQueueBoundedByStep : LineQueueBounded shopLever ∧ ∃ t, step shopLever = .next t :=
  ⟨by unfold LineQueueBounded; decide +kernel, shopLever_steps⟩
theorem witness_GrantsWithinBudget : WithinBudget shopLever ∧ ∃ t, step shopLever = .next t :=
  ⟨by unfold WithinBudget; decide +kernel, shopLever_steps⟩
theorem witness_LinksShapedByStep : LinksShaped shopLever ∧ ∃ t, step shopLever = .next t :=
  ⟨by unfold LinksShaped; decide +kernel, shopLever_steps⟩
theorem witness_ModeDerivedByStep : ModeDerived shopLever ∧ ∃ t, step shopLever = .next t :=
  ⟨by unfold ModeDerived; decide +kernel, shopLever_steps⟩

/-- Zone B in DEMAND, LOCKOUT, and min off about to pass. -/
def starting : State := { wanting State.reset with pending := [.minOffPassed] }

/-- The record in LOCKOUT with no timer running, the compressor off before the step and on after it. -/
theorem witness_CompressorRestsBetweenStarts : OffLongEnough starting ∧ starting.compressorOn = false ∧
    endsIn (step starting) State.compressorOn = true :=
  ⟨by unfold OffLongEnough PlantTimersPlaced; decide +kernel, by decide +kernel, by decide +kernel⟩

theorem witness_TubesRankedAndPlansSplit : (⟨2, 15, 10⟩ : PayCmd) ∈ (splitCoins 2 10 16).dropLast := by decide
theorem witness_PlannerGivesGreatestPlan : ∀ t ∈ ([⟨0, 50, 1⟩, ⟨1, 20, 3⟩] : List RankedTube), 0 < t.value := by
  decide
/-- Requests in the order of their times, with a step; and a list with a request of each group, none of which fits. -/
theorem witness_PassGrantsFrontOfRank :
    (let s : State := { shopLever with load :=
       { budget := 8, grants := [⟨.compressor, 7⟩], requests := [⟨.spiral, 2, 2, 0, false⟩, ⟨.payout, 1, 1, 0, false⟩] } }
     RequestsInOrder s ∧ ∃ t, step s = .next t) ∧
    (let l : Load := { budget := 4, grants := [⟨.compressor, 3⟩],
                       requests := [⟨.heater, 4, 4, 0, false⟩, ⟨.spiral, 2, 2, 5, false⟩] }
     l.requests.Pairwise (fun a b => a.time ≤ b.time) ∧
       l.ranked = [] ++ [⟨.spiral, 2, 2, 5, false⟩, ⟨.heater, 4, 4, 0, false⟩]) :=
  ⟨⟨by unfold RequestsInOrder; decide +kernel, exists_of_endsIn (by decide +kernel)⟩, by decide⟩
theorem witness_HeaderCheckCorrectsOneBit : 23 < 24 ∧ 5 < 6 ∧ 6 ≤ 7 ∧ 7 < 8 ∧ 22 < 23 := by decide
theorem witness_RequestFrameReadsBack : ([27] : List Byte).length ≤ 120 ∧ sizeFits 4 [27] = true ∧ 23 < 24 ∧
    readRequest { station := 7, corrected := true } 4 [27] =
      some (.command (.select { station := 7, corrected := true } 27)) := by decide

/-- At the first breakpoint, at the last, and at one between. -/
theorem witness_ConversionInterpolates :
    (150 ≤ 150 ∧ defaultCalibration = (150, 600) :: defaultCalibration.tail) ∧
    (150 < 850 ∧ 850 ≤ 850 ∧
      defaultCalibration = (150, 600) :: (defaultCalibration.tail.dropLast) ++ [(850, -200)]) ∧
    (defaultCalibration = [(150, 600), (250, 400)] ++ (350, 250) :: (450, 140) :: defaultCalibration.drop 4 ∧
      (defaultCalibration.map Prod.fst).Pairwise (· < ·) ∧ 350 ≤ 350 ∧ 350 < 450 ∧
      ∀ p ∈ defaultCalibration.head?, p.1 < 350) := by decide

/-- An ANSWER that waits. -/
def answerLeft : Answer := { kind := .lever, code := .ok, conditions := Conditions.none, data := .empty }

theorem witness_TransmitterTakesAnswerFirst :
    (let s : State := { shop with port := { shop.port with slot := some answerLeft } }
     s.port.sending = none ∧ s.port.slot = some answerLeft) ∧
    (let s : State := { shop with port := { shop.port with reports := [.strayDrop { attempt := none }] } }
     s.port.sending = none ∧ s.port.slot = none ∧ s.port.reports = .strayDrop { attempt := none } :: []) ∧
    (let s : State := { shop with port := { shop.port with sending := some (.answer answerLeft) } }
     s.port.sending = some (.answer answerLeft) ∧ s.pins.hold = false ∧ s.port.slot = none) ∧
    (let s : State := { shop with port := { shop.port with sending := some (.answer answerLeft) }
                                  pins := { shop.pins with hold := true } }
     s.port.sending = some (.answer answerLeft) ∧ s.pins.hold = true) := by decide +kernel

/-- A header with its check byte. -/
def checkedHeader (h0 h1 h2 : Byte) : Header :=
  { h0 := h0, h1 := h1, h2 := h2, check := checkByte (Header.bits { h0 := h0, h1 := h1, h2 := h2, check := 0 }) }

/-- Each step of R178 failed: at once, at station 8, at a spare bit or the direction, at length 121, in a short frame,
at a wrong size, at a wrong CRC, at kind 15. -/
theorem witness_DiscardedFrameFlagsFirstFailure :
    judgeHeader (((checkedHeader 6 0 0).flip 0).flip 1) = .uncorrectable ∧
    (judgeHeader (checkedHeader 6 8 0) = .clean (checkedHeader 6 8 0) ∧ 8 ≤ (checkedHeader 6 8 0).station) ∧
    (judgeHeader ((checkedHeader 6 0x40 0).flip 3) = .corrected (checkedHeader 6 0x40 0) ∧
      (checkedHeader 6 0x40 0).station < 8 ∧ 64 ≤ (checkedHeader 6 0x40 0).h1.toNat) ∧
    ((checkedHeader 6 0x20 0).station < 8 ∧ (checkedHeader 6 0x20 0).direction = true) ∧
    ((checkedHeader 1 0 121).station < 8 ∧ (checkedHeader 1 0 121).direction = false ∧
      (checkedHeader 1 0 121).h1.toNat < 64 ∧ 120 < (checkedHeader 1 0 121).h2.toNat) ∧
    (0 < (checkedHeader 1 0 3).h2.toNat ∧ ([1, 2, 3, 0] : List Byte).length < (checkedHeader 1 0 3).h2.toNat + 2) ∧
    sizeFits 3 [1, 2, 3] = false ∧
    (sizeFits 1 [1, 2, 3] = true ∧ ([0, 0] : List Byte) ≠ twoBytes (crc [1, 2, 3]).toNat) ∧
    (14 < (checkedHeader 15 0 3).h0.toNat ∧
      (([1, 2, 3] : List Byte) ++ twoBytes (crc [1, 2, 3]).toNat).drop 3 = twoBytes (crc [1, 2, 3]).toNat) := by
  decide +kernel

theorem witness_RequestOverrunDiscards :
    ({ shop with port := { shop.port with slot := some answerLeft } } : State).port.slot = some answerLeft := rfl

theorem witness_ModeFollowsRequestAndDoor :
    shop.drive.testRequest = none ∧ (∀ a, shop.drive.attempt = some a → a.requester = .sale) ∧
    shop.payout.manual = false ∧ (∀ b v, shop.cash.escrow ≠ .held b v) ∧ shop.takes hdr ∧
    (2#8 = 2#8 ∧ Mode.service = .service) ∧ 2 < (3#8).toNat ∧ shop.mode.effective ≠ .service ∧
    (serviced shop).mode.effective = .service := by
  refine ⟨rfl, (fun a h => by cases h), rfl, (fun b v h => by cases h), shop_takes, ⟨rfl, rfl⟩, by decide, by decide, rfl⟩

theorem witness_ReadAnswersRecords : shop.takes hdr ∧
    (let sizes : List (Nat × Nat) :=
       [(16, 16), (8, 8), (6, 6), (100, 20), (64, 24), (1, 1), (4, 4), (3, 3), (1, 1), (7, 7)]
     (sizes[(4#8).toNat]? = some (64, 24) ∧ (63#8).toNat < 64) ∧ 10 ≤ (10#8).toNat ∧
       (sizes[(2#8).toNat]? = some (6, 6) ∧ 6 ≤ (6#8).toNat)) := ⟨shop_takes, by decide⟩
theorem witness_StatusAnswersSnapshot : shop.takes hdr ∧ 8 < (9#8).toNat := ⟨shop_takes, by decide⟩

theorem witness_MoneyTablesWritten : shop.takes hdr ∧ (15#8).toNat < 16 ∧ (15#8).toNat + 1 ≤ 16 ∧
    shop.payout.phase = .idle ∧ (7#8).toNat < 8 ∧ (7#8).toNat + 1 ≤ 8 := ⟨shop_takes, by decide +kernel⟩

theorem witness_TubeTableWritten : shop.takes hdr ∧ (5#8).toNat < 6 ∧ (5#8).toNat + 1 ≤ 6 ∧
    (∀ p, shop.payout.inFlight = some p → p.tube.val < (5#8).toNat ∨ (5#8).toNat + 1 ≤ p.tube.val) ∧
    (15#8).toNat < 16 :=
  ⟨shop_takes, by decide, by decide, (fun p h => by cases h), by decide⟩

theorem witness_SelectionWritten : shop.takes hdr ∧ (99#8).toNat = (99 : SelectionId).val ∧
    shop.sale.current = none ∧ LinksShaped shop ∧
    (∃ c : ColumnId, (63#8).toNat = c.val ∧ (some 63 : Option ColumnId) = some c) ∧ (3#8).toNat < 4 ∧
    (let r : Selection := { shop.map.selections[(99 : SelectionId)] with head := some 63 }
     SelMap.linksKept { shop.map with selections := shop.map.selections.set (99 : SelectionId) r } = true) :=
  ⟨shop_takes, by decide, rfl, by unfold LinksShaped; decide +kernel, ⟨63, by decide⟩, by decide, by decide +kernel⟩

theorem witness_ColumnWritten : shop.takes hdr ∧ (63#8).toNat = (63 : ColumnId).val ∧ shop.sale.current = none ∧
    (∀ a, shop.drive.attempt = some a → a.column ≠ 63) ∧ (0x24#8).toNat = 16 * (2 : ZoneId).val + 4 ∧
    (∃ n : ColumnId, (0#8).toNat = n.val ∧ (some 0 : Option ColumnId) = some n) ∧
    (let r : Column := { shop.map.columns[(63 : ColumnId)] with next := some 0 }
     SelMap.linksKept { shop.map with columns := shop.map.columns.set (63 : ColumnId) r } = true) :=
  ⟨shop_takes, by decide, rfl, (fun a h => by cases h), by decide, ⟨0, by decide⟩, by decide +kernel⟩

theorem witness_CalibrationChannelsRelayWritten : shop.takes hdr ∧
    (let points : List RawBreakpoint := [⟨0, 0⟩, ⟨1023, 0⟩]
     2 ≤ points.length ∧ points.length ≤ 16 ∧ (∀ p ∈ points, p.code.toNat ≤ 1023) ∧
       (points.map fun p => p.code.toNat).Pairwise (· < ·)) ∧
    ((3#8).toNat < 4 ∧ (3#8).toNat + 1 ≤ 4) ∧ (6#8).toNat < 7 ∧ (6#8).toNat + 1 ≤ 7 :=
  ⟨shop_takes, by decide⟩

/-- Zone C with its health flag at an allowance of 33 min, equal to heater max and drip, and at 34 min. -/
theorem witness_ZoneWritten : shop.takes hdr ∧ (2#8).toNat = (2 : ZoneId).val ∧ shop.sale.current = none ∧
    shop.cool.plant.phase = .lockout ∧ (1#8 = 1#8 ∧ ZoneMode.chill = .chill) ∧
    max 10 (min 240 (33#8).toNat) * 60 ≤ shop.settings.heaterMax * 60 + shop.settings.drip ∧
    shop.settings.heaterMax * 60 + shop.settings.drip < max 10 (min 240 (34#8).toNat) * 60 :=
  ⟨shop_takes, by decide, rfl, rfl, ⟨rfl, rfl⟩, by decide, by decide⟩

/-- The shop with 5 units granted, and with no zone's health flag on. -/
theorem witness_SettingsWritten : shop.takes hdr ∧
    (let s : State := { shop with load := { budget := 8, grants := [⟨.compressor, 3⟩, ⟨.spiral, 2⟩], requests := [] } }
     max 4 (min 15 (4#8).toNat) < s.load.granted) ∧
    (let s : State := { shop with cool := { shop.cool with zones := Vector.replicate 3 (Zone.powerOn .chill false) } }
     s.load.granted ≤ max 4 (min 15 (4#8).toNat) ∧ s.load.requests = [] ∧
       (∀ z : ZoneId, s.cool.zones[z].healthFlag = false) ∧ s.cool.plant.phase = .lockout ∧
       s.cool.plant.heaterTimer = none ∧ s.cool.plant.dripTimer = none ∧
       s.now < s.cool.plant.lastStop + 1000 * max 120 (min 600 (120#16).toNat)) :=
  ⟨shop_takes, by decide +kernel, by decide +kernel⟩

theorem witness_RefusedWriteTakesNothing : shop.takes hdr ∧ 16 ≤ (16#8).toNat ∧ 16 < (15#8).toNat + 2 ∧
    (let s : State := { shop with payout := { shop.payout with phase := .paying } }
     s.payout.phase ≠ .idle ∧ min 2000 (5#16).toNat ≠ s.cash.coins[(15 : CoinId)].value) ∧
    (let s : State := { shop with payout := { shop.payout with inFlight := some ⟨5, 1, 10⟩ } }
     s.payout.inFlight = some ⟨5, 1, 10⟩) ∧
    ((driven (attemptAt .sale .turning) shop).drive.attempt = some (attemptAt .sale .turning)) ∧
    (shop.drive.attempt = none ∧ (7#8).toNat = (7 : ColumnId).val) :=
  ⟨shop_takes, by decide, by decide, by decide +kernel, rfl, rfl, rfl, by decide⟩

/-- The shop with a price of 50: outside VEND, busy, with 20 reports, with the sensor PENDING, and one unit short. -/
theorem witness_SelectRefusedByFirstCheck : shop.takes hdr ∧ 100 ≤ (100#8).toNat ∧
    (1#8).toNat = (1 : SelectionId).val ∧ (serviced shop).mode.effective ≠ .vend ∧
    (shop.mode.effective = .vend ∧ (selling (saleAt .driving) shop).sale.current ≠ none) ∧
    (shop.sale.current = none ∧ shop.payout.phase = .idle ∧
      20 ≤ (List.replicate 20 (Report.strayDrop { attempt := none })).length) ∧
    (shop.port.reports.length < 20 ∧
      ({ shop with drive := { shop.drive with sensor := .pending } } : State).drive.sensor ≠ .clear) ∧
    (let s : State := { shop with ledger := { shop.ledger with credit := 49 } }
     s.drive.sensor = .clear ∧ s.map.selectionSells 1 = true ∧
       s.ledger.credit + s.cash.escrow.value < s.map.selections[(1 : SelectionId)].price ∧ 0 < s.ledger.credit) :=
  ⟨shop_takes, by decide, by decide, by decide, by decide +kernel, by decide +kernel, by decide +kernel,
    by decide +kernel⟩

/-- Credit at the price; HOST approval; a card that holds the price; a bill that brings the last unit. -/
theorem witness_AcceptedSelectStartsSale : shop.takes hdr ∧ (1#8).toNat = (1 : SelectionId).val ∧
    shop.mode.effective = .vend ∧ shop.sale.current = none ∧ shop.payout.phase = .idle ∧
    shop.port.reports.length < 20 ∧ shop.drive.sensor = .clear ∧ shop.map.selectionSells 1 = true ∧
    shop.map.search 1 [] = some 3 ∧
    (let s : State := { shop with ledger := { shop.ledger with credit := 50 } }
     s.map.selections[(1 : SelectionId)].price ≤ s.ledger.credit ∧ s.ledger.hold = 0 ∧
       s.map.selections[(1 : SelectionId)].approval = .none ∧ SpiralReady s) ∧
    (let r : Selection := { price := 50, head := some 3, search := .first, cursor := none, approval := .host }
     let s : State := { shop with map := { shop.map with selections := shop.map.selections.set (1 : SelectionId) r } }
     s.map.selections[(1 : SelectionId)].approval = .host ∧ s.map.selectionSells 1 = true ∧
       s.map.search 1 [] = some 3) ∧
    (let s : State := { shop with ledger := { shop.ledger with credit := 0 }, card := .present (some 50) }
     s.ledger.credit + s.cash.escrow.value < 50 ∧ s.cash.escrow.full = false ∧ s.card = .present (some 50)) ∧
    (let s : State := { shop with ledger := { shop.ledger with credit := 49 }
                                  cash := { shop.cash with escrow := .held 1 1 } }
     s.cash.escrow = .held 1 1 ∧ s.ledger.credit < 50 ∧ 50 ≤ s.ledger.credit + 1 ∧ s.load.requests = [] ∧
       (∀ g ∈ s.load.grants, g.holder ≠ .stacking) ∧ 1 ≤ s.load.free) := by
  refine ⟨shop_takes, by decide, rfl, rfl, rfl, by decide, rfl, by decide +kernel, by decide +kernel, ?_, ?_, ?_, ?_⟩
  · unfold SpiralReady; decide +kernel
  · decide +kernel
  · decide +kernel
  · decide +kernel

/-- No sale, and a sale in HOST_APPROVAL, CASH and CASHLESS. -/
theorem witness_ApproveDecidesSale : shop.takes hdr ∧
    (∀ x, shop.sale.current = some x → x.stage = .hostApproval → x.number ≠ (41#16).toNat) ∧
    (let x := saleAt .hostApproval
     let s := selling x shop
     s.sale.current = some x ∧ x.stage = .hostApproval ∧ x.number = (41#16).toNat ∧ x.source = .cash ∧ SpiralReady s ∧
       x.tried = [] ∧ s.map.search x.selection [] = some 3 ∧ SettlesAlone s) ∧
    (let x := { saleAt .hostApproval with source := .cashless }
     let s := selling x shop
     s.sale.current = some x ∧ x.source = .cashless ∧ x.told = .none ∧ s.sale.pendingReturn = false) := by
  refine ⟨shop_takes, (fun x h => by cases h), ?_, by decide +kernel⟩
  unfold SpiralReady SettlesAlone; decide +kernel

theorem witness_SaleLimitsEndSale :
    (let x := { saleAt .hostApproval with approvalLimit := some 10000 }
     let s := selling x shop
     s.sale.current = some x ∧ x.stage = .hostApproval ∧ x.approvalLimit = some 10000 ∧ x.source = .cash ∧
       SettlesAlone s ∧ s.port.reports.length < 20) ∧
    (let x := { saleAt .readerApproval with approvalLimit := some 30000, source := .cashless, told := .asked }
     let s := selling x shop
     s.sale.current = some x ∧ x.stage = .readerApproval ∧ x.source = .cashless ∧ x.told = .asked ∧
       s.sale.pendingReturn = false ∧
       (let q : LineRequest := { kind := .chargeAsk, payload := [], relayNo := none }
        ({ activeStation with outstanding := some q } : Station).outstanding = some q)) ∧
    (let x := { saleAt .loadWait with loadLimit := some 30000 }
     let s : State := { selling x shop with
       load := { budget := 8, grants := [⟨.compressor, 7⟩], requests := [⟨.spiral, 2, 2, 0, false⟩] } }
     s.sale.current = some x ∧ x.loadLimit = some 30000 ∧ x.source = .cash ∧ SettlesAlone s ∧
       ∀ r ∈ s.load.requests, r.requester = .spiral) := by
  unfold SettlesAlone; decide +kernel

/-- A busy unit; no credit; a bill HELD with station 2 ACTIVE and away; station 1 away; station 1 ACTIVE with a plan. -/
theorem witness_LeverReturnsCredit : shop.takes hdr ∧ (selling (saleAt .driving) shop).sale.current ≠ none ∧
    (let s : State := { shop with ledger := { shop.ledger with credit := 0 } }
     s.sale.current = none ∧ s.payout.phase = .idle ∧ s.ledger.pending = 0 ∧ s.ledger.credit = 0) ∧
    (∀ b v, shop.cash.escrow ≠ .held b v) ∧
    (let s : State := { shop with cash := { shop.cash with escrow := .held 1 500 } }
     s.cash.escrow = .held 1 500 ∧ s.line.stations[validator].active = true ∧
       ({ State.reset with cash := s.cash } : State).line.stations[validator].active = false) ∧
    (let s : State := { shop with line := { shop.line with stations := Vector.replicate 7 (Station.powerOn 100) }
                                  ledger := { shop.ledger with credit := 9999 } }
     0 < s.ledger.credit ∧ s.ledger.credit ≤ 9999 ∧ s.line.stations[coinMech].active = false) ∧
    (let s := tubed 5 0 10 40 shop
     s.line.stations[coinMech].active = true ∧ s.load.requests = [] ∧ (∀ g ∈ s.load.grants, g.holder ≠ .payout) ∧
       1 ≤ s.load.free ∧
       ((makePlan s.ledger.credit (rankTubes s.cash Tube.count)).plan.map fun p =>
         splitCoins p.1.tube p.1.value p.2).flatten = [⟨5, 10, 10⟩] ∧
       0 < (makePlan 104 (rankTubes s.cash Tube.count)).shortfall ∧ s.port.reports.length < 20) :=
  ⟨shop_takes, by decide +kernel, by decide +kernel, (fun b v h => by cases h), by decide +kernel, by decide +kernel,
    by decide +kernel⟩

theorem witness_TestDriveStarts : (serviced shop).takes hdr ∧ 64 ≤ (64#8).toNat ∧ (63#8).toNat < 64 ∧
    shop.mode.effective ≠ .service ∧
    (let s := serviced shop
     s.mode.effective = .service ∧ (selling (saleAt .driving) s).sale.current ≠ none ∧ s.sale.current = none ∧
       s.drive.attempt = none ∧ s.drive.testRequest = none ∧ (∀ r ∈ s.load.requests, r.requester ≠ .testDrive) ∧
       (∀ g ∈ s.load.grants, g.holder ≠ .testDrive) ∧ s.load.requests = [] ∧ 2 ≤ s.load.free) ∧
    (let l : Load := { budget := 8, grants := [⟨.compressor, 7⟩], requests := [] }
     l.free < 2 ∧ 2 ≤ l.budget ∧ ∀ g ∈ l.grants, g.holder ≠ .testDrive) :=
  ⟨⟨rfl, rfl⟩, by decide, by decide, by decide, by decide +kernel, by decide⟩

theorem witness_TubeOutPays : (serviced shop).takes hdr ∧ 6 ≤ (6#8).toNat ∧ (5#8).toNat < 6 ∧
    shop.mode.effective ≠ .service ∧
    ({ serviced shop with payout := { shop.payout with phase := .paying } } : State).payout.phase ≠ .idle ∧
    (serviced State.reset).line.stations[coinMech].active = false ∧
    (selling (saleAt .driving) (serviced shop)).sale.current ≠ none ∧
    (let s := tubed 5 0 10 40 (serviced shop)
     s.mode.effective = .service ∧ s.payout.phase = .idle ∧ s.sale.current = none ∧ s.line.stations[coinMech].active = true ∧
       s.load.requests = [] ∧ (∀ g ∈ s.load.grants, g.holder ≠ .payout) ∧ 1 ≤ s.load.free ∧
       splitCoins 5 ((s.cash.tubes[(5 : TubeId)]).value s.cash.coins) (max 1 (min 250 (16#8).toNat)) =
         ⟨5, 15, 10⟩ :: [⟨5, 1, 10⟩]) :=
  ⟨⟨rfl, rfl⟩, by decide, by decide, by decide, by decide +kernel, by decide +kernel, by decide +kernel,
    by decide +kernel⟩

/-- Zone C HELD in SERVICE, its channel VALID at the limit of 50, and at 51. -/
theorem witness_ReleaseFreesHeldZone : (serviced shop).takes hdr ∧ 3 ≤ (3#8).toNat ∧ (2#8).toNat = (2 : ZoneId).val ∧
    shop.mode.effective ≠ .service ∧ (∀ cause, (serviced shop).health[(2 : ZoneId)] ≠ .held cause) ∧
    (let at' (t : Int) : State :=
       let c : Channel := { Channel.powerOn with status := .valid, temperature := some t }
       { serviced shop with
         health := shop.health.set 2 (.held .sensor)
         map := { shop.map with zoneHealth := shop.map.zoneHealth.set 2 .held }
         cool := { shop.cool with channels := shop.cool.channels.set 2 c } }
     (at' 50).health[(2 : ZoneId)] = .held .sensor ∧
       ((at' 50).cool.channels[zoneChannel 2]).status = .valid ∧
       ((at' 50).cool.channels[zoneChannel 2]).temperature = some 50 ∧ 50 ≤ (at' 50).cool.zones[(2 : ZoneId)].healthLimit ∧
       (at' 50).map.zoneHealth[(2 : ZoneId)] = .held ∧ (at' 50).sale.current = none ∧
       ((at' 51).cool.channels[zoneChannel 2]).temperature = some 51 ∧
       (at' 51).cool.zones[(2 : ZoneId)].healthLimit < 51) :=
  ⟨⟨rfl, rfl⟩, by decide, by decide, by decide, (fun cause h => by cases h), by decide +kernel⟩

theorem witness_DefrostCalled : shop.takes hdr ∧
    (planted (fun p => { p with phase := .drip }) shop).cool.plant.phase = .drip ∧
    shop.cool.plant.phase = .lockout ∧
    (let s := planted (fun p => { p with phase := .ready }) shop
     s.cool.plant.phase = .ready ∧ s.cool.plant.due = false ∧ s.load.requests = [] ∧
       (∀ g ∈ s.load.grants, g.holder ≠ .heater) ∧ 4 ≤ s.load.free ∧ s.termReached = false) :=
  ⟨shop_takes, rfl, rfl, by decide +kernel⟩

/-- Credit inside; nothing inside, with an exchange in progress, and on an IDLE line with no station ACTIVE. -/
theorem witness_RestartRestarts : shop.takes hdr ∧ shop.ledger.credit ≠ 0 ∧
    (let s : State := { State.reset with line := { State.reset.line with phase := .idle } }
     s.sale.current = none ∧ s.payout.phase = .idle ∧ s.ledger.credit = 0 ∧ s.ledger.hold = 0 ∧
       s.cash.escrow = .empty ∧ s.mode.effective = .setup ∧ s.line.phase = .idle ∧
       (∀ st : StationId, s.line.stations[st].active = false) ∧ s.takes hdr) ∧
    (∃ x, (asked coinMech State.reset).line.phase = .exchange x) :=
  ⟨shop_takes, by decide +kernel, ⟨rfl, rfl, rfl, rfl, rfl, rfl, rfl, by decide +kernel, ⟨rfl, rfl⟩⟩, ⟨_, rfl⟩⟩

/-- Station 7 with relay allowed, its queue empty and its frame taken while an exchange is in progress; with 8 relay
frames queued; ABSENT; and not allowed. -/
theorem witness_RelayQueuesFrame : shop.port.slot = none ∧ (7 : Fin 8).val = (6 : StationId).val + 1 ∧
    (0xBF#8).toNat < 0xC0 ∧ 0xDF < (0xE0#8).toNat ∧ shop.line.stations[(6 : StationId)].downAllowed = false ∧
    (let r : Station := { activeStation with downAllowed := true }
     let s := asked coinMech { shop with line := { shop.line with stations := shop.line.stations.set 6 r } }
     0xC0 ≤ (0xC0#8).toNat ∧ (0xDF#8).toNat ≤ 0xDF ∧ s.line.stations[(6 : StationId)].downAllowed = true ∧
       s.line.stations[(6 : StationId)].active = true ∧ (s.line.queue.filter QueueEntry.isRelay).length < 8 ∧
       s.line.queue.length < 16 ∧ s.line.phase ≠ .idle ∧ SetHanded s) ∧
    (let e : QueueEntry := { station := 6, request := { kind := .relayed 0xC0#8, payload := [], relayNo := some 1 } }
     8 ≤ ((List.replicate 8 e).filter QueueEntry.isRelay).length) ∧
    ({ Station.powerOn 100 with downAllowed := true } : Station).active = false := by
  refine ⟨rfl, by decide, by decide, by decide, by decide +kernel, ?_, by decide, rfl⟩
  unfold SetHanded SetCurrent; decide +kernel

/-- The break's end, a probe, and a retry of station 5. -/
theorem witness_SlotsBeginWhenDue :
    (let s := State.reset
     s.line.restartDue = false ∧ s.line.phase = .lineBreak 100 ∧ s.line.nextSlot = .poll ∧
       s.line.stations[(0 : StationId)].active = false ∧ s.line.stations[(0 : StationId)].probeAt = some 100 ∧
       100 ≤ max s.now 100 ∧ ∀ j : StationId, ¬ j < 0) ∧
    (let s : State := { State.reset with line := { State.reset.line with phase := .idle, nextSlot := .command } }
     s.line.phase = .idle ∧ s.line.queue = [] ∧ ∀ j : StationId, s.line.stations[j].active = false) ∧
    (let quiet : Station := { Station.powerOn 100 with probeAt := none }
     let r : Station := { activeStation with retryAt := some 50, outstanding := some (.plain .call) }
     let stations : Vector Station 7 := (Vector.replicate 7 quiet).set 4 r
     let s : State := { State.reset with line := { State.reset.line with phase := .idle, stations := stations } }
     s.line.stations[(4 : StationId)].active = true ∧ s.line.stations[(4 : StationId)].retryAt = some 50 ∧
       s.line.stations[(4 : StationId)].outstanding = some (.plain .call) ∧
       ∀ j : StationId, j ≠ 4 → s.line.stations[j].active = false ∧ s.line.stations[j].probeAt = none) := by
  decide +kernel

/-- Stations 4 and 5, a JOIN, and a header of each sort: uncorrectable, clean, corrected, of another kind, and with each
ground for a miss. Items of each sort: read, unknown, with a field outside, and cut off. -/
theorem witness_ReplyFrameJudged : (List.replicate 120 (0 : Byte)).length ≤ 120 ∧ 4 ≤ (4 : StationId).val ∧
    (3 : StationId).val < 4 ∧ LineKind.call ≠ .join ∧
    judgeHeader (((checkedHeader 0x90 0x25 0).flip 0).flip 1) = .uncorrectable ∧
    judgeHeader (checkedHeader 0x92 0x25 0) = .clean (checkedHeader 0x92 0x25 0) ∧
    judgeHeader ((checkedHeader 0x90 0x65 0).flip 3) = .corrected (checkedHeader 0x90 0x65 0) ∧
    (checkedHeader 0x92 0x25 0).h0 ≠ 0x90#8 ∧ (checkedHeader 0x92 0x25 0).h0 ≠ 0x91#8 ∧
    (checkedHeader 0x90 0x26 0).station ≠ (4 : StationId).val + 1 ∧ (checkedHeader 0x90 0x05 0).direction = false ∧
    64 ≤ (checkedHeader 0x90 0x65 0).h1.toNat ∧ (checkedHeader 0x90 0x35 0).turn ≠ false ∧
    120 < (checkedHeader 0x90 0x25 121).h2.toNat ∧
    (0 < (checkedHeader 0x90 0x25 1).h2.toNat ∧ ([1, 2] : List Byte).length < (checkedHeader 0x90 0x25 1).h2.toNat + 2) ∧
    ([1, 0, 0] : List Byte).drop 1 ≠ twoBytes (crc [1]).toNat ∧
    ((0x3F#8 : Byte).toNat = (63 : Fin 64).val ∧ (0x40#8 : Byte) = 0x40#8 ∧ (1#8 : Byte).toNat < 2) ∧
    10 < (11#8 : Byte).toNat ∧
    (let sizes : List Nat := [0, 3, 3, 3, 3, 3, 1, 4, 2, 1, 2]
     sizes[(7#8 : Byte).toNat]? = some (([0, 0, 2] : List Byte).length + 1) ∧
       sizes[(10#8 : Byte).toNat]? = some 2 ∧ ([] : List Byte).length + 1 < 2) := by
  decide +kernel

/-- A CALL and a JOIN to station 1, and the replies to them. -/
theorem witness_ExchangeEnds :
    (∀ (b : BillId) (v limit : Nat), (asked coinMech shop).cash.escrow ≠ .stackWait b v limit ∧
      (asked coinMech shop).cash.escrow ≠ .stacking b v limit) ∧
    (let s := asked coinMech shop
     let x : Exchange := { station := 0, request := .plain .call, turn := false, wire := [], windowEnd := 25 }
     s.line.phase = .exchange x ∧ s.line.restartDue = false ∧ x.request.kind ≠ .join ∧
       judgeReply x (replyFrame coinMech []) = .reply [] [] false ∧
       judgeReply x (buildFrame 0x91#8 1 false true []) = .wait ∧
       s.now < (s.line.stations[x.station].waitSince).getD s.now + 5000 ∧
       s.line.stations[x.station].misses + 1 < 3 ∧ s.payout.phase = .idle ∧ s.cash.escrow = .empty ∧
       3 ≤ ({ activeStation with misses := 2 } : Station).misses + 1 ∧
       (∀ sale, (selling (saleAt .driving) s).sale.current = some sale → sale.source = .cash)) ∧
    (let x : Exchange := { station := 0, request := .plain .call, turn := false, wire := [], windowEnd := 25 }
     (true = true ↔ judgeReply x ((buildFrame 0x92#8 1 false true [7, 7]).take 6) = .miss true) ∧
       (false = true ↔ judgeReply x [0x5A#8] = .miss true)) ∧
    (let x : Exchange := { station := 0, request := .plain .join, turn := false, wire := [], windowEnd := 25 }
     judgeReply x (replyFrame coinMech [1, 1]) = .reply [1#8, 1#8] [] false ∧ x.request.kind = .join ∧ (1#8 : Byte) ≠ 0#8 ∧
       (1#8).toNat = x.station.val + 1) := by
  refine ⟨(fun b v limit => ⟨(fun h => by cases h), (fun h => by cases h)⟩), ?_⟩
  decide +kernel

/-- A CALL to a station. -/
def callTo (st : StationId) : Exchange :=
  { station := st, request := .plain .call, turn := false, wire := [], windowEnd := 25 }

/-- A coin into its tube; a bill ESCROWED where it is HELD, asked back, or the second; STACKED and RETURNED with no
stacking request and in a sale's stacking; REJECTED; a card on and off, and off in READER_APPROVAL. -/
theorem witness_CoinBillCardItemsTaken :
    (let s := asked coinMech (tubed 5 3 25 99 shop)
     let x := callTo coinMech
     s.line.phase = .exchange x ∧ s.line.restartDue = false ∧ x.station = coinMech ∧ x.request.kind ≠ .join ∧
       judgeReply x (replyFrame coinMech [1, 3, 5]) = .reply [1, 3, 5] [.coinSeen 3 (.tube 5)] false ∧
       s.cash.tubes[(5 : TubeId)].coinType = some 3 ∧ 0 < s.cash.coins[(3 : CoinId)].value ∧
       ¬ (s.mode.effective = .service ∧ s.mode.fill = true) ∧
       s.ledger.credit + s.cash.coins[(3 : CoinId)].value ≤ 9999 ∧ s.ledger.pending ≤ 65535 ∧
       (s.payout.phase = .idle → s.ledger.pending = 0) ∧ s.port.reports.length < 20) ∧
    (let x := callTo validator
     judgeReply x (replyFrame validator [4, 1, 0]) = .reply [4, 1, 0] [.billSeen 1 .escrowed] false ∧
       judgeReply x (replyFrame validator [4, 1, 1]) = .reply [4, 1, 1] [.billSeen 1 .stacked] false ∧
       judgeReply x (replyFrame validator [4, 1, 2]) = .reply [4, 1, 2] [.billSeen 1 .returned] false ∧
       judgeReply x (replyFrame validator [4, 1, 3]) = .reply [4, 1, 3] [.billSeen 1 .rejected] false) ∧
    (let s : State := asked validator { shop with cash := { shop.cash with
       bills := shop.cash.bills.set 1 { value := 500, accept := true, assured := false } } }
     s.line.phase = .exchange (callTo validator) ∧ s.cash.escrow = .empty ∧ s.mode.effective = .vend ∧
       s.cash.bills[(1 : BillId)].value ≠ 0 ∧ s.ledger.credit + s.cash.bills[(1 : BillId)].value ≤ s.settings.creditMax ∧
       shop.cash.bills[(1 : BillId)].value = 0 ∧ s.line.stations[validator].active = true ∧
       ({ s.cash with escrow := .held 0 500 } : Cash).escrow ≠ .empty ∧ s.port.reports.length < 19) ∧
    (let y := { saleAt .stacking with approval := .host }
     let s : State := asked validator (selling y { shop with cash := { shop.cash with escrow := .stacking 1 500 8000 } })
     s.cash.escrow = .stacking 1 500 8000 ∧ s.sale.current = some y ∧ y.stage = .stacking ∧ y.approval = .host ∧
       s.ledger.hold = 0 ∧ y.price ≤ s.ledger.credit + 500 ∧ s.load.requests = [] ∧ y.source = .cash ∧ SettlesAlone s) ∧
    (let x := callTo reader
     judgeReply x (replyFrame reader [5, 0, 40]) = .reply [5, 0, 40] [.cardOn (some 40)] false ∧
       judgeReply x (replyFrame reader [6]) = .reply [6] [.cardOff] false ∧
       (∀ y, shop.sale.current = some y → y.source = .cash)) ∧
    (let y := { saleAt .readerApproval with source := .cashless, told := .asked }
     let s : State := asked reader (selling y { shop with card := .present (some 50) })
     s.line.phase = .exchange (callTo reader) ∧ s.card ≠ .absent ∧ s.sale.current = some y ∧ y.source = .cashless ∧
       y.stage = .readerApproval ∧ y.told = .asked ∧ s.sale.pendingReturn = false ∧ s.port.reports.length < 19) := by
  unfold SettlesAlone; decide +kernel

theorem witness_LastPaidEndsPayout :
    (let c : PayCmd := ⟨5, 15, 10⟩
     let s : State := asked coinMech { tubed 5 0 10 40 joined with
       ledger := { shop.ledger with pending := 150 }
       payout := { Payout.powerOn with phase := .paying, inFlight := some c, payJoined := true } }
     let x : Exchange := { station := 0, request := .plain .call, turn := false, wire := [], windowEnd := 25 }
     s.line.phase = .exchange x ∧ judgeReply x (replyFrame coinMech [2, 5, 15]) = .reply [2, 5, 15] [.paid 5 15] false ∧
       s.payout.phase = .paying ∧ s.payout.inFlight = some c ∧ s.payout.payJoined = true ∧ s.payout.manual = false ∧
       s.payout.remaining = [] ∧ (∀ e ∈ s.line.queue, e.station = coinMech → e.request.kind ≠ .pay) ∧
       s.ledger.pending = c.coins * c.value ∧ s.load.requests = [] ∧ s.sale.pendingReturn = false ∧
       s.port.reports.length < 20) := by
  decide +kernel

theorem witness_StackingAndPayLimits :
    (let s : State := { selling (saleAt .stacking) shop with cash := { shop.cash with escrow := .stacking 1 200 8000 } }
     s.cash.escrow = .stacking 1 200 8000 ∧ s.sale.current = some (saleAt .stacking) ∧ SettlesAlone s ∧
       s.load.requests = [] ∧ s.port.reports.length < 20) ∧
    (let s : State := { shop with payout := { shop.payout with limit := some 30000, inFlight := some ⟨5, 15, 10⟩ } }
     s.payout.limit = some 30000 ∧ s.payout.inFlight = some ⟨5, 15, 10⟩ ∧ s.payout.manual = false ∧
       s.load.requests = [] ∧ s.sale.pendingReturn = false ∧
       (let q : LineRequest := { kind := .pay, payload := [5, 15], relayNo := none }
        ({ activeStation with outstanding := some q } : Station).outstanding = some q)) := by
  unfold SettlesAlone; decide +kernel

theorem witness_TurnEventsTaken :
    (driven (attemptAt .sale .leavingHome) shop).drive.attempt = some (attemptAt .sale .leavingHome) ∧
    (let a := { attemptAt .sale .turning with openCheck := some 200 }
     (driven a shop).drive.attempt = some a ∧ a.phase = .turning ∧ a.dropSeen = false ∧ a.judging = true ∧
       a.openCheck = some 200 ∧ 40 ≤ 40) ∧
    (let a := { attemptAt .sale .dropWait with dropWindow := some 1200, turnsDone := 1 }
     (driven a shop).drive.attempt = some a ∧ a.dropWindow = some 1200 ∧ a.turnsDone < a.turnsAllowed ∧
       shop.pins.homeClosed[a.column] = true ∧ ¬ 900 < shop.pins.motorCurrent) := by
  decide +kernel

/-- Each expiry: at 39 mA, at 40 mA, the turn limit, the jam run, the open check at 39 mA, the last drop window. -/
theorem witness_AttemptEndsWithoutDrop :
    (let a := { attemptAt .test .leavingHome with leaveHome := some 600 }
     (driven a shop).drive.attempt = some a ∧ a.dropSeen = false ∧ shop.load.requests = [] ∧
       shop.port.reports.length < 20 ∧ a.leaveHome = some 600 ∧ 39 < 40 ∧ ¬ 40 < 40 ∧
       DriveResult.openMotor ≠ .turned) ∧
    (let a := { attemptAt .test .turning with turnLimit := some 5000, jamRun := some 150, openCheck := some 200 }
     (driven a shop).drive.attempt = some a ∧ a.turnLimit = some 5000 ∧ a.jamRun = some 150 ∧ a.openCheck = some 200) ∧
    (let a := { attemptAt .sale .dropWait with dropWindow := some 1200, turnsDone := 2 }
     let x := { saleAt .driving with triesAllowed := 1 }
     let s := driven a (selling x shop)
     s.drive.attempt = some a ∧ a.dropWindow = some 1200 ∧ a.turnsAllowed ≤ a.turnsDone ∧ s.sale.current = some x ∧
       x.source = .cash ∧ x.triesAllowed ≤ x.tried.length + 1 ∧ SettlesAlone s) := by
  unfold SettlesAlone; decide +kernel

theorem witness_DropSellsProduct :
    (let s := driven (attemptAt .sale .dropWait) (selling (saleAt .driving) shop)
     let y : Sale := { saleAt .driving with multiVend := true }
     let m : State := { selling y s with settings := { s.settings with multiVend := true } }
     let z : State := { s with ledger := { s.ledger with credit := 0 } }
     s.drive.sensor = .clear ∧ s.drive.attempt = some (attemptAt .sale .dropWait) ∧
       s.sale.current = some (saleAt .driving) ∧ m.sale.current = some y ∧ saleMultiVend y m = true ∧
       (z.ledger.credit = 0 ∧ z.ledger.pending ≤ 65535 ∧ (z.payout.phase = .idle → z.ledger.pending = 0)) ∧
       (s.map.selections[(saleAt .driving).selection]).search = .first ∧ s.load.requests = [] ∧
       s.sale.pendingReturn = false ∧ s.port.reports.length < 20) := by
  decide +kernel

theorem witness_DropSensorAndTestLimit :
    (State.reset.drive.sensor ≠ .clear ∧ shop.drive.sensor = .clear ∧ State.reset.drive.clearTimer = some 2000) ∧
    (let s : State := { shop with drive := { shop.drive with blockTimer := some 2000 } }
     s.drive.blockTimer = some 2000) ∧
    (let s : State := { shop with
       drive := { shop.drive with testRequest := some ⟨3, 30000⟩ }
       load := { budget := 8, grants := [⟨.compressor, 7⟩], requests := [⟨.testDrive, 2, 2, 0, false⟩] } }
     s.drive.testRequest = some ⟨3, 30000⟩ ∧ (∀ q ∈ s.load.requests, q.requester = .testDrive) ∧
       s.port.reports.length < 20) := by
  decide +kernel

/-- A compressor request behind a granted spiral, one that fits, and a heater request that fits. -/
theorem witness_PromotionMakesPass :
    (let r : LoadRequest := ⟨.compressor, 7, 7, 0, false⟩
     let l : Load := { budget := 8, grants := [⟨.spiral, 2⟩], requests := [] ++ r :: [⟨.payout, 1, 1, 5, false⟩] }
     let marked : Load := { l with requests := [] ++ { r with promoted := true } :: [⟨.payout, 1, 1, 5, false⟩] }
     r.requester = coolingRequester .compressor ∧ r.promoted = false ∧
       (∀ q ∈ ([⟨.payout, 1, 1, 5, false⟩] : List LoadRequest), q.requester ≠ r.requester) ∧
       (∀ q ∈ marked.ranked.head?, l.free < q.counted)) ∧
    (let s : State := { planted (fun p => { p with phase := .startWait }) shop with
       load := { budget := 7, grants := [], requests := [⟨.compressor, 7, 7, 0, false⟩] } }
     s.load.requests = [⟨.compressor, 7, 7, 0, false⟩] ∧ 7 ≤ s.load.free ∧ s.cool.plant.phase = .startWait) ∧
    (let s : State := { planted (fun p => { p with phase := .heatWait }) shop with
       load := { budget := 7, grants := [⟨.compressor, 3⟩], requests := [⟨.heater, 4, 4, 0, false⟩] } }
     s.load.requests = [⟨.heater, 4, 4, 0, false⟩] ∧ 4 ≤ s.load.free ∧ s.cool.plant.phase = .heatWait ∧
       s.termReached = false) := by
  decide +kernel

theorem witness_ChannelTakesSample : 15 ≤ 15 ∧ 1008 ≤ 1008 ∧ 15 < 16 ∧ 1007 < 1008 ∧
    Channel.powerOn.samples.length ≤ 4 ∧ Channel.powerOn.status ≠ .fault ∧ Channel.powerOn.faultRun < 2 ∧
    2 ≤ ({ Channel.powerOn with faultRun := 2 } : Channel).faultRun ∧
    (let c : Channel := { Channel.powerOn with status := .fault, validRun := 1 }
     c.status = .fault ∧ c.validRun < 2) ∧
    (let c : Channel := { Channel.powerOn with status := .fault, validRun := 2 }
     c.status = .fault ∧ 2 ≤ c.validRun) := by decide

/-- Power-on: zone C's first sample; a third fault sample; a first fault sample; the evaporator's. -/
theorem witness_SampleTaken :
    (let s := State.reset
     s.cool.plant.phase = .lockout ∧ s.sale.current = none ∧ (3 : ChannelId).val = 3 ∧
       (2 : ChannelId).val = (2 : ZoneId).val ∧ s.map.zoneHealth[(2 : ZoneId)] = (s.health[(2 : ZoneId)]).state ∧
       15 < 16 ∧ (s.cool.channels[(2 : ChannelId)].sample s.cool.calibration 16).status = .valid ∧
       (s.cool.channels[(2 : ChannelId)].sample s.cool.calibration 16).temperature = some 600 ∧
       (s.cool.channels[(2 : ChannelId)].sample s.cool.calibration 15).status = s.cool.channels[(2 : ChannelId)].status) ∧
    (let c : Channel := { Channel.powerOn with faultRun := 2 }
     (c.sample defaultCalibration 1008).status = .fault ∧ c.status ≠ .fault) := by
  decide +kernel

theorem witness_CompressorTimersTaken :
    (let s := State.reset
     s.load.requests = [] ∧ s.cool.plant.phase = .lockout ∧ s.cool.plant.due = false ∧
       ¬ ∃ z : ZoneId, s.cool.zones[z].mode = .chill ∧ s.cool.zones[z].demand = .demand) ∧
    (let s := wanting State.reset
     (∃ z : ZoneId, s.cool.zones[z].mode = .chill ∧ s.cool.zones[z].demand = .demand) ∧
       (∀ g ∈ s.load.grants, g.holder ≠ .compressor) ∧ min 7 s.load.budget ≤ s.load.free) ∧
    (let s := planted (fun p => { p with phase := .starting, startWindow := some 3000, minRun := some 60000 }) State.reset
     s.cool.plant.startWindow = some 3000 ∧ s.cool.plant.minRun ≠ none ∧ s.cool.plant.phase = .starting) ∧
    (let s := planted (fun p => { p with phase := .running, minRun := some 60000 }) State.reset
     s.cool.plant.minRun = some 60000 ∧ s.cool.plant.phase = .running ∧ s.cool.plant.due = false) ∧
    (let s : State := { planted (fun p => { p with phase := .running }) State.reset with
       load := { budget := 4, grants := [⟨.compressor, 3⟩], requests := [] } }
     s.cool.plant.phase = .running ∧ s.cool.plant.minRun = none ∧ (∀ g ∈ s.load.grants, g.holder ≠ .heater) ∧
       4 + ((s.load.grants.filter fun g => !decide (g.holder = .compressor)).map Grant.units).sum ≤ s.load.budget ∧
       s.termReached = false) := by
  decide +kernel

theorem witness_HeatDutyTempsExcursionTaken :
    (let s := planted (fun p => { p with phase := .heating, heaterTimer := some 1800000 }) State.reset
     s.cool.plant.heaterTimer = some 1800000 ∧ s.load.requests = []) ∧
    (let s := planted (fun p => { p with phase := .drip, dripTimer := some 180000 }) State.reset
     s.cool.plant.dripTimer = some 180000 ∧ s.cool.plant.due = false ∧
       ∀ z : ZoneId, s.cool.zones[z].mode = .chill → s.cool.zones[z].demand = .satisfied) ∧
    (let z : Zone := { Zone.powerOn .chill false with duty := some (.demand, 600000) }
     let s : State := { State.reset with cool := { State.reset.cool with zones := State.reset.cool.zones.set 1 z } }
     s.cool.zones[(1 : ZoneId)].duty = some (.demand, 600000) ∧ s.cool.plant.phase = .lockout) ∧
    (let s : State := { State.reset with
       health := State.reset.health.set 2 (.warning 412000)
       map := { State.reset.map with zoneHealth := State.reset.map.zoneHealth.set 2 .warning } }
     s.health[(2 : ZoneId)] = .warning 412000 ∧ s.map.zoneHealth[(2 : ZoneId)] = .warning ∧ s.sale.current = none ∧
       s.port.reports.length < 20) := by
  decide +kernel

end Sys2Proof.Tests
end

section
/-! SUPPORT. Coins, bills and tubes: what each inner step and each command does to the cash record, and the
routing that every step keeps (R5). -/

namespace Sys2Proof.Laws
open Sys2Proof Sys2Proof.Machine

/-! ### Inner steps that leave the cash record alone -/

section
variable (s : State)

@[simp] theorem only_fst : s.only.1 = s := rfl

@[simp] theorem handFrame_fst (st : StationId) (r : LineRequest) : (s.handFrame st r).1 = s.hand st r := rfl

@[simp] theorem loadStep_cash (op : LoadOp) : (loadStep op s).1.cash = s.cash := by
  obtain ⟨l, hl, -⟩ := loadStep_eq op s
  rw [hl, State.setLoad_cash]

@[simp] theorem deposit_cash (v : Nat) : (s.deposit v).cash = s.cash := by simp [State.deposit]
@[simp] theorem returnHold_cash : s.returnHold.cash = s.cash := by simp [State.returnHold]
@[simp] theorem releaseAll_cash : s.releaseAll.cash = s.cash := by simp [State.releaseAll]

@[simp] theorem takeMap_cash (m : SelMap) : (s.takeMap m).1.cash = s.cash := rfl
@[simp] theorem handHealth_cash (z : ZoneId) (h : Health) : (s.handHealth z h).1.cash = s.cash := by
  fun_cases State.handHealth s z h <;> simp +zetaDelta [State.only]
@[simp] theorem healthSample_cash (z : ZoneId) (b : Bool) (c : Option ZoneCause) :
    (healthSample z b c s).1.cash = s.cash := by
  fun_cases healthSample z b c s <;> simp +zetaDelta
@[simp] theorem healthWrite_cash (l : List (ZoneId × Health × ZoneCause)) : (healthWrite l s).1.cash = s.cash := by
  simp [healthWrite]
@[simp] theorem zoneReport_cash (z : ZoneId) (c : ZoneCause) : (s.zoneReport z c).cash = s.cash := by
  simp [State.zoneReport]

@[simp] theorem coolAct_cash : (coolAct s).1.cash = s.cash := by
  fun_cases coolAct s <;> simp [State.only]
@[simp] theorem lockoutTest_cash : (lockoutTest s).1.cash = s.cash := by
  fun_cases lockoutTest s <;> simp [State.only]
@[simp] theorem endHeating_cash : (endHeating s).1.cash = s.cash := rfl
@[simp] theorem heatTest_cash : (heatTest s).1.cash = s.cash := by
  fun_cases heatTest s <;> simp [State.only]
@[simp] theorem heatPast_cash : (heatPast s).1.cash = s.cash := by
  fun_cases heatPast s <;> simp [State.only]
@[simp] theorem endDrip_cash : (endDrip s).1.cash = s.cash := rfl
@[simp] theorem dripTest_cash : (dripTest s).1.cash = s.cash := by
  fun_cases dripTest s <;> simp [State.only]
@[simp] theorem compressorGiven_cash : (compressorGiven s).1.cash = s.cash := by
  fun_cases compressorGiven s <;> simp [State.only]
@[simp] theorem heaterGiven_cash : (heaterGiven s).1.cash = s.cash := by
  fun_cases heaterGiven s <;> simp

@[simp] theorem oweWhole_cash : s.oweWhole.cash = s.cash := rfl
@[simp] theorem payoutDone_cash (o : Occasion) (m : Bool) (p w : Nat) (e : List TubeEntry) :
    (s.payoutDone o m p w e).cash = s.cash := by simp [State.payoutDone]
@[simp] theorem payStart_cash : (payStart s).1.cash = s.cash := by
  fun_cases payStart s <;> simp +zetaDelta
@[simp] theorem payTell_cash : (payTell s).1.cash = s.cash := by
  fun_cases payTell s <;> simp [State.only]
@[simp] theorem payPlan_cash : (payPlan s).1.cash = s.cash := by
  fun_cases payPlan s <;> simp +zetaDelta
@[simp] theorem payNext_cash : (payNext s).1.cash = s.cash := by
  fun_cases payNext s <;> simp
@[simp] theorem payGiven_cash : (payGiven s).1.cash = s.cash := by
  fun_cases payGiven s <;> simp +zetaDelta
@[simp] theorem payOweEnd_cash : (payOweEnd s).1.cash = s.cash := by
  unfold payOweEnd; split <;> simp
@[simp] theorem payEnd_cash : (payEnd s).1.cash = s.cash := by simp [payEnd]
@[simp] theorem payCut_cash : (payCut s).1.cash = s.cash := by
  fun_cases payCut s <;> simp [State.only]

@[simp] theorem testGiven_cash : (testGiven s).1.cash = s.cash := by
  fun_cases testGiven s <;> simp [State.only]
@[simp] theorem testLeave_cash : (testLeave s).1.cash = s.cash := by
  fun_cases testLeave s <;> simp [State.only]
@[simp] theorem serviceLeft_cash : (serviceLeft s).1.cash = s.cash := by simp [serviceLeft]
@[simp] theorem testResult_cash (c : ColumnId) (o : TestOutcome) (d : DropField) (b : ColState) :
    (s.testResult c o d b).cash = s.cash := by simp [State.testResult]
@[simp] theorem testNever_cash (c : ColumnId) (o : TestOutcome) : (s.testNever c o).cash = s.cash := by
  simp [State.testNever]

@[simp] theorem enterHost_cash (x : Sale) : (enterHost x s).1.cash = s.cash := by simp [enterHost, State.only]
@[simp] theorem enterReader_cash (x : Sale) : (enterReader x s).1.cash = s.cash := by simp [enterReader, State.only]
@[simp] theorem enterReaderOrTry_cash (x : Sale) : (enterReaderOrTry x s).1.cash = s.cash := by
  fun_cases enterReaderOrTry x s <;> simp
@[simp] theorem enterStage_cash (x : Sale) : (enterStage x s).1.cash = s.cash := by
  fun_cases enterStage x s <;> simp
@[simp] theorem acceptSale_cash (o : Origin) (i : SelectionId) (c : Source) :
    (acceptSale o i c s).1.cash = s.cash := by
  fun_cases acceptSale o i c s <;> simp +zetaDelta
@[simp] theorem showStacking_cash : s.showStacking.cash = s.cash := by
  fun_cases State.showStacking s <;> simp
@[simp] theorem stackOutcome_cash (b : Bool) : (stackOutcome b s).1.cash = s.cash := by
  fun_cases stackOutcome b s <;> simp [State.only]
@[simp] theorem saleTry_cash : (saleTry s).1.cash = s.cash := by
  fun_cases saleTry s <;> simp +zetaDelta [State.only]
@[simp] theorem refusedTry_cash (x : Sale) (c : ColumnId) (r : TryResult) : (refusedTry x c r s).1.cash = s.cash := rfl
@[simp] theorem saleGiven_cash : (saleGiven s).1.cash = s.cash := by
  fun_cases saleGiven s <;> simp [State.only, State.startSale]
@[simp] theorem saleDriven_cash (c : ColumnId) (r : DriveResult) (n : Nat) (b : Bool) :
    (saleDriven c r n b s).1.cash = s.cash := by
  fun_cases saleDriven c r n b s <;> simp [State.only]
@[simp] theorem tellReader_cash (x : Sale) (o : SaleOutcome) : (tellReader x o s).cash = s.cash := by
  fun_cases tellReader x o s <;> simp +zetaDelta
@[simp] theorem saleEnd_cash (o : SaleOutcome) : (saleEnd o s).1.cash = s.cash := by
  fun_cases saleEnd o s <;> simp +zetaDelta [State.only]
@[simp] theorem vendedCursor_cash (x : Sale) (o : SaleOutcome) : (s.vendedCursor x o).cash = s.cash := by
  fun_cases State.vendedCursor s x o <;> simp
@[simp] theorem saleReport_cash (x : Sale) (o : SaleOutcome) (n : Nat) : (s.saleReport x o n).cash = s.cash := by
  simp [State.saleReport]
@[simp] theorem saleFinish_cash (n : Nat) : (saleFinish n s).1.cash = s.cash := by
  fun_cases saleFinish n s <;> simp +zetaDelta [State.only]
@[simp] theorem returnTest_cash : (returnTest s).1.cash = s.cash := by
  fun_cases returnTest s <;> simp [State.only]
@[simp] theorem saleNotice_cash (c : ColumnId) (k : NoticeCause) : (saleNotice c k s).1.cash = s.cash := by
  fun_cases saleNotice c k s <;> simp [State.only]
@[simp] theorem cardLost_cash : (cardLost s).1.cash = s.cash := by
  fun_cases cardLost s <;> simp [State.only]
@[simp] theorem cardClose_cash : (cardClose s).1.cash = s.cash := by
  fun_cases cardClose s <;> simp [State.only]

@[simp] theorem dropBillFrames_cash : s.dropBillFrames.cash = s.cash := rfl
theorem foldl_cash {α : Type} (f : State → α → State) (h : ∀ s a, (f s a).cash = s.cash) :
    ∀ (l : List α) (s : State), (l.foldl f s).cash = s.cash
  | [], _ => rfl
  | a :: l, s => by rw [List.foldl_cons, foldl_cash f h l, h]
@[simp] theorem leaveActive_cash (st : StationId) (c : StationCause) : (leaveActive st c s).1.cash = s.cash := by
  unfold leaveActive
  dsimp only
  split
  · split <;> simp [foldl_cash]
  · simp [foldl_cash]
@[simp] theorem lineRestart_cash : (lineRestart s).1.cash = s.cash := by
  fun_cases lineRestart s <;> simp [State.only]
@[simp] theorem holdBreak_cash : s.holdBreak.cash = s.cash := rfl
@[simp] theorem modeNote_cash (m : Mode) (c : ModeCause) : (s.modeNote m c).cash = s.cash := by simp [State.modeNote]
theorem modeChange_cash {c : ModeCause} {o : Out} (h : modeChange c s = some o) : o.1.cash = s.cash := by
  simp only [modeChange] at h
  split at h
  · cases h
  · injection h with h
    subst h
    simp
@[simp] theorem modeRestart_cash : (modeRestart s).1.cash = s.cash := by
  unfold modeRestart
  dsimp only
  split
  · rename_i o h
    rw [modeChange_cash _ h]
    rfl
  · simp [State.only]
end

/-! ### Inner steps that leave the tube table and the routing alone -/

/-- `t` has the tube table and the routing of `s`. -/
abbrev RoutesKept (s t : State) : Prop := t.cash.tubes = s.cash.tubes ∧ t.cash.routing = s.cash.routing

/-- R5: the routing is the sixteen decisions on the tube table. -/
def Routed (s : State) : Prop := s.cash.routing = routesFor s.cash.tubes

theorem Routed.of_kept {s t : State} (k : RoutesKept s t) (h : Routed s) : Routed t := by
  unfold Routed
  rw [k.1, k.2]
  exact h

theorem Routed.of_cash {s t : State} (k : t.cash = s.cash) (h : Routed s) : Routed t :=
  h.of_kept (by simp [RoutesKept, k])

section
variable (s : State)

@[simp] theorem handPart_routes (st : StationId) : RoutesKept s (s.handPart st) := by
  fun_cases State.handPart s st <;> simp [RoutesKept]
@[simp] theorem recomputeSet_routes : RoutesKept s s.recomputeSet := by simp [RoutesKept, State.recomputeSet]
@[simp] theorem refreshSet_routes : RoutesKept s s.refreshSet := by simp [RoutesKept, State.refreshSet]
@[simp] theorem modeTail_routes (b : Mode) (c : ModeCause) : RoutesKept s (s.modeTail b c) := by
  unfold State.modeTail
  fun_cases State.modePanel s.refreshSet b <;> simp [RoutesKept]

@[simp] theorem giveBack_routes (b : BillId) (v : Nat) : RoutesKept s (s.giveBack b v) := by
  fun_cases State.giveBack s b v <;> simp [RoutesKept]
@[simp] theorem billEscrowed_routes (b : BillId) : RoutesKept s (billEscrowed b s).1 := by
  fun_cases billEscrowed b s <;> simp +zetaDelta [RoutesKept, State.only]
@[simp] theorem stackAsk_routes : RoutesKept s (stackAsk s).1 := by
  fun_cases stackAsk s <;> simp [RoutesKept]
@[simp] theorem stackGiven_routes : RoutesKept s (stackGiven s).1 := by
  fun_cases stackGiven s <;> simp [RoutesKept, State.only]
@[simp] theorem billStackedItem_routes (b : BillId) : RoutesKept s (billStackedItem b s).1 := by
  fun_cases billStackedItem b s <;> simp [RoutesKept]
@[simp] theorem billStackedTail_routes (b : BillId) (v : Nat) : RoutesKept s (billStackedTail b v s).1 := by
  fun_cases billStackedTail b v s <;> simp +zetaDelta [RoutesKept]
@[simp] theorem billReturned_routes : RoutesKept s (billReturned s).1 := by
  fun_cases billReturned s <;> simp +zetaDelta [RoutesKept, State.only]
@[simp] theorem billSeen_routes (b : BillId) (e : BillEvent) : RoutesKept s (billSeen b e s).1 := by
  fun_cases billSeen b e s <;> simp [RoutesKept, State.only]
@[simp] theorem stackGaveUp_routes : RoutesKept s (stackGaveUp s).1 := by
  unfold stackGaveUp
  split
  · split <;> simp [RoutesKept]
  · simp [RoutesKept, State.only]
@[simp] theorem stackUncertain_routes : RoutesKept s (stackUncertain s).1 := by
  fun_cases stackUncertain s <;> simp [RoutesKept, State.only]
@[simp] theorem returnEscrow_routes : RoutesKept s s.returnEscrow := by
  fun_cases State.returnEscrow s <;> simp [RoutesKept]
@[simp] theorem escrowLost_routes : RoutesKept s (escrowLost s).1 := by
  fun_cases escrowLost s <;> simp [RoutesKept, State.only]
@[simp] theorem returnAct_routes : RoutesKept s (returnAct s).1 := by simp [RoutesKept, returnAct]
@[simp] theorem cardOn_routes (f : Option Nat) : RoutesKept s (cardOn f s).1 := by simp [RoutesKept, cardOn, State.only]
@[simp] theorem giveGrant_routes (who : Requester) : RoutesKept s (giveGrant who s).1 := by
  cases who <;> simp [RoutesKept, giveGrant]
end

/-! ### Tube results -/

/-- R5, R6: after the recomputation the routing is the tube table's. -/
theorem reroute_routed (s : State) : Routed s.reroute := by
  fun_cases State.reroute s with
  | case1 _ h => exact h.symm
  | case2 _ h => simp +zetaDelta [Routed]

theorem tubeResult_routed (s : State) (n : TubeId) (f : Tube → Tube) : Routed (s.tubeResult n f) :=
  reroute_routed _

/-- R5 reads a tube's coin type, count and full level alone: doubting a tube's count leaves the decisions. -/
theorem routesFor_doubted (tubes : Vector Tube 6) (n : TubeId) :
    routesFor (tubes.set n (tubes[n]).doubted) = routesFor tubes := by
  have h : ∀ m : TubeId, (tubes.set n (tubes[n]).doubted)[m].coinType = tubes[m].coinType ∧
      (tubes.set n (tubes[n]).doubted)[m].count = tubes[m].count ∧
      (tubes.set n (tubes[n]).doubted)[m].full = tubes[m].full := fun m => by
    simp only [Fin.getElem_fin, Vector.getElem_set]
    split <;> simp_all [Tube.doubted]
  unfold routesFor routeFor
  simp only [h]

@[simp] theorem commandEnded_cash (s : State) (n : TubeId) (p v : Nat) (e : PayEnding) :
    (s.commandEnded n p v e).cash = s.cash := rfl

theorem payLost_routed {s : State} (h : Routed s) : Routed (payLost s).1 := by
  fun_cases payLost s with
  | case1 => exact h.of_cash (by simp)
  | case2 c => exact (tubeResult_routed s c.tube Tube.doubted).of_cash (by simp)
  | case3 => exact h

/-! ### Every inner step keeps the routing -/

theorem runOne_routed (j : Job) (s : State) (h : Routed s) : Routed (runOne j s).1 := by
  cases j with
  | payLost => exact payLost_routed h
  | _ => exact h.of_kept (by simp [RoutesKept, runOne, State.only, State.saleRestart, State.showRestart])

/-! ### What every command keeps -/

/-- The next state, where a command answers one, has the property. -/
def NextHas (P : State → Prop) (o : Host.Outcome State Fault Refusal) : Prop := ∀ t, o = .next t → P t

/-- A property that an event's inner steps, its end and the port's changes keep. -/
structure EventKept (P : State → Prop) : Prop where
  one : ∀ j s, P s → P (runOne j s).1
  cut : ∀ s, P s → P (s.setCutShort true)
  links : ∀ s t, LinksOnly s t → P s → P t
  port : ∀ s p, P s → P (s.setPort p)

@[simp] theorem nextHas_next {P : State → Prop} {s : State} : NextHas P (.next s) ↔ P s :=
  ⟨fun h => h s rfl, fun h t ht => by injection ht with ht; exact ht ▸ h⟩

section
variable {P : State → Prop}

theorem EventKept.finish (k : EventKept P) {before : State} {o : Out} (h : P o.1) : NextHas P (finish before o) :=
  fun t ht => finish_keeps k.one k.cut k.links before t o h ht

theorem EventKept.event (k : EventKept P) {before : State} {o : Out} (h : P o.1) : P (event before o) :=
  event_keeps k.one k.cut k.links before o h

theorem EventKept.noteHeader (k : EventKept P) {s : State} (h : ReqHeader) (hs : P s) : P (s.noteHeader h) := by
  unfold State.noteHeader
  split
  · exact k.port _ _ hs
  · exact hs

theorem EventKept.refuse (k : EventKept P) {s : State} (r : ReqKind) (c : ResultCode) (hs : P s) :
    P (refuse r c s).1 := k.port _ _ hs

/-- A request keeps what its body keeps (R178). -/
theorem EventKept.takeRequest (k : EventKept P) {h : ReqHeader} {r : ReqKind} {body : State → Out} {s : State}
    (hb : ∀ u, P u → P (body u).1) (hs : P s) : NextHas P (takeRequest h r body s) := by
  have hn := k.noteHeader h hs
  unfold Machine.takeRequest
  dsimp only
  split
  · exact nextHas_next.mpr (k.port _ _ hn)
  · split
    · exact k.finish (k.refuse _ _ hn)
    · exact k.finish (hb _ hn)

/-- The items of a REPLY keep what each item's event keeps (R165). -/
theorem EventKept.takeItems (k : EventKept P) {st : StationId} (hi : ∀ i u, P u → P (itemOut st i u).1) :
    ∀ (l : List Item) (s : State), P s → P (takeItems st l s)
  | [], _, hs => hs
  | i :: l, s, hs => k.takeItems hi l _ (k.event (hi i s hs))

end

/-! ### Every command keeps the routing -/

theorem Routed.setPort {s : State} (p : Port) (h : Routed s) : Routed (s.setPort p) := h

theorem routed_eventKept : EventKept Routed where
  one := runOne_routed
  cut _ h := h
  links _ _ l h := h.of_kept ⟨l.tubes, l.routing⟩
  port _ p h := h.setPort p

section
variable {s : State}

@[simp] theorem coinMoney_cash (s : State) (v : Nat) : (s.coinMoney v).1.cash = s.cash := by
  fun_cases State.coinMoney s v <;> simp [State.only]

@[simp] theorem coinValueFault_cash (s : State) (v : Nat) (i : Item) : (s.coinValueFault v i).cash = s.cash := by
  fun_cases State.coinValueFault s v i <;> simp

theorem setTube_doubted_routed (n : TubeId) (h : Routed s) : Routed (s.setTube n (s.cash.tubes[n]).doubted) := by
  unfold Routed
  rw [State.setTube_cash, routesFor_doubted]
  exact h

/-- A coin's money leaves the routing as the tube's change left it. -/
theorem coinMoney_routed (v : Nat) (h : Routed s) : Routed (s.coinMoney v).1 := h.of_cash (coinMoney_cash s v)

theorem coinSeen_routed (c : CoinId) (d : CoinDest) (h : Routed s) : Routed (coinSeen c d s).1 := by
  fun_cases coinSeen c d s with
  | case1 => exact h
  | case2 => exact h.of_cash (by simp +zetaDelta)
  | case3 v n hn n' t ht item =>
    dsimp only
    exact coinMoney_routed v (tubeResult_routed _ _ _)
  | case4 v n hn n' t ht item s1 =>
    have hs : s1.cash = s.cash := by simp +zetaDelta
    have htube : t = s1.cash.tubes[n'] := by rw [hs]
    have hd : Routed (s1.setTube n' t.doubted) := htube ▸ setTube_doubted_routed n' (h.of_cash hs)
    dsimp only
    exact coinMoney_routed v hd
  | case5 => exact h.of_cash (by simp +zetaDelta)

@[simp] theorem bookPaid_cash (s : State) (x : Nat) : (s.bookPaid x).cash = s.cash := by
  fun_cases State.bookPaid s x <;> simp

@[simp] theorem overpaidReport_cash (s : State) (n : Fin 64) (k a : Nat) : (s.overpaidReport n k a).cash = s.cash := by
  fun_cases State.overpaidReport s n k a <;> simp

theorem paidItem_routed (n : Fin 64) (k : Nat) (h : Routed s) : Routed (paidItem n k s).1 := by
  have paid : ∀ (u : State) (m : TubeId) (f : Tube → Tube) (v : State), v.cash = (u.tubeResult m f).cash → Routed v :=
    fun u m f v e => (tubeResult_routed u m f).of_cash e
  fun_cases paidItem n k s with
  | case1 hn m c _ _ => exact paid (s.bookPaid (c.coins * c.value)) c.tube (fun t => t.paidFull k) _ (by simp [paidFull])
  | case2 hn m c _ _ => exact paid (s.bookPaid (k * c.value)) c.tube Tube.paidShort _ (by simp [paidShort])
  | case3 hn m _ => exact paid s m (fun t => t.paidFull k) _ (by simp [paidUnasked, State.only])
  | case4 => exact h.of_cash (by simp [State.only])

theorem tubeSense_routed (n : Fin 64) (e : Sense) (h : Routed s) : Routed (tubeSense n e s).1 := by
  fun_cases tubeSense n e s with
  | case1 =>
    rw [only_fst]
    exact tubeResult_routed _ _ _
  | case2 => exact h.of_cash (by simp [State.only])

@[simp] theorem chargeAnswer_cash (s : State) (n : Nat) (b : Bool) : (chargeAnswer n b s).1.cash = s.cash := by
  fun_cases chargeAnswer n b s <;> simp +zetaDelta [State.only]

@[simp] theorem keyItem_cash (s : State) (n : Nat) : (keyItem n s).1.cash = s.cash := by
  fun_cases keyItem n s <;> simp [State.only]

@[simp] theorem leverPulled_cash (s : State) : (leverPulled s).1.cash = s.cash := by
  fun_cases leverPulled s <;> simp [State.only]

/-- An item's own effect keeps the routing, whichever block owns it (R165). -/
theorem itemOut_routed (st : StationId) (i : Item) (s : State) (h : Routed s) : Routed (itemOut st i s).1 := by
  unfold itemOut
  split
  · cases i with
    | coinSeen c d => exact coinSeen_routed c d h
    | paid n k => exact paidItem_routed n k h
    | tubeSense n e => exact tubeSense_routed n e h
    | billSeen b e => exact h.of_kept (billSeen_routes s b e)
    | cardOn f => exact h.of_kept (cardOn_routes s f)
    | cardOff => exact h.of_cash (cardClose_cash s)
    | chargeAnswer n b => exact h.of_cash (chargeAnswer_cash s n b)
    | key n => exact h.of_cash (keyItem_cash s n)
    | lever => exact h.of_cash (leverPulled_cash s)
    | fault c => exact h.of_cash (by simp [State.only])
  · exact h.of_cash (by simp [State.only])

/-! ### The exchange -/

@[simp] theorem endExchange_cash (s : State) : (endExchange s).1.cash = s.cash := by
  fun_cases endExchange s <;> simp +zetaDelta [State.only]

@[simp] theorem probeLater_cash (s : State) (st : StationId) : (s.probeLater st).cash = s.cash := rfl

@[simp] theorem waitTaken_cash (s : State) (x : Exchange) : (waitTaken x s).1.cash = s.cash := by
  fun_cases waitTaken x s <;> simp +zetaDelta

@[simp] theorem missTaken_cash (s : State) (x : Exchange) : (missTaken x s).1.cash = s.cash := by
  fun_cases missTaken x s <;> simp +zetaDelta

@[simp] theorem mirror_cash (s : State) (x : Exchange) (p : List Byte) : (s.mirror x p).cash = s.cash := by
  fun_cases State.mirror s x p <;> simp +zetaDelta

@[simp] theorem flagUnknown_cash (s : State) (b : Bool) : (s.flagUnknown b).cash = s.cash := by
  fun_cases State.flagUnknown s b <;> simp

@[simp] theorem replyTaken_cash (s : State) (x : Exchange) (p : List Byte) (b : Bool) :
    (s.replyTaken x p b).cash = s.cash := by simp [State.replyTaken]

@[simp] theorem firstFrames_routes (s : State) (st : StationId) : RoutesKept s (s.firstFrames st) := by
  fun_cases State.firstFrames s st <;> simp +zetaDelta [RoutesKept]

@[simp] theorem joinReply_routes (s : State) (st : StationId) (r l : Byte) : RoutesKept s (joinReply st r l s) := by
  fun_cases joinReply st r l s <;> simp +zetaDelta [RoutesKept]

@[simp] theorem joinTaken_routes (s : State) (x : Exchange) (p : List Byte) : RoutesKept s (joinTaken x p s) := by
  fun_cases joinTaken x p s <;> simp [RoutesKept]

theorem takeReply_routed (x : Exchange) (p : List Byte) (l : List Item) (b : Bool) (h : Routed s) :
    Routed (takeReply x p l b s) := by
  fun_cases takeReply x p l b s with
  | case1 => exact h.of_kept (joinTaken_routes s x p)
  | case2 => exact routed_eventKept.takeItems (itemOut_routed x.station) l _ (h.of_cash (by simp))

theorem exchangeEnds_routed (x : Exchange) (j : ReplyJudgement) (h : Routed s) : Routed (exchangeEnds x j s) := by
  fun_cases exchangeEnds x j s with
  | case1 p l b s1 => exact routed_eventKept.event ((takeReply_routed x p l b h).of_cash (endExchange_cash _))
  | case2 => exact routed_eventKept.event (h.of_cash (waitTaken_cash s x))
  | case3 => exact routed_eventKept.event (h.of_cash (by simp))

theorem stepEnd_routed (h : Routed s) : Routed s.stepEnd :=
  h.of_kept ⟨(LinksOnly.stepEnd s).tubes, (LinksOnly.stepEnd s).routing⟩

/-! ### The requests -/

@[simp] theorem refuse_cash (s : State) (k : ReqKind) (c : ResultCode) : (refuse k c s).1.cash = s.cash := rfl

@[simp] theorem takenWrite_cash (s : State) (b : Bool) (l : List Job) : (takenWrite b s l).1.cash = s.cash := rfl

theorem writeTubes_routed (n : Nat) (l : List RawTube) (h : Routed s) : Routed (writeTubes n l s).1 := by
  fun_cases writeTubes n l s with
  | case3 =>
    rw [only_fst]
    exact reroute_routed _
  | _ => exact h.of_cash (refuse_cash _ _ _)

@[simp] theorem writeCoins_routes (s : State) (n : Nat) (l : List RawValue) : RoutesKept s (writeCoins n l s).1 := by
  fun_cases writeCoins n l s <;> simp +zetaDelta [RoutesKept]

@[simp] theorem writeBills_routes (s : State) (n : Nat) (l : List RawValue) : RoutesKept s (writeBills n l s).1 := by
  fun_cases writeBills n l s <;> simp +zetaDelta [RoutesKept]

@[simp] theorem writeSelections_cash (s : State) (n : Nat) (l : List RawSelection) :
    (writeSelections n l s).1.cash = s.cash := by
  fun_cases writeSelections n l s <;> simp +zetaDelta

@[simp] theorem columnChanged_cash (s : State) (c : ColumnId) (b : ColState) (k : ColCause) :
    (s.columnChanged c b k).cash = s.cash := by
  fun_cases State.columnChanged s c b k <;> simp [State.columnReport]

@[simp] theorem writtenReports_cash (s : State) (m : SelMap) : (s.writtenReports m).cash = s.cash := by
  simp [State.writtenReports, foldl_cash]

@[simp] theorem writeColumns_cash (s : State) (n : Nat) (l : List RawColumn) :
    (writeColumns n l s).1.cash = s.cash := by
  fun_cases writeColumns n l s <;> simp +zetaDelta

@[simp] theorem writeCalibration_cash (s : State) (n : Nat) (l : List RawBreakpoint) :
    (writeCalibration n l s).1.cash = s.cash := by
  fun_cases writeCalibration n l s <;> simp

@[simp] theorem writeChannels_cash (s : State) (n : Nat) (l : List Byte) : (writeChannels n l s).1.cash = s.cash := by
  fun_cases writeChannels n l s <;> simp

@[simp] theorem writeZones_cash (s : State) (n : Nat) (l : List RawZone) : (writeZones n l s).1.cash = s.cash := by
  fun_cases writeZones n l s <;> simp +zetaDelta

@[simp] theorem minOffWritten_cash (s : State) : (minOffWritten s).1.cash = s.cash := by
  fun_cases minOffWritten s <;> simp [State.only]

@[simp] theorem writeSettings_cash (s : State) (n : Nat) (l : List RawSettings) :
    (writeSettings n l s).1.cash = s.cash := by
  fun_cases writeSettings n l s <;> simp +zetaDelta

@[simp] theorem writeRelays_cash (s : State) (n : Nat) (l : List Byte) : (writeRelays n l s).1.cash = s.cash := by
  fun_cases writeRelays n l s <;> simp +zetaDelta

@[simp] theorem readTable_cash (s : State) (t f c : Nat) : (readTable t f c s).1.cash = s.cash := by
  fun_cases readTable t f c s <;> simp [State.only]

theorem modeChange_getD_cash (s : State) (c : ModeCause) : ((modeChange c s).getD s.only).1.cash = s.cash := by
  cases h : modeChange c s with
  | none => rfl
  | some o => exact modeChange_cash s h

@[simp] theorem modeRequest_cash (s : State) (v : Byte) : (modeRequest v s).1.cash = s.cash := by
  fun_cases modeRequest v s with
  | case1 m _ => simp [setRequested, modeChange_getD_cash]
  | case2 => simp

@[simp] theorem fillRequest_routes (s : State) (b : Bool) : RoutesKept s (fillRequest b s).1 := by
  fun_cases fillRequest b s <;> simp +zetaDelta [RoutesKept, State.only]

@[simp] theorem selectRequest_cash (s : State) (n : Nat) : (selectRequest n s).1.cash = s.cash := by
  fun_cases selectRequest n s <;> simp +zetaDelta [State.only]

@[simp] theorem approveRequest_cash (s : State) (n : Nat) (b : Bool) : (approveRequest n b s).1.cash = s.cash := by
  fun_cases approveRequest n b s <;> simp +zetaDelta

@[simp] theorem leverRequest_cash (s : State) : (leverRequest s).1.cash = s.cash := by simp [leverRequest]

@[simp] theorem testRequest_cash (s : State) (n : Nat) : (testRequest n s).1.cash = s.cash := by
  fun_cases testRequest n s <;> simp

@[simp] theorem tubeOutRequest_cash (s : State) (n c : Nat) : (tubeOutRequest n c s).1.cash = s.cash := by
  fun_cases tubeOutRequest n c s <;> simp +zetaDelta [payManual]

@[simp] theorem releaseRequest_cash (s : State) (n : Nat) : (releaseRequest n s).1.cash = s.cash := by
  fun_cases releaseRequest n s <;> simp +zetaDelta

@[simp] theorem defrostRequest_cash (s : State) : (defrostRequest s).1.cash = s.cash := by
  fun_cases defrostRequest s <;> simp +zetaDelta [State.only, State.setDue]

@[simp] theorem statusRequest_cash (s : State) (n : Nat) : (statusRequest n s).1.cash = s.cash := by
  fun_cases statusRequest n s <;> simp [State.only]

@[simp] theorem restartRequest_cash (s : State) : (restartRequest s).1.cash = s.cash := by
  fun_cases restartRequest s <;> simp

@[simp] theorem relayRequest_cash (s : State) (st : Fin 8) (k : Byte) (p : List Byte) :
    (relayRequest st k p s).1.cash = s.cash := by
  have target : ∀ i, (relayTo i k p s).1.cash = s.cash := fun i => by
    fun_cases relayTo i k p s <;> simp +zetaDelta [State.only]
  fun_cases relayRequest st k p s with
  | case1 => exact target _
  | case2 => rfl

end

/-- A request whose body leaves the tube table and the routing alone. -/
theorem takeRequest_routed {h : ReqHeader} {k : ReqKind} {body : State → Out} {s : State}
    (hb : ∀ u, RoutesKept u (body u).1) (hs : Routed s) : NextHas Routed (takeRequest h k body s) :=
  routed_eventKept.takeRequest (fun u hu => hu.of_kept (hb u)) hs

theorem execRelay_routed (h : ReqHeader) (k : Byte) (p : List Byte) {s : State} (hs : Routed s) :
    NextHas Routed (execRelay h k p s) := by
  have hn := routed_eventKept.noteHeader h hs
  fun_cases execRelay h k p s with
  | case1 => exact nextHas_next.mpr (hn.setPort _)
  | case2 => exact routed_eventKept.finish (hn.of_cash (relayRequest_cash _ _ _ _))

theorem takeCommand_routed (c : Instr) {s : State} (hs : Routed s) : NextHas Routed (takeCommand c s) := by
  cases c with
  | writeTubeTable h i l => exact routed_eventKept.takeRequest (fun u hu => writeTubes_routed _ l hu) hs
  | relay h k p => exact execRelay_routed h k p hs
  | read | writeCoinTable | writeBillTable | writeSelectionTable | writeColumnTable | writeCalibrationTable
  | writeChannelTable | writeZoneTable | writeSettings | writeRelayTable | mode | select | approve | lever
  | testDrive | tubeOut | fill | release | defrost | status | restart =>
    exact takeRequest_routed (fun u => by simp [RoutesKept]) hs
  | _ => exact nextHas_next.mpr hs

theorem takeJudged_routed (j : FrameJudgement) {s : State} (hs : Routed s) : NextHas Routed (takeJudged j s) := by
  fun_cases takeJudged j s with
  | case1 => exact nextHas_next.mpr hs
  | case2 => exact nextHas_next.mpr (hs.of_cash (by unfold State.discardFrame; split <;> simp))
  | case3 c => exact takeCommand_routed c hs
  | case4 h => exact takeRequest_routed (fun u => by simp [RoutesKept]) hs

/-! ### The spiral drive's events write no cash record -/

section
variable (s : State)

@[simp] theorem columnAfter_cash (c : ColumnId) (r : Column) (k : ColCause) : (s.columnAfter c r k).cash = s.cash := by
  simp [State.columnAfter, State.driveColumn]

@[simp] theorem handResult_cash (b : Bool) : (handResult b s).1.cash = s.cash := by
  fun_cases handResult b s <;> simp +zetaDelta [State.only]

@[simp] theorem endAttempt_cash (a : Attempt) (r : DriveResult) (b : Bool) : (endAttempt a r b s).1.cash = s.cash := by
  simp [endAttempt]

@[simp] theorem stopEarly_cash (a : Attempt) (r : DriveResult) : (stopEarly a r s).1.cash = s.cash := by
  fun_cases stopEarly a r s <;> simp

@[simp] theorem turnDone_cash (a : Attempt) : (turnDone a s).1.cash = s.cash := by
  fun_cases turnDone a s <;> simp

@[simp] theorem windowEnds_cash (a : Attempt) : (windowEnds a s).1.cash = s.cash := by
  fun_cases windowEnds a s <;> simp

@[simp] theorem strayDrop_cash : s.strayDrop.cash = s.cash := by simp [State.strayDrop]

@[simp] theorem dropCounted_cash : (dropCounted s).1.cash = s.cash := by
  fun_cases dropCounted s <;> simp

@[simp] theorem beamBreaks_cash : (beamBreaks s).1.cash = s.cash := by
  fun_cases beamBreaks s <;> simp

@[simp] theorem beamClears_cash : s.beamClears.cash = s.cash := by
  fun_cases State.beamClears s <;> simp

@[simp] theorem senseCurrent_cash (a : Attempt) (n : Nat) : (s.senseCurrent a n).cash = s.cash := by
  fun_cases State.senseCurrent s a n <;> simp

@[simp] theorem setHome_cash (c : ColumnId) (b : Bool) : (s.setHome c b).cash = s.cash := rfl

@[simp] theorem homeOpens_cash (a : Attempt) (n : Nat) : (homeOpens a n s).1.cash = s.cash := by
  fun_cases homeOpens a n s <;> simp +zetaDelta

@[simp] theorem homeCloses_cash (a : Attempt) : (homeCloses a s).1.cash = s.cash := by
  fun_cases homeCloses a s <;> simp +zetaDelta

@[simp] theorem currentChanges_cash (a : Attempt) (n : Nat) : (currentChanges a n s).1.cash = s.cash := by
  fun_cases currentChanges a n s <;> simp +zetaDelta

@[simp] theorem openChecked_cash (a : Attempt) (n : Nat) : (openChecked a n s).1.cash = s.cash := by
  fun_cases openChecked a n s <;> simp

@[simp] theorem doorMoved_cash (d : Door) : (doorMoved d s).1.cash = s.cash :=
  modeChange_getD_cash (s.setMode { s.mode with door := d }) .door

@[simp] theorem takeSample_cash (c : ChannelId) (n : Nat) : (takeSample c n s).1.cash = s.cash := by
  fun_cases takeSample c n s <;> simp +zetaDelta

@[simp] theorem setDue_cash : s.setDue.cash = s.cash := by simp [State.setDue]
end

/-! ### Every step keeps the routing -/

theorem payLimitEnds_routed (c : PayCmd) (s : State) : Routed (payLimitEnds c s).1 :=
  (tubeResult_routed (s.removeFrames coinMech [.pay]) c.tube Tube.doubted).of_cash (commandEnded_cash _ _ _ _ _)

/-- R1, R3, R5: with no tube usable at power-on every type goes to the cashbox. -/
theorem powerOn_routed (p : Pins) (d : Door) : Routed (State.powerOn p d) := by
  unfold Routed
  show Cash.powerOn.routing = routesFor Cash.powerOn.tubes
  decide

/-- Every command keeps the routing. -/
theorem exec_routed (c : Instr) {s : State} (hs : Routed s) : NextHas Routed (exec c s) := by
  have quiet : ∀ {before : State} {o : Out}, o.1.cash = s.cash → NextHas Routed (finish before o) :=
    fun e => routed_eventKept.finish (hs.of_cash e)
  have ends : ∀ x j u, u.cash = s.cash → NextHas Routed (.next (exchangeEnds x j u).stepEnd) := fun x j u e =>
    nextHas_next.mpr (stepEnd_routed (exchangeEnds_routed x j (hs.of_cash e)))
  cases c with
  | powerOn => exact nextHas_next.mpr (powerOn_routed { s.pins with motorCurrent := 0 } s.mode.door)
  | doorSwitch d => exact quiet (doorMoved_cash s d)
  | serviceFrameDiscarded l => exact takeJudged_routed _ hs
  | serviceByteGap l => exact takeJudged_routed _ hs
  | writeTubeTable h i l => exact takeCommand_routed (.writeTubeTable h i l) hs
  | relay h k p => exact execRelay_routed h k p hs
  | read | writeCoinTable | writeBillTable | writeSelectionTable | writeColumnTable | writeCalibrationTable
  | writeChannelTable | writeZoneTable | writeSettings | writeRelayTable | mode | select | approve | lever
  | testDrive | tubeOut | fill | release | defrost | status | restart =>
    exact takeRequest_routed (fun u => by simp [RoutesKept]) hs
  | replyReceived l =>
    simp only [exec]
    fun_cases execReplyReceived l s with
    | case1 x => exact ends x _ s rfl
    | _ => exact nextHas_next.mpr hs
  | replyWindowExpiry =>
    simp only [exec]
    fun_cases execReplyWindowExpiry s with
    | case1 x => exact ends x _ _ (by simp)
    | _ => exact nextHas_next.mpr hs
  | replyGap l =>
    simp only [exec]
    fun_cases execReplyGap s l with
    | case1 x => exact ends x _ _ (by simp)
    | _ => exact nextHas_next.mpr hs
  | payLimitExpiry =>
    simp only [exec]
    fun_cases execPayLimitExpiry s with
    | case1 => exact routed_eventKept.finish (payLimitEnds_routed _ _)
    | case2 => exact nextHas_next.mpr hs
  | stackingLimitExpiry =>
    show NextHas Routed (execStackingLimitExpiry s)
    fun_cases execStackingLimitExpiry s <;> simp +zetaDelta [quiet, hs]
  | hostApprovalLimitExpiry =>
    show NextHas Routed (execHostApprovalLimitExpiry s)
    fun_cases execHostApprovalLimitExpiry s <;> simp +zetaDelta [quiet, hs]
  | readerApprovalLimitExpiry =>
    show NextHas Routed (execReaderApprovalLimitExpiry s)
    fun_cases execReaderApprovalLimitExpiry s <;> simp +zetaDelta [quiet, hs]
  | loadLimitExpiry =>
    show NextHas Routed (execLoadLimitExpiry s)
    fun_cases execLoadLimitExpiry s <;> simp +zetaDelta [quiet, hs]
  | homeSwitchOpens n =>
    show NextHas Routed (execHomeSwitchOpens n s)
    fun_cases execHomeSwitchOpens n s <;> simp +zetaDelta [quiet, hs]
  | homeSwitchCloses =>
    show NextHas Routed (execHomeSwitchCloses s)
    fun_cases execHomeSwitchCloses s <;> simp +zetaDelta [quiet, hs]
  | motorCurrentChange n =>
    show NextHas Routed (execMotorCurrentChange n s)
    fun_cases execMotorCurrentChange n s <;> simp +zetaDelta [quiet, hs]
  | openCheckExpiry n =>
    show NextHas Routed (execOpenCheckExpiry n s)
    fun_cases execOpenCheckExpiry n s <;> simp +zetaDelta [quiet, hs]
  | leaveHomeLimitExpiry n =>
    show NextHas Routed (execLeaveHomeLimitExpiry n s)
    fun_cases execLeaveHomeLimitExpiry n s <;> simp +zetaDelta [quiet, hs, leaveHomeEnds]
  | turnLimitExpiry =>
    show NextHas Routed (execTurnLimitExpiry s)
    fun_cases execTurnLimitExpiry s <;> simp +zetaDelta [quiet, hs]
  | jamRunExpiry =>
    show NextHas Routed (execJamRunExpiry s)
    fun_cases execJamRunExpiry s <;> simp +zetaDelta [quiet, hs]
  | dropWindowExpiry =>
    show NextHas Routed (execDropWindowExpiry s)
    fun_cases execDropWindowExpiry s <;> simp +zetaDelta [quiet, hs]
  | clearTimerExpiry =>
    show NextHas Routed (execClearTimerExpiry s)
    fun_cases execClearTimerExpiry s <;> simp +zetaDelta [quiet, hs]
  | blockTimerExpiry =>
    show NextHas Routed (execBlockTimerExpiry s)
    fun_cases execBlockTimerExpiry s <;> simp +zetaDelta [quiet, hs]
  | testLoadLimitExpiry =>
    show NextHas Routed (execTestLoadLimitExpiry s)
    fun_cases execTestLoadLimitExpiry s <;> simp +zetaDelta [quiet, hs]
  | promotionTimerExpiry l =>
    show NextHas Routed (execPromotionTimerExpiry l s)
    fun_cases execPromotionTimerExpiry l s <;> simp +zetaDelta [quiet, hs]
  | dutyPhaseExpiry z =>
    show NextHas Routed (execDutyPhaseExpiry z s)
    fun_cases execDutyPhaseExpiry z s <;> simp +zetaDelta [quiet, hs]
  | minOffPassed =>
    show NextHas Routed (execMinOffPassed s)
    fun_cases execMinOffPassed s <;> simp +zetaDelta [quiet, hs]
  | startWindowExpiry =>
    show NextHas Routed (execStartWindowExpiry s)
    fun_cases execStartWindowExpiry s <;> simp +zetaDelta [quiet, hs]
  | minRunExpiry =>
    show NextHas Routed (execMinRunExpiry s)
    fun_cases execMinRunExpiry s <;> simp +zetaDelta [quiet, hs]
  | defrostIntervalReached =>
    show NextHas Routed (execDefrostIntervalReached s)
    fun_cases execDefrostIntervalReached s <;> simp +zetaDelta [quiet, hs]
  | heaterTimerExpiry =>
    show NextHas Routed (execHeaterTimerExpiry s)
    fun_cases execHeaterTimerExpiry s <;> simp +zetaDelta [quiet, hs]
  | dripTimerExpiry =>
    show NextHas Routed (execDripTimerExpiry s)
    fun_cases execDripTimerExpiry s <;> simp +zetaDelta [quiet, hs]
  | excursionTimerExpiry z =>
    show NextHas Routed (execExcursionTimerExpiry z s)
    fun_cases execExcursionTimerExpiry z s <;> simp +zetaDelta [quiet, hs]
  | lineBreakEnd =>
    show NextHas Routed (execLineBreakEnd s)
    fun_cases execLineBreakEnd s <;> simp +zetaDelta [quiet, hs]
  | probeDue n =>
    show NextHas Routed (execProbeDue n s)
    fun_cases execProbeDue n s <;> simp +zetaDelta [quiet, hs]
  | retryAt n =>
    show NextHas Routed (execRetryAt n s)
    fun_cases execRetryAt n s <;> simp +zetaDelta [quiet, hs]
  | frameTransmitted =>
    show NextHas Routed (execFrameTransmitted s)
    fun_cases execFrameTransmitted s with
    | case1 => exact nextHas_next.mpr hs
    | case2 => exact quiet (by simp)
  | holdReleased => exact quiet (by simp)
  | beamBroken => exact quiet (by simp)
  | beamUnbroken => exact quiet (by simp)
  | sample c n => exact quiet (by simp)
  | temps => exact quiet (by simp)
  | holdAsserted => exact nextHas_next.mpr hs

/-- R5: the routing is kept from every state that has it. -/
theorem step_routed {s t : State} (hs : Routed s) (ht : step s = .next t) : Routed t := by
  unfold step at ht
  split at ht
  · injection ht with ht
    exact ht ▸ hs.of_cash (State.advanceTo_cash _ _)
  · rename_i c rest _
    exact exec_routed c (s := s.setPending rest) hs t ht

/-! ### The decision for a coin type (R5) -/

/-- A tube the decision for a type may name: of the type, with room. -/
def takesCoin (tubes : Vector Tube 6) (c : CoinId) (n : TubeId) : Prop :=
  (tubes[n]).coinType = some c ∧ (tubes[n]).count < (tubes[n]).full

theorem routesFor_get (tubes : Vector Tube 6) (c : CoinId) : (routesFor tubes)[c] = routeFor tubes c := by
  simp [routesFor]

theorem mem_allTubes (n : TubeId) : n ∈ allTubes := by
  revert n
  decide

theorem routeFor_of_find {tubes : Vector Tube 6} {c : CoinId} {n : TubeId} (h : routeFor tubes c = .tube n) :
    takesCoin tubes c n ∧ ∀ m, m < n → ¬ takesCoin tubes c m := by
  unfold routeFor at h
  split at h
  · rename_i k hk
    injection h with h
    subst h
    obtain ⟨hp, before, after, hl, hb⟩ := List.find?_eq_some_iff_append.mp hk
    refine ⟨by simpa [takesCoin] using hp, fun m hm => ?_⟩
    have hsorted : (before ++ k :: after).Pairwise (· < ·) := hl ▸ (by decide : allTubes.Pairwise (· < ·))
    have hmem : m ∈ before ++ k :: after := hl ▸ mem_allTubes m
    rcases List.mem_append.mp hmem with hmem | hmem
    · simpa [takesCoin, imp_iff_not_or] using hb m hmem
    · rcases List.mem_cons.mp hmem with rfl | hmem
      · exact absurd hm (lt_irrefl m)
      · have hk := List.rel_of_pairwise_cons (List.pairwise_append.mp hsorted).2.1 hmem
        exact absurd hm (lt_asymm hk)
  · cases h

theorem routeFor_eq_cashbox (tubes : Vector Tube 6) (c : CoinId) :
    routeFor tubes c = .cashbox ↔ ∀ m, ¬ takesCoin tubes c m := by
  unfold routeFor
  split
  · rename_i n hn
    have hp : takesCoin tubes c n := by simpa [takesCoin] using List.find?_some hn
    exact ⟨nofun, fun h => absurd hp (h n)⟩
  · rename_i hn
    refine ⟨fun _ m => ?_, fun _ => rfl⟩
    simpa [takesCoin] using List.find?_eq_none.mp hn m (mem_allTubes m)

theorem routeFor_eq_tube (tubes : Vector Tube 6) (c : CoinId) (n : TubeId) :
    routeFor tubes c = .tube n ↔ takesCoin tubes c n ∧ ∀ m, m < n → ¬ takesCoin tubes c m := by
  refine ⟨routeFor_of_find, fun ⟨hn, hmin⟩ => ?_⟩
  cases hr : routeFor tubes c with
  | cashbox => exact absurd hn ((routeFor_eq_cashbox tubes c).mp hr n)
  | tube k =>
    obtain ⟨hk, hkmin⟩ := routeFor_of_find hr
    rcases lt_trichotomy k n with h | rfl | h
    · exact absurd hk (hmin k h)
    · rfl
    · exact absurd hn (hkmin n h)

/-- Settles O17: every command keeps the routing, by what each inner step does to the cash record; and the decision is
the first tube in tube order that takes the type. -/
theorem routingTakesLowestTubeWithRoom : Obligations.RoutingTakesLowestTubeWithRoom := by
  refine ⟨fun s t => step_routed, fun tubes c => ⟨fun n => ?_, ?_⟩⟩
  · rw [routesFor_get, routeFor_eq_tube, takesCoin, and_assoc]
    rfl
  · rw [routesFor_get, routeFor_eq_cashbox]
    rfl

end Sys2Proof.Laws
end

section
/-! SUPPORT. How a WRITE reads its records and puts them in place, and what the service port answers (R183, R180). -/

namespace Sys2Proof.Laws
open Sys2Proof Sys2Proof.Machine

/-! ### A request's ANSWER and what follows it -/

/-- A command that is one event, whose own effect is `u` but for the links and leaves the ANSWER in the slot. -/
theorem finish_answered {before u : State} {o : Out} {a : Answer} (l : LinksOnly u (runOut o))
    (h : (runOut o).port.slot = some a) :
    ∃ t, finish before o = .next t ∧ LinksOnly u t ∧ t.newestAnswer = some a :=
  ⟨_, rfl, l.trans (.ends _ _), State.ends_newestAnswer _ _ _ h⟩

/-- The ANSWER of a request is placed beside a change of the cash record. -/
theorem setCash_answer (s : State) (h : ReqHeader) (v : Cash) (k : ReqKind) (c : ResultCode) (d : AnswerData) :
    ((s.noteHeader h).setCash v).answer k c d = (s.setCash v).setPort (answeredPort s h k c d) := by
  unfold State.noteHeader
  split
  · simp [State.answer, State.flag, answeredPort, answerTo, State.noteHeader, *]
    rfl
  · simp [State.answer, answeredPort, answerTo, State.noteHeader, *]

/-- A WRITE that hands nothing on: its own effect stands beside the ANSWER, and the links alone follow. -/
theorem write_answered {s w : State} {h : ReqHeader} {c : Instr} {body : State → Out} {code : ResultCode}
    (ht : s.takes h) (hc : exec c s = takeRequest h .write body s)
    (hb : body (s.noteHeader h) = (w.setPort (answeredPort s h .write code .empty), [])) :
    ∃ t : State, exec c s = .next t ∧ LinksOnly (w.setPort (answeredPort s h .write code .empty)) t ∧
      t.newestAnswer = some (answerTo s h .write code .empty) := by
  rw [hc, takeRequest_taken h .write body s ht, hb]
  exact request_answered s _ _ rfl

/-- A refused WRITE: its ANSWER, and nothing taken. -/
theorem write_refused {s : State} {h : ReqHeader} {c : Instr} {body : State → Out} {code : ResultCode}
    (ht : s.takes h) (hc : exec c s = takeRequest h .write body s)
    (hb : body (s.noteHeader h) = refuse .write code (s.noteHeader h)) :
    ∃ t : State, exec c s = .next t ∧ LinksOnly { s with port := answeredPort s h .write code .empty } t ∧
      t.newestAnswer = some (answerTo s h .write code .empty) :=
  write_answered ht hc (hb.trans (refuse_noteHeader s h .write code))

/-! ### Records put in place -/

section
variable {α β : Type} {n : Nat} (v : Vector α n) (index : Nat) (l : List β) (f : α → β → α)

theorem putRecords_outside (k : Fin n) (h : k.val < index ∨ index + l.length ≤ k.val) :
    (putRecords v index l f)[k] = v[k] := by
  simp only [putRecords, Fin.getElem_fin, Vector.getElem_ofFn]
  rcases h with h | h
  · rw [if_neg (by omega)]
  · rw [List.getElem?_eq_none (by omega)]
    split <;> rfl

theorem putRecords_at (k : Fin n) (r : β) (h : index ≤ k.val) (hr : l[k.val - index]? = some r) :
    (putRecords v index l f)[k] = f v[k] r := by
  simp only [putRecords, Fin.getElem_fin, Vector.getElem_ofFn, hr]
  rw [if_pos h]

end

/-! ### Records read -/

/-- Records that can all be read are read in their order; one was clamped where the reading of one says so. -/
theorem readAll_of_readable {α β : Type} {f : α → Option (β × Bool)} :
    ∀ {l : List α}, (∀ a ∈ l, f a ≠ none) →
      ∃ (bs : List β) (clamped : Bool), readAll f l = some (bs, clamped) ∧ bs.length = l.length ∧
        (∀ (i : Nat) (a : α), l[i]? = some a → ∃ b c, f a = some (b, c) ∧ bs[i]? = some b) ∧
        (clamped = true ↔ ∃ a ∈ l, ∃ b, f a = some (b, true))
  | [], _ => ⟨[], false, rfl, rfl, by simp, by simp⟩
  | a :: l, h => by
    obtain ⟨⟨b, c⟩, hb⟩ := Option.ne_none_iff_exists'.mp (h a List.mem_cons_self)
    obtain ⟨bs, clamped, hr, hlen, hget, hcl⟩ := readAll_of_readable fun x hx => h x (List.mem_cons_of_mem _ hx)
    refine ⟨b :: bs, c || clamped, by simp [readAll, hb, hr], by simp [hlen], fun i x hx => ?_, ?_⟩
    · cases i with
      | zero =>
        obtain rfl : a = x := by simpa using hx
        exact ⟨b, c, hb, rfl⟩
      | succ i => exact hget i x (by simpa using hx)
    · simp [hb, hcl]

/-- One record outside its named values, and the WRITE is refused. -/
theorem readAll_singleton_none {α β : Type} {f : α → Option (β × Bool)} {a : α} (h : f a = none) :
    readAll f [a] = none := by simp [readAll, h]

theorem readAll_singleton {α β : Type} {f : α → Option (β × Bool)} {a : α} {b : β × Bool} (h : f a = some b) :
    readAll f [a] = some ([b.1], b.2) := by simp [readAll, h]

/-! ### Coin and bill tables (R1, R2) -/

/-- R1, R2: the value a record of a coin or bill table takes, and its two flags. -/
theorem readMoney_eq (most : Nat) (r : RawValue) :
    readMoney most r = ({ value := min most r.value.toNat, accept := r.flags.getLsbD 0
                          assured := r.flags.getLsbD 1 }, decide (most < r.value.toNat)) := by
  simp [readMoney, clampNat]

theorem takenCode_readMoney (most : Nat) (records : List RawValue) :
    takenCode ((records.map (readMoney most)).any Prod.snd) =
      if ∃ r ∈ records, most < r.value.toNat then .clamped else .ok := by
  simp [takenCode, readMoney_eq]

/-- R1: a WRITE that keeps every coin value changes none. -/
theorem changesValue_false {before after : Vector MoneyType 16} (h : ∀ k : CoinId, before[k].value = after[k].value) :
    changesValue before after = false := by
  simpa [changesValue] using h

theorem indexFits_of {size most index n : Nat} (hi : index < size) (hn : index + n ≤ size) (hm : size ≤ most) :
    indexFits size most index n = true := by
  simp [indexFits]; omega

/-- R1: a coin table WRITE that is taken. -/
theorem writeCoins_taken {s : State} (h : ReqHeader) {index : Nat} {records : List RawValue} (hi : index < 16)
    (hn : index + records.length ≤ 16)
    (hv : s.payout.phase = .idle ∨ ∀ (k : CoinId) (r : RawValue), index ≤ k.val →
      records[k.val - index]? = some r → min 2000 r.value.toNat = s.cash.coins[k].value) :
    writeCoins index records (s.noteHeader h) =
      ((s.setCash { s.cash with
          coins := putRecords s.cash.coins index (records.map (readMoney 2000)) fun _ r => r.1 }).setPort
        (answeredPort s h .write (if ∃ r ∈ records, 2000 < r.value.toNat then .clamped else .ok) .empty), []) := by
  have hkeep : ¬ (changesValue s.cash.coins
      (putRecords s.cash.coins index (records.map (readMoney 2000)) fun _ r => r.1) = true ∧
        (s.noteHeader h).payIdle = false) := by
    rintro ⟨hc, hp⟩
    have hp : s.payout.phase ≠ .idle := by simpa [State.payIdle] using hp
    rw [changesValue_false fun k => ?_] at hc
    · cases hc
    by_cases hk : index ≤ k.val
    · cases hr : records[k.val - index]? with
      | none =>
        rw [putRecords_outside _ _ _ _ _ (.inr ?_)]
        have := List.getElem?_eq_none_iff.mp hr
        simp
        omega
      | some r =>
        rw [putRecords_at _ _ _ _ _ (readMoney 2000 r) hk (by simp [hr]), readMoney_eq]
        exact ((hv.resolve_left hp) k r hk hr).symm
    · rw [putRecords_outside _ _ _ _ _ (.inl (by omega))]
  unfold writeCoins
  rw [if_pos (indexFits_of hi hn le_rfl)]
  simp only [Config.coinMax, State.noteHeader_cash]
  rw [if_neg hkeep, takenWrite, setCash_answer, takenCode_readMoney]

/-- R2: a bill table WRITE that is taken. -/
theorem writeBills_taken {s : State} (h : ReqHeader) {index : Nat} {records : List RawValue} (hi : index < 8)
    (hn : index + records.length ≤ 8) :
    writeBills index records (s.noteHeader h) =
      ((s.setCash { s.cash with
          bills := putRecords s.cash.bills index (records.map (readMoney 9999)) fun _ r => r.1 }).setPort
        (answeredPort s h .write (if ∃ r ∈ records, 9999 < r.value.toNat then .clamped else .ok) .empty), []) := by
  unfold writeBills
  rw [if_pos (indexFits_of hi hn le_rfl)]
  simp only [Config.moneyMax, State.noteHeader_cash]
  rw [takenWrite, setCash_answer, takenCode_readMoney]

/-- Settles O27: the WRITE's own effect is the table put in place beside the ANSWER; the links alone follow it. -/
theorem moneyTablesWritten : Obligations.MoneyTablesWritten := by
  intro s h index records ht wrote money
  have read : ∀ (most : Nat) (i : Nat) (r : RawValue), records[i]? = some r →
      (records.map (readMoney most))[i]? = some (readMoney most r) := fun most i r hr => by simp [hr]
  refine ⟨fun hi hn hv => ?_, fun hi hn => ?_⟩
  · obtain ⟨t, he, l, ha⟩ := write_answered (c := .writeCoinTable h index records) ht rfl (writeCoins_taken h hi hn hv)
    have hput : t.cash.coins = putRecords s.cash.coins index.toNat (records.map (readMoney 2000)) fun _ r => r.1 := l.coins
    refine ⟨t, he, fun k hk => ?_, fun k r hk hr => ?_, ?_, ha⟩ <;> rw [hput]
    · exact putRecords_outside _ _ _ _ _ (by simpa using hk)
    · rw [putRecords_at _ _ _ _ _ _ hk (read 2000 _ r hr), readMoney_eq]
    · exact l
  · obtain ⟨t, he, l, ha⟩ := write_answered (c := .writeBillTable h index records) ht rfl (writeBills_taken h hi hn)
    have hput : t.cash.bills = putRecords s.cash.bills index.toNat (records.map (readMoney 9999)) fun _ r => r.1 := l.bills
    refine ⟨t, he, fun k hk => ?_, fun k r hk hr => ?_, ?_, ha⟩ <;> rw [hput]
    · exact putRecords_outside _ _ _ _ _ (by simpa using hk)
    · rw [putRecords_at _ _ _ _ _ _ hk (read 9999 _ r hr), readMoney_eq]
    · exact l

end Sys2Proof.Laws
end

section
/-! SUPPORT. The tube table WRITE (R4, R5), and the refusals of the ten WRITEs (R183). -/

namespace Sys2Proof.Laws
open Sys2Proof Sys2Proof.Machine

/-! ### Recomputing the routing (R5, R6) -/

/-- R5, R6: the routing becomes the tube table's; a STEER may be handed. -/
theorem reroute_links (s : State) :
    LinksOnly (s.setCash { s.cash with routing := routesFor s.cash.tubes }) s.reroute := by
  fun_cases State.reroute s with
  | case1 r h =>
    have hs : s.setCash { s.cash with routing := routesFor s.cash.tubes } = s := by
      rw [show routesFor s.cash.tubes = s.cash.routing from h]
      rfl
    rw [hs]
    exact .refl s
  | case2 => exact .hand _ _ _ rfl

theorem reroute_grows (s : State) : PortGrows s.port s.reroute.port := by
  fun_cases State.reroute s with
  | case1 => exact .refl _
  | case2 r => exact State.hand_grows (s.setCash { s.cash with routing := r }) coinMech (steerRequest r)

/-! ### Reading a tube record (R4) -/

/-- R177: a coin type field names a coin type or NONE. -/
theorem readCoinType_eq {b : Byte} (h : b.toNat < 16 ∨ b = 0xFF#8) :
    ∃ ct : Option CoinId, readCoinType b = some ct ∧ ∀ c : CoinId, ct = some c ↔ b.toNat = c.val := by
  rcases h with h | rfl
  · exact ⟨some ⟨b.toNat, h⟩, by simp [readCoinType, h], fun c => by simp [Fin.ext_iff]⟩
  · refine ⟨none, by decide, fun c => ?_⟩
    have := c.isLt
    simp
    omega

theorem clampNat_snd (lo hi n : Nat) : (clampNat lo hi n).2 = true ↔ n < lo ∨ hi < n := by
  simp [clampNat]

/-- R4: the fields a tube record takes, clamped in R4's order, and when one was clamped. -/
theorem readTube_eq {r : RawTube} (h : r.coinType.toNat < 16 ∨ r.coinType = 0xFF#8) :
    ∃ (t : Tube) (clamped : Bool), readTube r = some (t, clamped) ∧
      let cap := max 1 (min 250 r.capacity.toNat)
      (∀ c : CoinId, t.coinType = some c ↔ r.coinType.toNat = c.val) ∧ t.capacity = cap ∧
      t.count = min cap r.count.toNat ∧ t.full = max 1 (min cap r.full.toNat) ∧ t.low = min cap r.low.toNat ∧
      t.trust = .exact ∧
      (clamped = true ↔ r.capacity.toNat ≠ cap ∨ cap < r.count.toNat ∨ r.full.toNat = 0 ∨ cap < r.full.toNat ∨
        cap < r.low.toNat) := by
  obtain ⟨ct, hct, hc⟩ := readCoinType_eq h
  simp only [readTube, hct]
  refine ⟨_, _, rfl, hc, rfl, by simp [clampNat, Config.tubeMax], by simp [clampNat, Config.tubeMax],
    by simp [clampNat, Config.tubeMax], rfl, ?_⟩
  simp only [Bool.or_eq_true, clampNat_snd]
  simp only [clampNat]
  unfold Config.tubeMax
  omega

/-- R4: a tube table WRITE that is taken: the records in place, the ANSWER, and the routing recomputed. -/
theorem writeTubes_taken {s : State} {h : ReqHeader} {index : Nat} {records : List RawTube} {ts : List Tube}
    {clamped : Bool} (hi : index < 6) (hn : index + records.length ≤ 6)
    (hp : ∀ p, s.payout.inFlight = some p → p.tube.val < index ∨ index + records.length ≤ p.tube.val)
    (hr : readAll readTube records = some (ts, clamped)) :
    writeTubes index records (s.noteHeader h) =
      (((s.setCash { s.cash with tubes := putRecords s.cash.tubes index ts fun _ t => t }).setPort
        (answeredPort s h .write (takenCode clamped) .empty)).reroute, []) := by
  have hfree : tubesInUse (s.noteHeader h) index records.length = false := by
    unfold tubesInUse
    simp only [State.noteHeader_payout]
    split
    · rename_i c hc
      have := hp c hc
      simp
      omega
    · rfl
  unfold writeTubes
  rw [if_pos (indexFits_of hi hn le_rfl), hr]
  simp only [hfree, State.noteHeader_cash, takenWrite, setCash_answer, State.only]
  rfl

/-- R5: what a tube table taken from a request leaves: the table with R5's routing, beside the ANSWER. -/
theorem rerouted_answered {s : State} {h : ReqHeader} {c : Instr} {tubes : Vector Tube 6} {code : ResultCode}
    (hc : exec c s = finish s
      (((s.setCash { s.cash with tubes := tubes }).setPort (answeredPort s h .write code .empty)).reroute, [])) :
    ∃ t : State, exec c s = .next t ∧
      LinksOnly { s with cash := { s.cash with tubes := tubes, routing := routesFor tubes }
                         port := answeredPort s h .write code .empty } t ∧
      t.newestAnswer = some (answerTo s h .write code .empty) := by
  rw [hc]
  refine finish_answered ?_ ?_
  · rw [runOut_nil]
    exact reroute_links ((s.setCash { s.cash with tubes := tubes }).setPort (answeredPort s h .write code .empty))
  · rw [runOut_nil, (reroute_grows _).slot]
    rfl

/-- Settles O28: the WRITE's own effect is the table put in place beside the ANSWER, and the recomputed routing. -/
theorem tubeTableWritten : Obligations.TubeTableWritten := by
  intro s h index records ht hi hn hp hnamed
  obtain ⟨ts, clamped, hr, hlen, hget, hcl⟩ := readAll_of_readable (f := readTube) (l := records) fun r hr => by
    obtain ⟨t, c, he, -⟩ := readTube_eq (hnamed r hr)
    simp [he]
  have hout (k : TubeId) (hk : k.val < index.toNat ∨ index.toNat + records.length ≤ k.val) :=
    putRecords_outside s.cash.tubes index.toNat ts (fun _ t => t) k (hlen ▸ hk)
  have hin (k : TubeId) (b : Tube) (hk : index.toNat ≤ k.val) (hb : ts[k.val - index.toNat]? = some b) :=
    putRecords_at s.cash.tubes index.toNat ts (fun _ t => t) k b hk hb
  have hexec := (takeRequest_taken h .write _ s ht).trans (congrArg (finish s) (writeTubes_taken (h := h) hi hn hp hr))
  generalize putRecords s.cash.tubes index.toNat ts (fun _ t => t) = tubes at hout hin hexec
  obtain ⟨t, he, l, ha⟩ := rerouted_answered (c := .writeTubeTable h index records) hexec
  have hput : t.cash.tubes = tubes := l.tubes
  refine ⟨t, _, he, ?_, ?_, fun k hk => hput ▸ hout k hk, fun k r hk hget' => ?_, hput ▸ l, ha⟩
  · cases clamped <;> simp [takenCode]
  · have hc : takenCode clamped = .clamped ↔ clamped = true := by cases clamped <;> simp [takenCode]
    rw [hc, hcl]
    refine exists_congr fun r => and_congr_right fun hr => ?_
    obtain ⟨b, c, hb, -, -, -, -, -, -, hclamp⟩ := readTube_eq (hnamed r hr)
    rw [← hclamp, hb]
    simp
  · obtain ⟨b, c, hb, hbs⟩ := hget _ r hget'
    obtain ⟨b', c', hb', hty, hcap, hcount, hfull, hlow, htrust, -⟩ :=
      readTube_eq (hnamed r (List.mem_of_getElem? hget'))
    obtain ⟨rfl, -⟩ : b' = b ∧ c' = c := by simpa [hb'] using hb
    rw [hput, hin k _ hk hbs]
    exact ⟨hty, hcap, hcount, hfull, hlow, htrust⟩

/-! ### The refusals (R183) -/

theorem indexFits_false {size most index n : Nat} (h : size ≤ index ∨ size < index + n) :
    indexFits size most index n = false := by
  simp [indexFits]; omega

theorem readLink_none {b : Byte} (h : 64 ≤ b.toNat) (hb : b ≠ 0xFF#8) : readLink b = none := by
  simp [readLink, hb]; omega

theorem readSelection_none {r : RawSelection} (h : 64 ≤ r.head.toNat ∧ r.head ≠ 0xFF#8 ∨ 4 ≤ r.modes.toNat) :
    readSelection r = none := by
  unfold readSelection
  rcases h with ⟨h, hb⟩ | h
  · rw [readLink_none h hb]
  · split
    · rfl
    · rw [if_neg (by omega)]

theorem readColState_none : ∀ {n : Nat}, 5 ≤ n → readColState n = none
  | _ + 5, _ => rfl

theorem readColumn_none {r : RawColumn}
    (h : 5 ≤ r.stateZone.toNat % 16 ∨ 48 ≤ r.stateZone.toNat ∨ 64 ≤ r.next.toNat ∧ r.next ≠ 0xFF#8) :
    readColumn r = none := by
  unfold readColumn
  dsimp only
  rcases h with h | h | ⟨h, hb⟩
  · rw [readColState_none h]
  · have hz : (if r.stateZone.toNat < 64 then readZoneId (r.stateZone.toNat / 16) else none) = none := by
      split
      · simp [readZoneId]
        omega
      · rfl
    rw [hz]
    cases readColState (r.stateZone.toNat % 16) <;> rfl
  · rw [readLink_none h hb]
    split <;> simp_all

theorem ascending_iff : ∀ {l : List Nat}, ascending l = true ↔ l.Pairwise (· < ·)
  | [] => by simp [ascending]
  | [a] => by simp [ascending]
  | a :: b :: l => by
    rw [ascending, Bool.and_eq_true, decide_eq_true_eq, ascending_iff, List.pairwise_cons (a := a)]
    refine and_congr_left fun hp => ⟨fun h c hc => ?_, fun h => h b List.mem_cons_self⟩
    rcases List.mem_cons.mp hc with rfl | hc
    · exact h
    · exact h.trans (List.rel_of_pairwise_cons hp hc)

theorem readCalibration_none {l : List RawBreakpoint}
    (h : l.length < 2 ∨ 16 < l.length ∨ (∃ p ∈ l, 1023 < p.code.toNat) ∨
      ¬ (l.map fun p => p.code.toNat).Pairwise (· < ·)) : readCalibration l = none := by
  unfold readCalibration
  dsimp only
  rw [if_neg]
  rintro ⟨h2, h16, hmost, hasc⟩
  rcases h with h | h | ⟨p, hp, hc⟩ | h
  · omega
  · omega
  · have := List.all_eq_true.mp hmost _ (List.mem_map_of_mem hp)
    simp at this
    omega
  · exact h (ascending_iff.mp hasc)

theorem readZone_none {r : RawZone} (h : 2 ≤ r.mode.toNat) : readZone r = none := by
  rw [readZone, if_neg (by omega)]

theorem ofNat_toNat {n : Nat} (i : Fin n) (h : n ≤ 256) : (BitVec.ofNat 8 i.val).toNat = i.val := by
  have := i.isLt
  rw [BitVec.toNat_ofNat, Nat.mod_eq_of_lt (by omega)]

/-- A record that links its own column makes a chain without END (R58). -/
theorem chainEnds_self {cols : Vector Column 64} {i : ColumnId} (h : (cols[i]).next = some i) :
    ∀ n, chainEnds cols n (some i) = false
  | 0 => rfl
  | n + 1 => by rw [chainEnds, h, chainEnds_self h n]

theorem linksKept_self {m : SelMap} {i : ColumnId} (h : (m.columns[i]).next = some i) : m.linksKept = false := by
  have hc : (allColumns.all fun c => chainEnds m.columns 64 (some c)) = false := by
    rw [Bool.eq_false_iff]
    intro hall
    have := List.all_eq_true.mp hall i (List.mem_finRange i)
    rw [chainEnds_self h] at this
    cases this
  rw [SelMap.linksKept, hc, Bool.and_false]

/-- R57, R177: an AVAILABLE column of zone A whose next is named is read. -/
theorem readColumn_some {r : RawColumn} {next : Option ColumnId} (hz : r.stateZone = 0#8)
    (hn : readLink r.next = some next) :
    ∃ (c : Column) (clamped : Bool), readColumn r = some (c, clamped) ∧ c.next = next := by
  simp only [readColumn, hz, hn]
  exact ⟨_, _, rfl, rfl⟩

section
variable {s : State} {h : ReqHeader}

theorem writeCoins_inUse (i : CoinId) (r : RawValue) (hp : s.payout.phase ≠ .idle)
    (hv : min 2000 r.value.toNat ≠ s.cash.coins[i].value) :
    writeCoins i.val [r] s = refuse .write .inUse s := by
  have hc : changesValue s.cash.coins
      (putRecords s.cash.coins i.val ([r].map (readMoney Config.coinMax)) fun _ r => r.1) = true := by
    refine List.any_eq_true.mpr ⟨i, List.mem_finRange i, ?_⟩
    rw [putRecords_at _ _ _ _ i (readMoney Config.coinMax r) le_rfl (by simp), readMoney_eq]
    exact decide_eq_true hv.symm
  unfold writeCoins
  rw [if_pos (indexFits_of i.isLt (by simp) le_rfl)]
  simp only
  rw [if_pos ⟨hc, by simpa [State.payIdle] using hp⟩]

theorem writeTubes_badValue (i : TubeId) (r : RawTube) (hc : 16 ≤ r.coinType.toNat) (hn : r.coinType ≠ 0xFF#8) :
    writeTubes i.val [r] s = refuse .write .badValue s := by
  have hr : readTube r = none := by
    have : readCoinType r.coinType = none := by simp [readCoinType, hn]; omega
    simp [readTube, this]
  unfold writeTubes
  rw [if_pos (indexFits_of i.isLt (by simp) le_rfl), readAll_singleton_none hr]

theorem writeTubes_inUse (i : TubeId) (r : RawTube) (p : PayCmd) (hc : r.coinType.toNat < 16)
    (hp : s.payout.inFlight = some p) (hi : p.tube = i) :
    writeTubes i.val [r] s = refuse .write .inUse s := by
  obtain ⟨t, c, ht, -⟩ := readTube_eq (r := r) (.inl hc)
  unfold writeTubes
  rw [if_pos (indexFits_of i.isLt (by simp) le_rfl), readAll_singleton ht]
  simp [tubesInUse, hp, hi]

theorem writeSelections_badValue (i : SelectionId) (r : RawSelection)
    (hr : 64 ≤ r.head.toNat ∧ r.head ≠ 0xFF#8 ∨ 4 ≤ r.modes.toNat) :
    writeSelections i.val [r] s = refuse .write .badValue s := by
  unfold writeSelections
  rw [if_pos (by simp [indexFits]), readAll_singleton_none (readSelection_none hr)]

theorem writeColumns_badValue (i : ColumnId) (r : RawColumn)
    (hr : 5 ≤ r.stateZone.toNat % 16 ∨ 48 ≤ r.stateZone.toNat ∨ 64 ≤ r.next.toNat ∧ r.next ≠ 0xFF#8) :
    writeColumns i.val [r] s = refuse .write .badValue s := by
  unfold writeColumns
  rw [if_pos (by simp [indexFits]), readAll_singleton_none (readColumn_none hr)]

theorem writeColumns_inUse (i : ColumnId) (r : RawColumn) (a : Attempt) (hz : r.stateZone = 0#8)
    (hn : r.next = 0xFF#8) (ha : s.drive.attempt = some a) (hi : a.column = i) :
    writeColumns i.val [r] s = refuse .write .inUse s := by
  obtain ⟨c, clamped, hc, -⟩ := readColumn_some (next := none) hz (by rw [hn]; rfl)
  unfold writeColumns
  rw [if_pos (by simp [indexFits]), readAll_singleton hc]
  simp [columnsHeld, ha, hi]

theorem writeColumns_listError (i : ColumnId) (r : RawColumn) (hz : r.stateZone = 0#8)
    (ha : s.drive.attempt = none) (hn : r.next.toNat = i.val) :
    writeColumns i.val [r] s = refuse .write .listError s := by
  obtain ⟨c, clamped, hc, hnext⟩ := readColumn_some (next := some i) hz (by simp [readLink, hn])
  have hput : (putRecords s.map.columns i.val [c] fun _ c => c)[i] = c :=
    putRecords_at _ _ _ _ i c le_rfl (by simp)
  unfold writeColumns
  rw [if_pos (by simp [indexFits]), readAll_singleton hc]
  simp only [columnsHeld, ha]
  rw [if_neg (by simp), linksKept_self (i := i) (by rw [hput, hnext])]
  simp

theorem writeSettings_badIndex {n : Nat} {l : List RawSettings} (hn : n ≠ 0 ∨ 1 < l.length) :
    writeSettings n l s = refuse .write .badIndex s := by
  unfold writeSettings
  split
  · simp at hn
  · rfl

end

/-- Settles O34: each refused WRITE is refused by the body of its own table. -/
theorem refusedWriteTakesNothing : Obligations.RefusedWriteTakesNothing := by
  intro s h c code ht hc
  have bad : ∀ {size most : Nat} {n : Nat} {i : Byte}, (size ≤ i.toNat ∨ size < i.toNat + n) →
      ¬ indexFits size most i.toNat n = true := fun hi => by simp [indexFits_false hi]
  rcases hc with ⟨i, r, rfl, hi, rfl⟩ | ⟨i, r, rfl, hi, rfl⟩ | ⟨i, r, rfl, hi, rfl⟩ | ⟨i, r, rfl, hi, rfl⟩ |
    ⟨i, r, rfl, hi, rfl⟩ | ⟨i, r, rfl, hi, rfl⟩ | ⟨i, r, rfl, hi, rfl⟩ | ⟨i, r, rfl, hi, rfl⟩ | ⟨i, r, rfl, hi, rfl⟩ |
    ⟨i, r, rfl, hi, rfl⟩ | ⟨i, r, rfl, hp, hv, rfl⟩ | ⟨i, r, rfl, hr, hn, rfl⟩ | ⟨i, r, p, rfl, hr, hp, hi, rfl⟩ |
    ⟨i, r, rfl, hr, rfl⟩ | ⟨i, r, rfl, hr, rfl⟩ | ⟨i, r, a, rfl, hz, hn, ha, hi, rfl⟩ | ⟨i, r, rfl, hz, ha, hn, rfl⟩ |
    ⟨r, rfl, hr, rfl⟩ | ⟨i, r, rfl, hr, rfl⟩
  · exact write_refused ht rfl (if_neg (bad hi))
  · exact write_refused ht rfl (if_neg (bad hi))
  · exact write_refused ht rfl (if_neg (bad hi))
  · exact write_refused ht rfl (if_neg (bad hi))
  · exact write_refused ht rfl (if_neg (bad hi))
  · exact write_refused ht rfl (if_neg fun h0 => hi (BitVec.eq_of_toNat_eq h0))
  · exact write_refused ht rfl (if_neg (bad hi))
  · exact write_refused ht rfl (if_neg (bad hi))
  · exact write_refused ht rfl (writeSettings_badIndex (hi.imp_left fun h0 hc => h0 (BitVec.eq_of_toNat_eq hc)))
  · exact write_refused ht rfl (if_neg (bad hi))
  · refine write_refused ht rfl ?_
    rw [ofNat_toNat i (by decide)]
    exact writeCoins_inUse i r (by simpa using hp) (by simpa using hv)
  · refine write_refused ht rfl ?_
    rw [ofNat_toNat i (by decide)]
    exact writeTubes_badValue i r hr hn
  · refine write_refused ht rfl ?_
    rw [ofNat_toNat i (by decide)]
    exact writeTubes_inUse i r p hr (by simpa using hp) hi
  · refine write_refused ht rfl ?_
    rw [ofNat_toNat i (by decide)]
    exact writeSelections_badValue i r hr
  · refine write_refused ht rfl ?_
    rw [ofNat_toNat i (by decide)]
    exact writeColumns_badValue i r hr
  · refine write_refused ht rfl ?_
    rw [ofNat_toNat i (by decide)]
    exact writeColumns_inUse i r a hz hn (by simpa using ha) hi
  · refine write_refused ht rfl ?_
    rw [ofNat_toNat i (by decide)]
    exact writeColumns_listError i r hz (by simpa using ha) hn
  · refine write_refused ht rfl ?_
    simp [writeCalibration, readCalibration_none hr]
  · refine write_refused ht rfl ?_
    rw [ofNat_toNat i (by decide)]
    simp only [writeZones]
    rw [if_pos (by simp [indexFits]), readAll_singleton_none (readZone_none hr)]

end Sys2Proof.Laws
end

section
/-! SUPPORT. Power-on: what POWER_ON answers, and that the reset state meets the invariants. -/

namespace Sys2Proof.Laws
open Sys2Proof Sys2Proof.Machine

theorem replicate_get {α : Type} {n : Nat} (x : α) (k : Fin n) : (Vector.replicate n x)[k] = x := by simp

/-- R133: the three zones at power-on. -/
theorem zones_powerOn (z : ZoneId) : Cooling.powerOn.zones[z] =
    { mode := if z = 0 then .monitor else .chill, setpoint := 30, differential := 20
      healthFlag := decide (z = 2), healthLimit := 50, allowance := 60, demand := .satisfied, duty := none } := by
  revert z
  decide

/-- Settles O3: block by block, the power-on values of State.lean. -/
theorem powerOnSetsEveryRecord : Obligations.PowerOnSetsEveryRecord := by
  intro s
  have hsend : (Port.powerOn s.pins.hold s.mode.door).sending = none ↔ s.pins.hold = true := by
    cases h : s.pins.hold <;> simp [Port.powerOn]
  have hout : (Port.powerOn s.pins.hold s.mode.door).sending.toList ++
      (Port.powerOn s.pins.hold s.mode.door).slot.toList.map OutFrame.answer ++
      (Port.powerOn s.pins.hold s.mode.door).reports.map OutFrame.report =
        [.report (.modeNote (startNote s.mode.door))] := by
    cases h : s.pins.hold <;> rfl
  exact ⟨_, rfl, rfl, replicate_get _, replicate_get _, replicate_get _, replicate_get _, rfl, rfl, rfl, rfl, rfl, rfl,
    replicate_get _, replicate_get _, rfl, rfl, rfl, rfl, rfl, rfl, rfl, rfl, replicate_get _, zones_powerOn, rfl,
    replicate_get _, rfl, rfl, rfl, rfl, replicate_get _, rfl, rfl, rfl, rfl, rfl, rfl, rfl, rfl, hsend, hout, rfl,
    rfl, rfl, rfl, rfl⟩

/-- R58: at power-on no link names a column. -/
theorem reset_next (c : ColumnId) : (State.reset.map.columns[c]).next = none :=
  congrArg Column.next (replicate_get _ c)

theorem reset_links : State.reset.map.links = [] := by
  show ((Vector.replicate 100 Selection.powerOn).toList.filterMap Selection.head) ++
    ((Vector.replicate 64 Column.powerOn).toList.filterMap Column.next) = []
  simp [Vector.toList_replicate, Selection.powerOn, Column.powerOn]

/-- R58: without a link the links have their one shape, and no cursor is set. -/
theorem reset_linksShaped : LinksShaped State.reset := by
  refine ⟨?_, fun i c h => ?_⟩
  · rw [SelMap.linksKept, reset_links]
    refine (Bool.true_and _).trans (List.all_eq_true.mpr fun c _ => ?_)
    rw [chainEnds, reset_next, chainEnds]
  · have hn : (State.reset.map.selections[i]).cursor = none := congrArg Selection.cursor (replicate_get _ i)
    rw [hn] at h
    cases h

/-- Settles O4: each invariant on the power-on values. -/
theorem resetMeetsInvariants : Obligations.ResetMeetsInvariants := by
  have kept : MoneyKept State.reset := rfl
  have bounded : MoneyBounded State.reset := ⟨Nat.zero_le _, Nat.zero_le _, Nat.zero_le _⟩
  have queue : LineQueueBounded State.reset := ⟨Nat.zero_le _, Nat.zero_le _, .nil⟩
  have order : RequestsInOrder State.reset := ⟨.nil, nofun⟩
  have timers : PlantTimersPlaced State.reset.cool.plant := ⟨nofun, nofun, nofun⟩
  have rest : OffLongEnough State.reset := ⟨fun h => absurd h (by decide), timers⟩
  exact ⟨kept, bounded, rfl, Nat.zero_le _, queue, Nat.zero_le _, order, reset_linksShaped, ⟨rfl, nofun⟩, rest,
    powerOn_routed _ _⟩

end Sys2Proof.Laws
end

section
/-! SUPPORT. The frame of the links under block writes, what a handed frame does to the line, and how an event's inner
steps run one after another. -/

namespace Sys2Proof.Machine

/-! ### A write of one block on both sides -/

section
variable {s t : State}

theorem LinksOnly.setLedger (l : LinksOnly s t) (v : Ledger) : LinksOnly (s.setLedger v) (t.setLedger v) :=
  { l with ledger := rfl }

theorem LinksOnly.setCard (l : LinksOnly s t) (v : Card) : LinksOnly (s.setCard v) (t.setCard v) :=
  { l with card := rfl }

theorem LinksOnly.setPayout (l : LinksOnly s t) (v : Payout) : LinksOnly (s.setPayout v) (t.setPayout v) :=
  { l with payout := rfl }

theorem LinksOnly.setDrive (l : LinksOnly s t) (v : Drive) : LinksOnly (s.setDrive v) (t.setDrive v) :=
  { l with drive := rfl }

theorem LinksOnly.setLoad (l : LinksOnly s t) (v : Load) : LinksOnly (s.setLoad v) (t.setLoad v) :=
  { l with load := rfl }

theorem LinksOnly.setPort (l : LinksOnly s t) (p : Port) : LinksOnly (s.setPort p) (t.setPort p) :=
  { l with frames := ⟨[], by simp [State.outLine]⟩, conditions := .inl rfl }

theorem LinksOnly.setCurrentSale (l : LinksOnly s t) (x : Option Sale) :
    LinksOnly (s.setCurrentSale x) (t.setCurrentSale x) := { l with sale := rfl }

theorem LinksOnly.setEscrow (l : LinksOnly s t) (e : Escrow) : LinksOnly (s.setEscrow e) (t.setEscrow e) :=
  { l with escrow := rfl }

/-- R174: removing a station's unsent frames on both sides. -/
theorem LinksOnly.removeFrames (l : LinksOnly s t) (st : StationId) (ks : List LineKind) :
    LinksOnly (s.removeFrames st ks) (t.removeFrames st ks) :=
  { l with
    queue := fun e he => by
      obtain ⟨he, hk⟩ := List.mem_filter.mp he
      exact (l.queue e he).imp_left fun h => List.mem_filter.mpr ⟨h, hk⟩
    money := fun b e he hc => by
      obtain ⟨he, hk⟩ := List.mem_filter.mp he
      exact List.mem_filter.mpr ⟨l.money b e he hc, hk⟩ }

/-- Conditions flagged on both sides. -/
theorem Conditions.flag_comm (c : Conditions) (x y : Condition) : (c.flag x).flag y = (c.flag y).flag x := by
  cases x <;> cases y <;> rfl

theorem LinksOnly.flag (l : LinksOnly s t) (c : Condition) : LinksOnly (s.flag c) (t.flag c) :=
  { l with
    frames := l.frames
    conditions := by
      rcases l.conditions with h | h
      · exact .inl (congrArg (·.flag c) h)
      · exact .inr ((congrArg (·.flag c) h).trans (Conditions.flag_comm _ _ _)) }

/-- The exchange in progress is over and the line is IDLE (R168). -/
def State.lineIdle (s : State) : State := s.setLine { s.line with phase := .idle }

/-- While an exchange is in progress the links leave the stations alone, so its end may be taken on both sides. -/
theorem LinksOnly.lineIdle (l : LinksOnly s t) (h : s.line.phase ≠ .idle) : LinksOnly s.lineIdle t.lineIdle := by
  obtain ⟨-, hst⟩ := l.busy h
  exact { l with
    stations := fun st => by
      show t.line.stations[st] = _
      rw [l.stations st]
      rfl
    outstanding := fun st => .inl (by
      show (t.line.stations[st]).outstanding = (s.line.stations[st]).outstanding
      rw [hst])
    busy := fun hb => absurd rfl hb
    money := fun hb => absurd rfl hb }

/-- A report in the queue stands in the line of frames to send, whatever the links do by themselves. -/
theorem LinksOnly.mem_outLine (l : LinksOnly s t) {r : Report} (h : r ∈ s.port.reports) :
    .report r ∈ t.outLine := by
  obtain ⟨more, hm⟩ := l.frames
  rw [hm]
  exact List.mem_append_left _ (List.mem_append_right _ (List.mem_map_of_mem h))

/-- What stands in the queue afterwards stood there before, or is an ADMIT, STEER or SHOW. -/
theorem LinksOnly.queue_not (l : LinksOnly s t) {P : QueueEntry → Prop} (h : ∀ e ∈ s.line.queue, ¬ P e)
    (k : ∀ e, P e → e.request.kind.single = false) : ∀ e ∈ t.line.queue, ¬ P e := fun e he hp => by
  rcases l.queue e he with hs | hs
  · exact h e hs hp
  · rw [k e hp] at hs
    cases hs

end

/-! ### The frame but for the port -/

/-- `t` is `s` but for what the links do by themselves and for what the service port holds. -/
def PortAside (s t : State) : Prop := LinksOnly (s.setPort t.port) t

theorem LinksOnly.aside {s t : State} (l : LinksOnly s t) : PortAside s t := l.setPort t.port

theorem PortAside.refl (s : State) : PortAside s s := (LinksOnly.refl s).aside

theorem PortAside.trans {s t u : State} (h : PortAside s t) (k : PortAside t u) : PortAside s u :=
  (LinksOnly.setPort h u.port).trans k

theorem PortAside.ofPort {s t : State} (h : PortOnly s t) : PortAside s t := by
  unfold PortAside
  rw [← h]
  exact .refl t

theorem PortAside.report (s : State) (r : Report) : PortAside s (s.report r) := .ofPort (s.report_eq r)

theorem PortAside.answer (s : State) (k : ReqKind) (c : ResultCode) (d : AnswerData) :
    PortAside s (s.answer k c d) := .ofPort (s.answer_eq k c d)

/-! ### What a handed frame does (R173) -/

/-- R173: a CHARGE_END(failed) takes an unsent CHARGE_ASK out of the queue. -/
def askKept (st : StationId) (r : LineRequest) (q : List QueueEntry) : List QueueEntry :=
  if r = chargeEndRequest false then
    q.filter fun e => !(decide (e.station = st) && [LineKind.chargeAsk].contains e.request.kind)
  else q

/-- R173: the queue after a frame was handed for an ACTIVE station: rewritten, or joined where there is room. -/
def handedQueue (st : StationId) (r : LineRequest) (q : List QueueEntry) : List QueueEntry :=
  match rewriteEntry st r (askKept st r q) with
  | some q' => q'
  | none =>
    if (askKept st r q).length < Config.lineQueueMax then askKept st r q ++ [{ station := st, request := r }]
    else match dropNewestRelay (askKept st r q) with
      | some (_, q') => q' ++ [{ station := st, request := r }]
      | none => askKept st r q

theorem mem_askKept {st : StationId} {r : LineRequest} {q : List QueueEntry} : ∀ e ∈ askKept st r q, e ∈ q := by
  intro e he
  unfold askKept at he
  split at he
  · exact (List.mem_filter.mp he).1
  · exact he

theorem mem_rewriteEntry {st : StationId} {r : LineRequest} : ∀ {q q' : List QueueEntry},
    rewriteEntry st r q = some q' → ∀ e ∈ q', e ∈ q ∨ (e.station = st ∧ e.request = r)
  | [], _, h => by cases h
  | e :: es, q', h => by
    rw [rewriteEntry] at h
    split at h
    · rename_i hc
      obtain rfl : _ :: es = q' := Option.some.inj h
      intro x hx
      rcases List.mem_cons.mp hx with rfl | hx
      · exact .inr ⟨hc.1, rfl⟩
      · exact .inl (List.mem_cons_of_mem _ hx)
    · obtain ⟨es', hes, rfl⟩ := Option.map_eq_some_iff.mp h
      intro x hx
      rcases List.mem_cons.mp hx with rfl | hx
      · exact .inl List.mem_cons_self
      · exact (mem_rewriteEntry hes x hx).imp_left (List.mem_cons_of_mem _)

/-- R173: what stands in the queue after a handed frame stood there before or is that frame. -/
theorem mem_handedQueue {st : StationId} {r : LineRequest} {q : List QueueEntry} :
    ∀ e ∈ handedQueue st r q, e ∈ q ∨ (e.station = st ∧ e.request = r) := by
  have hjoin : ∀ k : List QueueEntry, (∀ e ∈ k, e ∈ q) → ∀ e ∈ k ++ [({ station := st, request := r } : QueueEntry)],
      e ∈ q ∨ (e.station = st ∧ e.request = r) := fun k hk e he => by
    rcases List.mem_append.mp he with h | h
    · exact .inl (hk e h)
    · exact .inr (by rw [List.mem_singleton.mp h]; exact ⟨rfl, rfl⟩)
  unfold handedQueue
  split
  · exact fun e he => (mem_rewriteEntry ‹_› e he).imp_left (mem_askKept e)
  · split
    · exact hjoin _ mem_askKept
    · split
      · exact hjoin _ fun e he => mem_askKept e (dropNewestRelay_mem ‹_› e he)
      · exact fun e he => .inl (mem_askKept e he)

theorem State.hand_queue (s : State) (st : StationId) (r : LineRequest) :
    (s.hand st r).line.queue = if s.active st then handedQueue st r s.line.queue else s.line.queue := by
  have hdrop : (s.dropStaleAsk st r).line.queue = askKept st r s.line.queue := by
    unfold State.dropStaleAsk askKept
    split <;> rfl
  unfold State.hand State.handFrame
  split
  · unfold handedQueue
    rw [← hdrop]
    clear hdrop
    dsimp only
    split
    · simp [*]
    · unfold State.joinQueue
      split
      · simp [*]
      · split <;> simp [State.discarded, *]
  · rfl

theorem State.mem_hand_queue {s : State} {st : StationId} {r : LineRequest} {e : QueueEntry}
    (h : e ∈ (s.hand st r).line.queue) : e ∈ s.line.queue ∨ (s.active st = true ∧ e.station = st ∧ e.request = r) := by
  rw [State.hand_queue] at h
  split at h
  · exact (mem_handedQueue e h).imp_right fun he => ⟨‹_›, he⟩
  · exact .inl h

/-- The line after a frame was handed: the queue alone is another, as the old queue and the station's state give it. -/
theorem State.hand_line (s : State) (st : StationId) (r : LineRequest) :
    (s.hand st r).line =
      { s.line with queue := if s.active st then handedQueue st r s.line.queue else s.line.queue } := by
  rw [s.hand_eq st r, State.setPort_line, State.setQueue_line, ← s.hand_queue st r]

/-- A frame handed is its queue, and what the port may have to report of it. -/
theorem LinksOnly.hand_line (s : State) (st : StationId) (r : LineRequest) :
    LinksOnly (s.setLine (s.hand st r).line) (s.hand st r) := by
  have h : s.hand st r = (s.setLine (s.hand st r).line).setPort (s.hand st r).port := by
    conv_lhs => rw [s.hand_eq st r]
    rw [s.hand_line st r, ← s.hand_queue st r]
    rfl
  conv_rhs => rw [h]
  exact .ofPort _ _ (s.hand_grows st r)

/-! ### How long the report queue gets -/

/-- The port grows by status reports alone, which join while at most 19 reports stand (R191). -/
structure PortCalm (p q : Port) : Prop extends PortGrows p q where
  short : q.reports.length ≤ max p.reports.length 20

theorem PortCalm.refl (p : Port) : PortCalm p p := ⟨.refl p, le_max_left _ _⟩

theorem PortCalm.trans {p q r : Port} (h : PortCalm p q) (k : PortCalm q r) : PortCalm p r :=
  ⟨h.toPortGrows.trans k.toPortGrows, by have := h.short; have := k.short; omega⟩

theorem PortGrows.mem {p q : Port} (h : PortGrows p q) {r : Report} (hr : r ∈ p.reports) : r ∈ q.reports := by
  obtain ⟨more, hm⟩ := h.reports
  rw [hm]
  exact List.mem_append_left _ hr

/-- R191: the reserve is open while fewer than 20 reports stand. -/
theorem State.reserveOpen_iff (s : State) : s.reserveOpen = true ↔ s.port.reports.length < 20 := by
  unfold State.reserveOpen State.freeReports Config.reserveFree Config.reportMax
  rw [decide_eq_true_iff]
  omega

/-- A status report joins where the reserve is open (R191). -/
theorem State.report_open {s : State} {r : Report} (hr : r.removable = true) (h : s.port.reports.length < 20) :
    (s.report r).port = { s.port with reports := s.port.reports ++ [r] } := by
  rw [State.report, if_pos hr, if_pos (s.reserveOpen_iff.mpr h)]
  rfl

/-- Any report joins while fewer than 20 stand; an audit report or a SALE_ASK while there is room (R191). -/
theorem State.report_joins {s : State} {r : Report} (hr : r.removable = false) (h : s.port.reports.length < 32) :
    (s.report r).port = { s.port with reports := s.port.reports ++ [r] } := by
  rw [State.report, if_neg (by simp [hr]), State.mustJoin, if_pos (show _ < Config.reportMax from h)]
  rfl

theorem State.report_calm (s : State) (r : Report) (hr : r.removable = true) : PortCalm s.port (s.report r).port := by
  refine ⟨s.report_grows r hr, ?_⟩
  by_cases h : s.port.reports.length < 20
  · rw [State.report_open hr h]
    simp
    omega
  · rw [State.report, if_pos hr, if_neg (fun hc => h (s.reserveOpen_iff.mp hc))]
    exact le_max_left _ _

theorem State.hand_calm (s : State) (st : StationId) (r : LineRequest) : PortCalm s.port (s.hand st r).port := by
  have hs : (s.dropStaleAsk st r).port = s.port := by
    unfold State.dropStaleAsk
    split <;> rfl
  unfold State.hand State.handFrame
  split
  · dsimp only
    split
    · rw [State.setQueue_port, hs]
      exact .refl _
    · unfold State.joinQueue
      split
      · rw [State.setQueue_port, hs]
        exact .refl _
      · split
        · rename_i old q _
          have h := fun r' => State.report_calm
            ((s.dropStaleAsk st r).setQueue (q ++ [{ station := st, request := r }])) r'
          rw [State.setQueue_port, hs] at h
          exact h _ rfl
        · have h := State.report_calm (s.dropStaleAsk st r)
          rw [hs] at h
          exact h _ rfl
  · exact .refl _

theorem State.show_calm (s : State) (c : ShowCode) (n : Nat) : PortCalm s.port (s.show c n).port :=
  State.hand_calm (s.setSale { s.sale with lastShow := (c, n) }) panel (showRequest (c, n))

end Sys2Proof.Machine
end

section
/-! SUPPORT. Inner steps one after another, and the steps that the claims of the cash unit share: a unit asked and given
back with no request waiting, money that fits, an operation's end, a stacking that failed. -/

namespace Sys2Proof.Laws
open Sys2Proof Sys2Proof.Machine

/-! ### Running inner steps (log 11) -/

/-- In `k` inner steps the jobs of `o` come to those of `o'`. -/
def Runs (k : Nat) (o o' : Out) : Prop := ∀ n, runJobs (n + k) o.2 o.1 = runJobs n o'.2 o'.1

theorem Runs.trans {a b : Nat} {o p q : Out} (h : Runs a o p) (k : Runs b p q) : Runs (a + b) o q := fun n => by
  rw [← k n, ← h (n + b), Nat.add_assoc, Nat.add_comm b a]

theorem Runs.runOut {k : Nat} {o : Out} {w : State} (h : Runs k o (w, [])) (hk : k ≤ 8192) : runOut o = w := by
  obtain ⟨n, hn⟩ := Nat.exists_eq_add_of_le' hk
  have hb : Config.innerSteps = n + k := hn
  rw [Machine.runOut, hb, h n, runJobs_nil]

/-- An inner step that is no load operation. -/
theorem Runs.step {j : Job} {s s' : State} {js js' : List Job} (he : runOne j s = (s', js'))
    (hj : ∀ op, j ≠ .load op := by nofun) : Runs 1 (s, j :: js) (s', js' ++ js) := fun n => by
  rw [runJobs_cons, runJob_plain j js s hj, he]

/-- An inner step that hands nothing on. -/
theorem Runs.quiet {j : Job} {s s' : State} {js : List Job} (he : runOne j s = (s', []))
    (hj : ∀ op, j ≠ .load op := by nofun) : Runs 1 (s, j :: js) (s', js) := Runs.step he hj

theorem handDone_runs (s : State) (js : List Job) : Runs 1 (s, .handDone [] :: js) (s, js) := Runs.quiet rfl

/-! ### The load arbiter with no request waiting -/

/-- Without a request a pass grants nothing and leaves the record (R119). -/
theorem pass_noRequests {l : Load} (h : l.requests = []) : l.passMakes = [] ∧ l.pass = l := by
  obtain ⟨b, gs, rs⟩ := l
  obtain rfl : rs = [] := h
  exact ⟨rfl, by simp [Load.pass, Load.passMakes, Load.ranked, passGrants]⟩

/-- R121: a unit given back with no request waiting. -/
theorem release_runs {s : State} {who : Requester} {js : List Job} (hq : s.load.requests = [])
    (hd : deferTo (.release who) js = none) :
    Runs 1 (s, .load (.release who) :: js)
      (s.setLoad { s.load with grants := s.load.grants.filter fun g => !decide (g.holder = who) }, js) := by
  intro n
  obtain ⟨hmakes, hpass⟩ := pass_noRequests (l := s.load.released who) hq
  rw [runJobs_cons, runJob_load _ _ _ hd]
  by_cases hg : (s.load.grants.any fun g => decide (g.holder = who)) = true
  · simp only [loadStep, if_pos hg, State.makePass, State.setLoad_load, hmakes, hpass, State.setLoad_twice]
    rfl
  · have hsame : s.load.grants.filter (fun g => !decide (g.holder = who)) = s.load.grants := by
      refine List.filter_eq_self.mpr fun g hm => ?_
      simp only [List.any_eq_true, not_exists, not_and] at hg
      simpa using hg g hm
    simp only [loadStep, if_neg hg, hsame]
    rfl

/-- R117, R119, R120: a unit asked for with no request waiting, held by none of the requester's grants, and free. -/
theorem ask_runs {s : State} {who : Requester} {js : List Job} (hq : s.load.requests = [])
    (hg : ∀ g ∈ s.load.grants, g.holder ≠ who) (hf : who.units ≤ s.load.free) (hd : deferTo (.ask who) js = none) :
    Runs 1 (s, .load (.ask who) :: js)
      (s.setLoad { s.load with grants := s.load.grants ++ [{ holder := who, units := who.units }] },
        .give who who.units :: .handDone [] :: js) := by
  intro n
  have hlisted : s.load.listed who = false := by
    simp only [Load.listed, hq, List.any_nil, Bool.or_false]
    simpa using hg
  have hcount : countedUnits s.load.budget who.units = who.units :=
    Nat.min_eq_left (hf.trans (Nat.sub_le _ _))
  have hmakes : (s.load.asked who s.now).passMakes = [{ holder := who, units := who.units }] := by
    have hfit : who.units ≤ s.load.budget - s.load.granted := hf
    cases hc : who.cooling <;>
      simp [Load.passMakes, Load.ranked, Load.asked, hq, hc, passGrants, hcount, Load.granted] <;> exact hfit
  have hpass : (s.load.asked who s.now).pass =
      { s.load with grants := s.load.grants ++ [{ holder := who, units := who.units }] } := by
    rw [Load.pass, hmakes]
    simp [Load.asked, hq]
  rw [runJobs_cons, runJob_load _ _ _ hd]
  simp only [loadStep, hlisted, State.makePass, State.setLoad_load, hmakes, hpass, State.setLoad_twice]
  rfl

/-! ### Money that fits (R23 to R27) -/

theorem limitReport_zero (s : State) : s.limitReport 0 = s := rfl

theorem addPending_zero {l : Ledger} (h : l.pending ≤ 65535) : l.addPending 0 = l := by
  simp [Ledger.addPending, Ledger.excess, Config.pendingMax, h]

theorem deposit_fits {s : State} {v : Nat} (h : s.ledger.credit + v ≤ 9999) (hp : s.ledger.pending ≤ 65535) :
    s.deposit v = s.setLedger { s.ledger with credit := s.ledger.credit + v
                                              cashIn := s.ledger.cashIn + BitVec.ofNat 32 v } := by
  have hover : s.ledger.over v = 0 := by simp [Ledger.over, Config.moneyMax]; omega
  have hexcess : s.ledger.excess 0 = 0 := by simp [Ledger.excess, Config.pendingMax]; omega
  rw [State.deposit, hover, hexcess, limitReport_zero, Ledger.deposit, hover, addPending_zero (by exact hp)]
  rw [show min Config.moneyMax (s.ledger.credit + v) = s.ledger.credit + v from Nat.min_eq_right h]

theorem returnHold_fits {s : State} (h : s.ledger.credit + s.ledger.hold ≤ 9999) (hp : s.ledger.pending ≤ 65535) :
    s.returnHold = s.setLedger (heldBack s.ledger) := by
  have hover : s.ledger.over s.ledger.hold = 0 := by simp [Ledger.over, Config.moneyMax]; omega
  have hexcess : s.ledger.excess 0 = 0 := by simp [Ledger.excess, Config.pendingMax]; omega
  rw [State.returnHold, hover, hexcess, limitReport_zero, Ledger.returnHold, hover, addPending_zero (by exact hp)]
  rw [show min Config.moneyMax (s.ledger.credit + s.ledger.hold) = s.ledger.credit + s.ledger.hold from
    Nat.min_eq_right h]
  rfl

theorem releaseAll_fits {s : State} (h : s.ledger.pending + s.ledger.credit ≤ 65535) :
    s.releaseAll = s.setLedger { s.ledger with credit := 0, pending := s.ledger.pending + s.ledger.credit } := by
  have hexcess : s.ledger.excess s.ledger.credit = 0 := Nat.sub_eq_zero_of_le h
  have hzero : Ledger.excess { s.ledger with credit := 0 } s.ledger.credit = 0 := hexcess
  rw [State.releaseAll, hexcess, limitReport_zero, Ledger.releaseAll, Ledger.addPending, hzero]
  rw [show min Config.pendingMax (s.ledger.pending + s.ledger.credit) = s.ledger.pending + s.ledger.credit from
    Nat.min_eq_right h, BitVec.add_zero]

/-! ### What an IDLE payout unit and a cleared flag leave alone -/

theorem payTell_runs {s : State} {js : List Job} (h : s.payout.phase = .idle → s.ledger.pending = 0) :
    Runs 1 (s, .payTell :: js) (s, js) := by
  refine Runs.quiet ?_
  show payTell s = (s, [])
  rw [payTell, if_neg]
  · rfl
  · rintro ⟨hi, hp⟩
    rw [h (by simpa [State.payIdle] using hi)] at hp
    exact absurd hp (lt_irrefl 0)

theorem returnTest_runs {s : State} {js : List Job} (h : s.sale.pendingReturn = false) :
    Runs 1 (s, .returnTest :: js) (s, js) := by
  refine Runs.quiet ?_
  show returnTest s = (s, [])
  rw [returnTest, if_neg (by simp [h])]
  rfl

/-- R51: the end of an operation with nothing pending and no return waiting. -/
theorem payEnd_runs {s : State} {js : List Job} (hp : s.ledger.pending = 0) (hr : s.sale.pendingReturn = false) :
    Runs 2 (s, .payEnd :: js)
      ((s.payoutDone .ending s.payout.manual s.payout.paid s.payout.owed s.payout.entries).setPayout Payout.powerOn,
        js) := by
  have h1 : runOne .payEnd s =
      ((s.payoutDone .ending s.payout.manual s.payout.paid s.payout.owed s.payout.entries).setPayout Payout.powerOn,
        [.returnTest]) := by
    simp [runOne, payEnd, State.payoutDone, hp]
  exact (Runs.step h1).trans (returnTest_runs (by simp [State.payoutDone, hr]))

/-! ### A stacking that failed (R97, R108) -/

/-- The sale with its outcome set (R108). -/
def settledSale (x : Sale) (o : SaleOutcome) : Sale :=
  { x with stage := .settling, outcome := some o, loadLimit := none, approvalLimit := none }

/-- R108: the state after a CASH sale ended BILL_FAIL, its hold back in credit. -/
def billFailed (s : State) (x : Sale) : State :=
  let s1 := (s.setCurrentSale (some (settledSale x .billFail))).setLedger (heldBack s.ledger)
  let s2 := s1.saleReport (settledSale x .billFail) .billFail 0
  (s2.show .notVended s2.funds).setCurrentSale none

theorem saleEnd_billFail {s : State} {x : Sale} (hx : s.sale.current = some x) (hsrc : x.source = .cash) :
    saleEnd .billFail s =
      ((s.setCurrentSale (some (settledSale x .billFail))).returnHold, [.payTell, .saleFinish 0]) := by
  unfold saleEnd settledSale
  rw [hx]
  dsimp only
  rw [hsrc]

theorem stackFailed_runs {s : State} {x : Sale} {js : List Job} (hx : s.sale.current = some x)
    (hst : x.stage = .stacking) (hsrc : x.source = .cash) (ha : SettlesAlone s) :
    Runs 5 (s, .stackOutcome false :: js) (billFailed s x, js) := by
  obtain ⟨hfit, hpend, hidle, hret⟩ := ha
  let s1 := s.setCurrentSale (some (settledSale x .billFail))
  have h1 : runOne (.stackOutcome false) s = (s, [.saleEnd .billFail]) := by simp [runOne, stackOutcome, hx, hst]
  have h2 : runOne (.saleEnd .billFail) s = (s1.setLedger (heldBack s.ledger), [.payTell, .saleFinish 0]) := by
    have hr : s1.returnHold = s1.setLedger (heldBack s.ledger) := returnHold_fits (s := s1) hfit hpend
    exact (saleEnd_billFail hx hsrc).trans (congrArg (·, [Job.payTell, Job.saleFinish 0]) hr)
  have h4 : runOne (.saleFinish 0) (s1.setLedger (heldBack s.ledger)) = (billFailed s x, [.returnTest]) := rfl
  have hret' : (billFailed s x).sale.pendingReturn = false := by
    simp [billFailed, State.setCurrentSale, State.saleReport, hret]
  exact ((((Runs.step h1).trans (Runs.step h2)).trans (payTell_runs (s := s1.setLedger _) hidle)).trans
    (Runs.step h4)).trans (returnTest_runs hret')

theorem billFailed_aside (s : State) (x : Sale) :
    PortAside ((s.setLedger (heldBack s.ledger)).setCurrentSale none) (billFailed s x) := by
  let s1 := (s.setCurrentSale (some (settledSale x .billFail))).setLedger (heldBack s.ledger)
  let s2 := s1.saleReport (settledSale x .billFail) .billFail 0
  have h : PortAside s1 (s2.show .notVended s2.funds) :=
    (PortAside.report s1 _).trans (LinksOnly.show s2 _ _).aside
  exact LinksOnly.setCurrentSale h none

/-- R109, R191: a SALE report joins where there is room. -/
theorem saleReport_joins {s : State} (x : Sale) (o : SaleOutcome) (n : Nat) (h : s.port.reports.length < 32) :
    ∃ q : SaleReport, (s.saleReport x o n).port = { s.port with reports := s.port.reports ++ [.sale q] } ∧
      q.number = x.number ∧ q.outcome = o :=
  ⟨_, State.report_joins rfl h, rfl, rfl⟩

/-- The SALE report of the failed sale joins the queue where there is room. -/
theorem billFailed_reports {s : State} (x : Sale) (h : s.port.reports.length < 32) :
    (∀ r ∈ s.port.reports, r ∈ (billFailed s x).port.reports) ∧
      ∃ q : SaleReport, .sale q ∈ (billFailed s x).port.reports ∧ q.number = x.number ∧ q.outcome = .billFail := by
  let s1 := (s.setCurrentSale (some (settledSale x .billFail))).setLedger (heldBack s.ledger)
  let s2 := s1.saleReport (settledSale x .billFail) .billFail 0
  obtain ⟨q, hq, hn, ho⟩ := saleReport_joins (s := s1) (settledSale x .billFail) .billFail 0 h
  have hgrow : PortGrows s2.port (billFailed s x).port := s2.show_grows .notVended s2.funds
  have hmem : ∀ r ∈ s1.port.reports ++ [.sale q], r ∈ (billFailed s x).port.reports := fun r hr =>
    hgrow.mem (show r ∈ s2.port.reports by rw [show s2.port = _ from hq]; exact hr)
  exact ⟨fun r hr => hmem r (List.mem_append_left _ hr), q, hmem _ (List.mem_append_right _ List.mem_cons_self), hn,
    ho⟩

/-! ### A command that is one event, its own effect known -/

/-- What a command answers whose own effect runs to `w`: the frame around any state that is `w` but for the port. -/
theorem finish_aside {before u w : State} {o : Out} (hw : runOut o = w) (h : PortAside u w) :
    ∃ t, finish before o = .next t ∧ LinksOnly (u.setPort w.port) t ∧ LinksOnly w t := by
  obtain ⟨t, ht, l⟩ := finish_links before o
  rw [hw] at l
  exact ⟨t, ht, LinksOnly.trans h l, l⟩

end Sys2Proof.Laws
end

section
/-! SUPPORT. The stacking limit and the PAY limit (R18, R49). -/

namespace Sys2Proof.Laws
open Sys2Proof Sys2Proof.Machine

/-! ### The stacking limit in STACKING (R18, R97, R108) -/

/-- R18, R108: the unit given back, escrow EMPTY, the hold back in credit and the sale over. -/
def stackingOver (a : State) : State :=
  ((((a.setLoad { a.load with grants := a.load.grants.filter fun g => !decide (g.holder = .stacking) }).setEscrow
    .empty).setLedger (heldBack a.ledger)).setCurrentSale none)

theorem stackingExpires {a : State} {x : Sale} {b : BillId} {v limit : Nat} (he : a.cash.escrow = .stacking b v limit)
    (hx : a.sale.current = some x) (hst : x.stage = .stacking) (hsrc : x.source = .cash) (hs : SettlesAlone a)
    (hq : a.load.requests = []) (hlen : a.port.reports.length < 20) :
    ∃ w, runOut (a, [.load (.release .stacking), .stackUncertain]) = w ∧ PortAside (stackingOver a) w ∧
      .billIn [{ bill := b, state := .uncertain, count := 1, amount := v }] ∈ w.port.reports ∧
      ∃ q : SaleReport, .sale q ∈ w.port.reports ∧ q.number = x.number ∧ q.outcome = .billFail := by
  let a1 := a.setLoad { a.load with grants := a.load.grants.filter fun g => !decide (g.holder = .stacking) }
  let a2 := (a1.setEscrow .empty).billIn b .uncertain v
  have hjoin : a2.port = _ := State.report_joins (s := a1.setEscrow .empty) rfl (by
    show a.port.reports.length < 32
    omega)
  have hunc : runOne .stackUncertain a1 = (a2, [.stackOutcome false]) := by
    show stackUncertain a1 = _
    simp only [stackUncertain, a1, State.setLoad_cash, he]
    rfl
  have hs2 : SettlesAlone a2 := by simpa [a2, a1, SettlesAlone] using hs
  have hruns := ((release_runs (js := [.stackUncertain]) hq rfl).trans (Runs.step hunc)).trans
    (stackFailed_runs (s := a2) (by simpa [a2, a1] using hx) hst hsrc hs2)
  have haside : PortAside (stackingOver a) (billFailed a2 x) := by
    have h1 : PortAside (a1.setEscrow .empty) a2 := .report _ _
    have h2 : PortAside (stackingOver a) ((a2.setLedger (heldBack a.ledger)).setCurrentSale none) :=
      (LinksOnly.setLedger h1 _).setCurrentSale none
    have hl : a2.ledger = a.ledger := by simp [a2, a1]
    exact h2.trans (hl ▸ billFailed_aside a2 x)
  obtain ⟨hkeep, hsale⟩ := billFailed_reports (s := a2) x (by
    rw [hjoin]
    show (a.port.reports ++ [_]).length < 32
    simp
    omega)
  refine ⟨_, hruns.runOut (by decide), haside, hkeep _ ?_, hsale⟩
  rw [hjoin]
  exact List.mem_append_right _ List.mem_cons_self

/-! ### The PAY limit (R49, R50, R51) -/

/-- R49, R50, R51: the unit given back, the whole pending payout owed, and the payout unit IDLE. -/
def payOwed (u : State) : State :=
  ((u.setLoad { u.load with grants := u.load.grants.filter fun g => !decide (g.holder = .payout) }).setLedger
    { u.ledger with pending := 0, changeOwed := u.ledger.changeOwed + BitVec.ofNat 32 u.ledger.pending }).setPayout
      Payout.powerOn

theorem LinksOnly.payOwed {u v : State} (l : LinksOnly u v) : LinksOnly (payOwed u) (payOwed v) := by
  unfold Laws.payOwed
  rw [l.load, l.ledger]
  exact ((l.setLoad _).setLedger _).setPayout _

/-- The command ended, the unit given back and the whole owed, before the operation's report. -/
def payOwing (u : State) (n : TubeId) (e : PayEnding) : State :=
  ((u.setLoad { u.load with grants := u.load.grants.filter fun g => !decide (g.holder = .payout) }).setLedger
    { u.ledger with pending := 0, changeOwed := u.ledger.changeOwed + BitVec.ofNat 32 u.ledger.pending }).setPayout
      { u.payout with phase := .plan, inFlight := none, limit := none, payJoined := false, remaining := []
                      owed := u.payout.owed + u.ledger.pending, entries := endEntry u.payout.entries n 0 e }

theorem payOwing_runs {u : State} {n : TubeId} {e : PayEnding} (hm : u.payout.manual = false)
    (hq : u.load.requests = []) (hr : u.sale.pendingReturn = false) :
    Runs 4 (u.commandEnded n 0 0 e, [.load (.release .payout), .payOweEnd])
      (((payOwing u n e).payoutDone .ending u.payout.manual u.payout.paid (u.payout.owed + u.ledger.pending)
        (endEntry u.payout.entries n 0 e)).setPayout Payout.powerOn, []) := by
  have hrel := release_runs (s := u.commandEnded n 0 0 e) (who := .payout) (js := [.payOweEnd]) hq rfl
  have howe : runOne .payOweEnd ((u.commandEnded n 0 0 e).setLoad
      { u.load with grants := u.load.grants.filter fun g => !decide (g.holder = .payout) }) =
      (payOwing u n e, [.payEnd]) := by
    have hw : State.oweWhole = fun s => (s.setLedger (s.ledger.owe s.ledger.pending)).setPayout
      { s.payout with owed := s.payout.owed + s.ledger.pending } := rfl
    simp [runOne, payOweEnd, State.commandEnded, hm, hw, payOwing, Ledger.owe, State.setLedger, State.setPayout,
      State.setLoad]
  exact (hrel.trans (Runs.step howe)).trans (payEnd_runs (s := payOwing u n e) rfl hr)

/-- R49, R12: no PAY left unsent, and the tube in doubt. -/
def payDoubted (a : State) (n : TubeId) : State :=
  let tubes := a.cash.tubes.set n (a.cash.tubes[n]).doubted
  (a.removeFrames coinMech [.pay]).setCash { a.cash with tubes := tubes, routing := routesFor tubes }

/-- R12, R5: a tube result is the tube's new record and R5's routing. -/
theorem tubeResult_links (s : State) (n : TubeId) (f : Tube → Tube) :
    LinksOnly (s.setCash { s.cash with tubes := s.cash.tubes.set n (f s.cash.tubes[n])
                                       routing := routesFor (s.cash.tubes.set n (f s.cash.tubes[n])) })
      (s.tubeResult n f) :=
  reroute_links (s.setTube n (f s.cash.tubes[n]))

theorem reroute_calm (s : State) : PortCalm s.port s.reroute.port := by
  fun_cases State.reroute s with
  | case1 => exact .refl _
  | case2 r => exact State.hand_calm (s.setCash { s.cash with routing := r }) coinMech (steerRequest r)

theorem tubeResult_calm (s : State) (n : TubeId) (f : Tube → Tube) : PortCalm s.port (s.tubeResult n f).port :=
  reroute_calm (s.setTube n (f s.cash.tubes[n]))

@[simp] theorem reroute_ledger (s : State) : s.reroute.ledger = s.ledger := (reroute_links s).ledger
@[simp] theorem reroute_payout (s : State) : s.reroute.payout = s.payout := (reroute_links s).payout
@[simp] theorem reroute_load (s : State) : s.reroute.load = s.load := (reroute_links s).load
@[simp] theorem reroute_pendingReturn (s : State) : s.reroute.sale.pendingReturn = s.sale.pendingReturn :=
  (reroute_links s).pendingReturn

/-- R174: removing station 1's PAY keeps every other frame. -/
theorem removeFrames_pay (s : State) : (s.removeFrames coinMech [.pay]).line =
    { s.line with queue := s.line.queue.filter fun e =>
        !(decide (e.station = coinMech) && decide (e.request.kind = .pay)) } := by
  simp [State.removeFrames, State.setQueue, State.setLine]

theorem payAbandons {a : State} {cmd : PayCmd} (hm : a.payout.manual = false) (hq : a.load.requests = [])
    (hr : a.sale.pendingReturn = false) (hlen : a.port.reports.length < 20) :
    ∃ w, runOut (payLimitEnds cmd a) = w ∧ PortAside (payOwed (payDoubted a cmd.tube)) w ∧
      ∃ r : PayoutDone, .payoutDone r ∈ w.port.reports ∧ r.occasion = .ending ∧
        r.owed = a.payout.owed + a.ledger.pending ∧ r.paid = a.payout.paid := by
  have l1 : LinksOnly (payDoubted a cmd.tube) ((a.removeFrames coinMech [.pay]).tubeResult cmd.tube Tube.doubted) :=
    tubeResult_links (a.removeFrames coinMech [.pay]) cmd.tube Tube.doubted
  have hcalm := tubeResult_calm (a.removeFrames coinMech [.pay]) cmd.tube Tube.doubted
  unfold payLimitEnds
  generalize (a.removeFrames coinMech [.pay]).tubeResult cmd.tube Tube.doubted = u at l1 hcalm
  have hpayout : u.payout = a.payout := l1.payout
  have hledger : u.ledger = a.ledger := l1.ledger
  have hload : u.load = a.load := l1.load
  have hshort : (payOwing u cmd.tube .noPaid).port.reports.length < 32 := by
    have h : u.port.reports.length ≤ max a.port.reports.length 20 := hcalm.short
    show u.port.reports.length < 32
    omega
  have hruns := payOwing_runs (u := u) (n := cmd.tube) (e := .noPaid) (hpayout ▸ hm) (hload ▸ hq)
    (l1.pendingReturn.trans hr)
  refine ⟨_, hruns.runOut (by decide), ?_, ?_⟩
  · exact (LinksOnly.payOwed l1).aside.trans
      (LinksOnly.setPayout (PortAside.report (payOwing u cmd.tube .noPaid) _) Payout.powerOn)
  · refine ⟨{ occasion := .ending, manual := u.payout.manual, paid := u.payout.paid
              owed := u.payout.owed + u.ledger.pending, entries := endEntry u.payout.entries cmd.tube 0 .noPaid },
      ?_, rfl, ?_, ?_⟩
    · show _ ∈ ((payOwing u cmd.tube .noPaid).payoutDone _ _ _ _ _).port.reports
      rw [State.payoutDone, State.report_joins rfl hshort]
      exact List.mem_append_right _ List.mem_cons_self
    · rw [hpayout, hledger]
    · rw [hpayout]

/-- Settles O51: each limit is one run of inner steps from the moment of its expiry. -/
theorem stackingAndPayLimits : Obligations.StackingAndPayLimits := by
  unfold Obligations.StackingAndPayLimits
  constructor
  · intro s x b v limit he hx hst hsrc hs hq hlen
    have hs' : SettlesAlone (s.advanceTo limit) := by simpa [SettlesAlone] using hs
    obtain ⟨w, hw, hu, hbill, q, hsale⟩ := stackingExpires (a := s.advanceTo limit) (x := x) (by simpa using he)
      (by simpa using hx) hst hsrc hs' (by simpa using hq) (by simpa using hlen)
    obtain ⟨t, ht, l, lw⟩ := finish_aside (before := s) hw hu
    refine ⟨t, w.port, ?_, ?_, lw.mem_outLine hbill, q, lw.mem_outLine hsale.1, hsale.2⟩
    · show execStackingLimitExpiry s = _
      rw [execStackingLimitExpiry, he]
      exact ht
    · rw [← s.advanceTo_cash limit, ← s.advanceTo_ledger limit, ← s.advanceTo_load limit, ← s.advanceTo_sale limit]
      exact l
  · intro s cmd limit hl hc hm hq hr hlen
    obtain ⟨w, hw, hu, r, hmem, hocc, howed, hpaid⟩ := payAbandons (a := s.advanceTo limit) (cmd := cmd)
      (by simpa using hm) (by simpa using hq) (by simpa using hr) (by simpa using hlen)
    obtain ⟨t, ht, l, lw⟩ := finish_aside (before := s) hw hu
    have hexec : exec .payLimitExpiry s = .next t := by
      show execPayLimitExpiry s = _
      rw [execPayLimitExpiry, hl, hc]
      exact ht
    refine ⟨t, w.port, hexec, ?_, ?_, ?_, r, lw.mem_outLine hmem, hocc, ?_, ?_⟩
    · rw [← s.advanceTo_cash limit, ← s.advanceTo_ledger limit, ← s.advanceTo_load limit,
        ← s.advanceTo_line limit, ← removeFrames_pay]
      generalize s.advanceTo limit = a at l ⊢
      exact l
    · refine l.queue_not (fun e he hp => ?_) (fun e hp => by rw [hp.2]; rfl)
      have hkept : e ∈ ((s.advanceTo limit).removeFrames coinMech [.pay]).line.queue := he
      rw [removeFrames_pay] at hkept
      simpa [hp.1, hp.2] using (List.mem_filter.mp hkept).2
    · intro q ho
      have ho' : ((s.advanceTo limit).line.stations[coinMech]).outstanding = some q := by rw [s.advanceTo_line]; exact ho
      rcases l.outstanding coinMech with h | ⟨h, -⟩
      · exact h.trans ho'
      · exact absurd (h.symm.trans ho') (by simp)
    · simpa using howed
    · simpa using hpaid

end Sys2Proof.Laws
end

section
/-! SUPPORT. A REPLY with no item or with one item, taken whole (R168, R169). -/

namespace Sys2Proof.Laws
open Sys2Proof Sys2Proof.Machine

/-- R168: with no RESTART waiting the exchange's end leaves the line IDLE, and nothing else. -/
theorem endExchange_quiet {s : State} (h : s.line.restartDue = false) : endExchange s = (s.lineIdle, []) := by
  have hl : ({ s.line with phase := .idle, restartDue := false } : Line) = { s.line with phase := .idle } := by
    rw [← h]
  rw [endExchange, if_neg (by simp [h]), hl]
  rfl

theorem endExchange_runs {s : State} (h : s.line.restartDue = false) : runOut (endExchange s) = s.lineIdle := by
  rw [endExchange_quiet h]
  exact runJobs_nil _ _

/-- R169, steps 1 to 3: the station answered. -/
def answeredBy (s : State) (st : StationId) : State := s.setStation st (s.line.stations[st]).answered

theorem report_length (s : State) (r : Report) (hr : r.removable = true) :
    (s.report r).port.reports.length ≤ s.port.reports.length + 1 := by
  by_cases h : s.port.reports.length < 20
  · rw [State.report_open hr h]
    simp
  · rw [State.report, if_pos hr, if_neg (fun hc => h (s.reserveOpen_iff.mp hc))]
    exact Nat.le_succ _

/-- A port that has grown by at most one status report. -/
def PortNext (p q : Port) : Prop := PortCalm p q ∧ q.reports.length ≤ p.reports.length + 1

theorem report_next (s : State) (r : Report) (hr : r.removable = true) : PortNext s.port (s.report r).port :=
  ⟨s.report_calm r hr, report_length s r hr⟩

theorem mirror_next (s : State) (x : Exchange) (payload : List Byte) :
    PortOnly s (s.mirror x payload) ∧ PortNext s.port (s.mirror x payload).port := by
  fun_cases State.mirror s x payload
  · exact ⟨State.report_eq _ _, report_next _ _ rfl⟩
  · exact ⟨State.report_eq _ _, report_next _ _ rfl⟩
  · exact ⟨rfl, .refl _, Nat.le_succ _⟩

/-- R169, steps 1 to 4, where the walk met no unknown item: the station answered, and perhaps a MIRROR. -/
theorem replyTaken_eq (s : State) (x : Exchange) (payload : List Byte) :
    ∃ q, s.replyTaken x payload false = (answeredBy s x.station).setPort q ∧ PortNext s.port q :=
  ⟨_, (mirror_next (answeredBy s x.station) x payload).1, (mirror_next (answeredBy s x.station) x payload).2⟩

theorem replyTaken_links {s : State} {st : StationId} {q : Port} (h : PortNext s.port q) :
    LinksOnly (answeredBy s st) ((answeredBy s st).setPort q) := .ofPort _ _ h.1.toPortGrows

/-- R168, R169: a REPLY with one item is the item's own effect `w` with the exchange at its end. -/
theorem reply_oneItem {s : State} {x : Exchange} {bytes payload : List Byte} {i : Item}
    (hp : s.line.phase = .exchange x) (hk : x.request.kind ≠ .join) (hj : judgeReply x bytes = .reply payload [i] false) :
    ∃ q, PortNext s.port q ∧ ∀ u w : State, runOut (itemOut x.station i ((answeredBy s x.station).setPort q)) = w →
      LinksOnly u w → u.line.phase = .exchange x → u.line.restartDue = false →
      ∃ t, exec (.replyReceived bytes) s = .next t ∧ LinksOnly u.lineIdle t ∧ LinksOnly w.lineIdle t := by
  obtain ⟨q, hq, hcalm⟩ := replyTaken_eq s x payload
  refine ⟨q, hcalm, fun u w hw hu hup hur => ?_⟩
  let v := w.eventEnd ((answeredBy s x.station).setPort q)
  have hv : event ((answeredBy s x.station).setPort q)
      (itemOut x.station i ((answeredBy s x.station).setPort q)) = v := by rw [event, hw]
  have hupne : u.line.phase ≠ .idle := by rw [hup]; nofun
  have hwp : w.line.phase ≠ .idle := by rw [(hu.busy hupne).1]; exact hupne
  have hwv : LinksOnly w v := .eventEnd _ _
  have hvr : v.line.restartDue = false := (hwv.restartDue.trans hu.restartDue).trans hur
  have hexec : exec (.replyReceived bytes) s = .next (v.lineIdle.eventEnd v).stepEnd := by
    show execReplyReceived bytes s = _
    rw [execReplyReceived, hp]
    dsimp only
    rw [hj, exchangeEnds, takeReply, if_neg hk, hq, takeItems, takeItems, hv, event, endExchange_runs hvr]
  have hwt : LinksOnly w.lineIdle (v.lineIdle.eventEnd v).stepEnd := (hwv.lineIdle hwp).trans (.ends _ _)
  exact ⟨_, hexec, (hu.lineIdle hupne).trans hwt, hwt⟩

/-- The same, where the item is the business of the block that owns it. -/
theorem reply_takes {s : State} {x : Exchange} {bytes payload : List Byte} {i : Item} {body : State → Out}
    (hp : s.line.phase = .exchange x) (hk : x.request.kind ≠ .join) (hj : judgeReply x bytes = .reply payload [i] false)
    (hi : ∀ a, itemOut x.station i a = body a) :
    ∃ q, PortNext s.port q ∧ ∀ u w : State, runOut (body ((answeredBy s x.station).setPort q)) = w →
      LinksOnly u w → u.line.phase = .exchange x → u.line.restartDue = false →
      ∃ t, exec (.replyReceived bytes) s = .next t ∧ LinksOnly u.lineIdle t ∧ LinksOnly w.lineIdle t := by
  obtain ⟨q, hq, h⟩ := reply_oneItem hp hk hj
  exact ⟨q, hq, fun u w hw => h u w ((congrArg runOut (hi _)).trans hw)⟩

end Sys2Proof.Laws
end

section
/-! SUPPORT. The full PAID of an operation's last command (R46, R51). -/

namespace Sys2Proof.Laws
open Sys2Proof Sys2Proof.Machine

/-- The station answered has no request outstanding (R169). -/
theorem answeredBy_station (s : State) (st : StationId) :
    (answeredBy s st).line.stations[st] = (s.line.stations[st]).answered := by
  simp [answeredBy, State.setStation]

/-- R46: a station answered, with no PAY waiting in the queue, has answered the PAY. -/
theorem payAnswered_answeredBy {s : State} {q : Port} (hj : s.payout.payJoined = true)
    (hq : ∀ e ∈ s.line.queue, e.station = coinMech → e.request.kind ≠ .pay) :
    payAnswered ((answeredBy s coinMech).setPort q) = true := by
  have hout : ((answeredBy s coinMech).line.stations[coinMech]).outstanding = none := by
    rw [answeredBy_station]
    rfl
  have hany : (s.line.queue.any fun e => decide (e.station = coinMech) && decide (e.request.kind = .pay)) = false := by
    rw [List.any_eq_false]
    intro e he
    simpa using hq e he
  show (s.payout.payJoined && !(s.line.queue.any fun e => _) &&
    match ((answeredBy s coinMech).line.stations[coinMech]).outstanding with
      | none => true
      | some r => decide (r.kind ≠ .pay)) = true
  rw [hout, hj, hany]
  rfl

/-- R46: the coins asked for are the coins paid: booked, counted, and the command over. -/
theorem paidItem_ends {a : State} {cmd : PayCmd} {tube : Fin 64} (ht : tube.val = cmd.tube.val)
    (hp : a.payout.phase = .paying) (hc : a.payout.inFlight = some cmd) (hans : payAnswered a = true)
    (hm : a.payout.manual = false) :
    paidItem tube cmd.coins a =
      (((a.setLedger (a.ledger.payBooked (cmd.coins * cmd.value))).tubeResult cmd.tube fun t =>
        t.paidFull cmd.coins).commandEnded cmd.tube cmd.coins (cmd.coins * cmd.value) .full,
        [.load (.release .payout), .payNext]) := by
  have hlt : tube.val < 6 := ht ▸ cmd.tube.isLt
  have hn : (⟨tube.val, hlt⟩ : TubeId) = cmd.tube := Fin.ext ht
  have hends : endsCommand a cmd.tube = some cmd := by
    unfold endsCommand
    rw [hp, hc]
    simp [hans]
  rw [paidItem, dif_pos hlt]
  dsimp only
  rw [hn, hends]
  dsimp only
  rw [if_pos (le_refl _), paidFull]
  simp only [State.bookPaid, State.overpaidReport, hm, lt_irrefl, if_false, Bool.false_eq_true]

/-- The command ended and the unit given back, before the operation's report. -/
def payPaid (u : State) (n : TubeId) (k v : Nat) : State :=
  (u.setLoad { u.load with grants := u.load.grants.filter fun g => !decide (g.holder = .payout) }).setPayout
    { u.payout with phase := .plan, inFlight := none, limit := none, payJoined := false
                    paid := u.payout.paid + v, entries := endEntry u.payout.entries n k .full }

theorem payPaid_runs {u : State} {n : TubeId} {k v : Nat} (hrem : u.payout.remaining = [])
    (hz : u.ledger.pending = 0) (hq : u.load.requests = []) (hr : u.sale.pendingReturn = false) :
    Runs 4 (u.commandEnded n k v .full, [.load (.release .payout), .payNext])
      (((payPaid u n k v).payoutDone .ending u.payout.manual (u.payout.paid + v) u.payout.owed
        (endEntry u.payout.entries n k .full)).setPayout Payout.powerOn, []) := by
  have hrel := release_runs (s := u.commandEnded n k v .full) (who := .payout) (js := [.payNext]) hq rfl
  have hnext : runOne .payNext ((u.commandEnded n k v .full).setLoad
      { u.load with grants := u.load.grants.filter fun g => !decide (g.holder = .payout) }) =
      (payPaid u n k v, [.payEnd]) := by
    simp [runOne, payNext, State.commandEnded, hrem, payPaid, State.setPayout, State.setLoad]
  exact (hrel.trans (Runs.step hnext)).trans (payEnd_runs (s := payPaid u n k v) hz hr)

/-- R46, R12, R5: the coins booked as paid and taken out of their tube. -/
def payCounted (a : State) (cmd : PayCmd) : State :=
  let tubes := a.cash.tubes.set cmd.tube ((a.cash.tubes[cmd.tube]).paidFull cmd.coins)
  (a.setLedger (a.ledger.payBooked (cmd.coins * cmd.value))).setCash
    { a.cash with tubes := tubes, routing := routesFor tubes }

/-- R46, R51: the unit given back and the operation over. -/
def payOver (u : State) : State :=
  (u.setLoad { u.load with grants := u.load.grants.filter fun g => !decide (g.holder = .payout) }).setPayout
    Payout.powerOn

theorem LinksOnly.payOver {u v : State} (l : LinksOnly u v) : LinksOnly (payOver u) (payOver v) := by
  unfold Laws.payOver
  rw [l.load]
  exact (l.setLoad _).setPayout _

theorem lastPaidEnds {a : State} {cmd : PayCmd} {tube : Fin 64} (ht : tube.val = cmd.tube.val)
    (hp : a.payout.phase = .paying) (hc : a.payout.inFlight = some cmd) (hans : payAnswered a = true)
    (hm : a.payout.manual = false) (hrem : a.payout.remaining = []) (hz : a.ledger.pending = cmd.coins * cmd.value)
    (hq : a.load.requests = []) (hr : a.sale.pendingReturn = false) (hlen : a.port.reports.length ≤ 20) :
    ∃ w, runOut (paidItem tube cmd.coins a) = w ∧ PortAside (payOver (payCounted a cmd)) w ∧
      .payoutDone { occasion := .ending, manual := false, paid := a.payout.paid + cmd.coins * cmd.value
                    owed := a.payout.owed, entries := endEntry a.payout.entries cmd.tube cmd.coins .full } ∈
        w.port.reports := by
  rw [paidItem_ends ht hp hc hans hm]
  have l1 : LinksOnly (payCounted a cmd) ((a.setLedger (a.ledger.payBooked (cmd.coins * cmd.value))).tubeResult cmd.tube
      fun t => t.paidFull cmd.coins) :=
    tubeResult_links (a.setLedger (a.ledger.payBooked (cmd.coins * cmd.value))) cmd.tube fun t => t.paidFull cmd.coins
  have hcalm := tubeResult_calm (a.setLedger (a.ledger.payBooked (cmd.coins * cmd.value))) cmd.tube
    fun t => t.paidFull cmd.coins
  generalize (a.setLedger (a.ledger.payBooked (cmd.coins * cmd.value))).tubeResult cmd.tube
    (fun t => t.paidFull cmd.coins) = u at l1 hcalm
  have hpayout : u.payout = a.payout := l1.payout
  have hload : u.load = a.load := l1.load
  have hzero : u.ledger.pending = 0 := by
    rw [l1.ledger]
    show a.ledger.pending - cmd.coins * cmd.value = 0
    omega
  have hshort : (payPaid u cmd.tube cmd.coins (cmd.coins * cmd.value)).port.reports.length < 32 := by
    have h : u.port.reports.length ≤ max a.port.reports.length 20 := hcalm.short
    show u.port.reports.length < 32
    omega
  have hruns := payPaid_runs (u := u) (n := cmd.tube) (k := cmd.coins) (v := cmd.coins * cmd.value)
    (hpayout ▸ hrem) hzero (hload ▸ hq) (l1.pendingReturn.trans hr)
  refine ⟨_, hruns.runOut (by decide), ?_, ?_⟩
  · exact (LinksOnly.payOver l1).aside.trans
      (LinksOnly.setPayout (PortAside.report (payPaid u cmd.tube cmd.coins (cmd.coins * cmd.value)) _) Payout.powerOn)
  · show _ ∈ ((payPaid u cmd.tube cmd.coins (cmd.coins * cmd.value)).payoutDone _ _ _ _ _).port.reports
    rw [State.payoutDone, State.report_joins rfl hshort, hpayout, hm]
    exact List.mem_append_right _ List.mem_cons_self

theorem paidFull_eq (t : Tube) (k : Nat) :
    (if t.count < k then { t with count := 0, trust := .estimated } else { t with count := t.count - k }) =
      t.paidFull k := rfl

/-- Settles O50: the PAID's own effect, inside the one exchange it came by. -/
theorem lastPaidEndsPayout : Obligations.LastPaidEndsPayout := by
  unfold Obligations.LastPaidEndsPayout
  intro s x bytes payload cmd tube hphase hdue hst hk hj htube hp hc hjoined hm hrem hnopay hz hq hr hlen
  obtain ⟨q, hcalm, hreply⟩ := reply_takes (body := paidItem tube cmd.coins) hphase hk hj (by rw [hst]; intro a; rfl)
  have hshort : q.reports.length ≤ 20 := by have := hcalm.1.short; omega
  have hans : payAnswered ((answeredBy s x.station).setPort q) = true := hst ▸ payAnswered_answeredBy hjoined hnopay
  obtain ⟨w, hw, hu, hmem⟩ := lastPaidEnds (a := (answeredBy s x.station).setPort q) htube hp hc hans hm hrem hz hq hr
    hshort
  obtain ⟨t, ht, l, lw⟩ := hreply (State.setPort _ w.port) w hw hu hphase hdue
  refine ⟨t, w.port, ht, ?_, lw.mem_outLine hmem⟩
  have hledger : s.ledger.payBooked (cmd.coins * cmd.value) =
      { s.ledger with pending := 0, changePaid := s.ledger.changePaid + BitVec.ofNat 32 (cmd.coins * cmd.value) } := by
    simp [Ledger.payBooked, hz]
  rw [← hledger, paidFull_eq]
  simpa only [payOver, payCounted, answeredBy, State.lineIdle, State.setPort, State.setLine, State.setPayout,
    State.setLoad, State.setCash, State.setLedger, State.setStation, Station.answered] using l

end Sys2Proof.Laws
end

section
/-! SUPPORT. A coin seen in a tube of its type (R7, R192). -/

namespace Sys2Proof.Laws
open Sys2Proof Sys2Proof.Machine

/-! ### COIN_IN (R192) -/

theorem mergeCoin_has {coin : CoinId} {dest : Route} : ∀ {l m : List CoinCount}, mergeCoin l coin dest = some m →
    ∃ d ∈ m, d.coin = coin ∧ d.dest = dest ∧ 1 ≤ d.count
  | [], m, h => by
    obtain rfl : [_] = m := Option.some.inj h
    exact ⟨_, List.mem_cons_self, rfl, rfl, le_refl _⟩
  | d :: ds, m, h => by
    unfold mergeCoin at h
    split at h
    · rename_i hd
      split at h
      · obtain rfl : _ :: ds = m := Option.some.inj h
        exact ⟨_, List.mem_cons_self, hd.1, hd.2, Nat.le_add_left _ _⟩
      · cases h
    · obtain ⟨m', hm, rfl⟩ := Option.map_eq_some_iff.mp h
      obtain ⟨e, he, hp⟩ := mergeCoin_has hm
      exact ⟨e, List.mem_cons_of_mem _ he, hp⟩

theorem mergeNewest_has {fill : Bool} {coin : CoinId} {dest : Route} : ∀ {l m : List Report},
    mergeNewest fill coin dest l = some m →
      ∃ counts d, .coinIn fill counts ∈ m ∧ d ∈ counts ∧ d.coin = coin ∧ d.dest = dest ∧ 1 ≤ d.count
  | [], m, h => by cases h
  | [r], m, h => by
    unfold mergeNewest at h
    split at h
    · cases h
    · rename_i f counts hr
      split at h
      · rename_i hf
        obtain ⟨c, hc, rfl⟩ := Option.map_eq_some_iff.mp h
        obtain ⟨d, hd, hp⟩ := mergeCoin_has hc
        exact ⟨c, d, by simp [hf], hd, hp⟩
      · cases h
    · cases h
    · simp_all
  | r :: r2 :: rs, m, h => by
    rw [mergeNewest] at h
    obtain ⟨m', hm, rfl⟩ := Option.map_eq_some_iff.mp h
    obtain ⟨counts, d, hmem, hp⟩ := mergeNewest_has hm
    exact ⟨counts, d, List.mem_cons_of_mem _ hmem, hp⟩

/-- R192: the coin stands in a COIN_IN of the queue, where the queue has room for one. -/
theorem coinIn_has {s : State} (fill : Bool) (coin : CoinId) (dest : Route) (h : s.port.reports.length < 32) :
    ∃ counts d, .coinIn fill counts ∈ (s.coinIn fill coin dest).port.reports ∧ d ∈ counts ∧ d.coin = coin ∧
      d.dest = dest ∧ 1 ≤ d.count := by
  fun_cases State.coinIn s fill coin dest with
  | case1 rs hm => exact mergeNewest_has hm
  | case2 hm =>
    refine ⟨[{ coin := coin, dest := dest, count := 1 }], _, ?_, List.mem_cons_self, rfl, rfl, Nat.le_refl 1⟩
    rw [State.report_joins rfl h]
    exact List.mem_append_right _ List.mem_cons_self

/-! ### COIN_SEEN (R7) -/

/-- R7, R5, R24: the coin in its tube, and its value deposited. -/
def coinTaken (a : State) (n : TubeId) (v : Nat) : State :=
  let tubes := a.cash.tubes.set n (a.cash.tubes[n]).coinAdded
  (a.setCash { a.cash with tubes := tubes, routing := routesFor tubes }).setLedger
    { a.ledger with credit := a.ledger.credit + v, cashIn := a.ledger.cashIn + BitVec.ofNat 32 v }

theorem coinSeen_ownTube {a : State} {c : CoinId} {n : TubeId} {dest : Fin 64} (hd : dest.val = n.val)
    (ht : a.cash.tubes[n].coinType = some c) (hv : 0 < a.cash.coins[c].value) (hf : a.fillOn = false) :
    coinSeen c (.tube dest) a =
      ((a.tubeResult n Tube.coinAdded).deposit a.cash.coins[c].value, [.payTell, .coinReport false c (.tube n)]) := by
  have hlt : dest.val < 6 := hd ▸ n.isLt
  have hne : a.cash.coins[c].value ≠ 0 := hv.ne'
  have hfill : (a.tubeResult n Tube.coinAdded).fillOn = false := by
    have hm : (a.tubeResult n Tube.coinAdded).mode = a.mode := (tubeResult_links a n Tube.coinAdded).mode
    unfold State.fillOn at hf ⊢
    rw [hm]
    exact hf
  obtain rfl : n = ⟨dest.val, hlt⟩ := (Fin.ext hd).symm
  rw [coinSeen]
  dsimp only
  rw [dif_pos hlt, if_pos ht, State.coinValueFault, if_neg hne, State.coinMoney,
    if_neg (not_or.mpr ⟨by rw [hfill]; nofun, hne⟩), hf, List.singleton_append]

theorem coinSeen_runs {a : State} {c : CoinId} {n : TubeId} {dest : Fin 64} (hd : dest.val = n.val)
    (ht : a.cash.tubes[n].coinType = some c) (hv : 0 < a.cash.coins[c].value) (hf : a.fillOn = false)
    (hfit : a.ledger.credit + a.cash.coins[c].value ≤ 9999) (hp : a.ledger.pending ≤ 65535)
    (hi : a.payout.phase = .idle → a.ledger.pending = 0) (hlen : a.port.reports.length ≤ 20) :
    ∃ w, runOut (coinSeen c (.tube dest) a) = w ∧ PortAside (coinTaken a n a.cash.coins[c].value) w ∧
      ∃ counts d, .coinIn false counts ∈ w.port.reports ∧ d ∈ counts ∧ d.coin = c ∧ d.dest = .tube n ∧
        1 ≤ d.count := by
  rw [coinSeen_ownTube hd ht hv hf]
  have l := tubeResult_links a n Tube.coinAdded
  have hcalm := (tubeResult_calm a n Tube.coinAdded).short
  generalize hv' : a.cash.coins[c].value = v at *
  generalize a.tubeResult n Tube.coinAdded = u at l hcalm ⊢
  have hledger : u.ledger = a.ledger := l.ledger
  have hpayout : u.payout = a.payout := l.payout
  rw [deposit_fits (by rw [hledger]; exact hfit) (by rw [hledger]; exact hp), hledger]
  let u1 := u.setLedger { a.ledger with credit := a.ledger.credit + v
                                        cashIn := a.ledger.cashIn + BitVec.ofNat 32 v }
  have htell : Runs 1 (u1, [.payTell, .coinReport false c (.tube n)]) (u1, [.coinReport false c (.tube n)]) :=
    payTell_runs (by
      show u.payout.phase = .idle → a.ledger.pending = 0
      rw [hpayout]
      exact hi)
  have hin : runOne (.coinReport false c (.tube n)) u1 = (u1.coinIn false c (.tube n), []) := rfl
  refine ⟨_, (htell.trans (Runs.quiet hin)).runOut (by decide), ?_, ?_⟩
  · exact (l.setLedger _).aside.trans (.ofPort (u1.coinIn_eq false c (.tube n)))
  · exact coinIn_has false c (.tube n) (by
      show u.port.reports.length < 32
      omega)

theorem coinAdded_eq (t : Tube) :
    (if t.count < t.capacity then { t with count := t.count + 1 } else { t with trust := .estimated }) =
      t.coinAdded := rfl

end Sys2Proof.Laws
end

section
/-! SUPPORT. The bill validator's items (R14, R16, R17). -/

namespace Sys2Proof.Laws
open Sys2Proof Sys2Proof.Machine

/-! ### The line after a frame was handed, and after the exchange -/

/-- The queue a frame is handed to does not depend on the exchange in progress. -/
theorem lineIdle_hand (s : State) (st : StationId) (r : LineRequest) :
    (s.lineIdle.hand st r).line = { (s.hand st r).line with phase := .idle } := by
  rw [State.hand_line, State.hand_line]
  rfl

/-- A frame handed where the port has grown: the queue as before, and the port's growth. -/
theorem hand_setPort_links {s : State} {q : Port} (h : PortGrows s.port q) (st : StationId) (r : LineRequest) :
    LinksOnly (s.setLine (s.hand st r).line) ((s.setPort q).hand st r) := by
  have hl : ((s.setPort q).hand st r).line = (s.hand st r).line := by
    rw [State.hand_line, State.hand_line]
    rfl
  have h1 : LinksOnly (s.setLine (s.hand st r).line) ((s.setPort q).setLine (s.hand st r).line) :=
    .ofPort (s.setLine (s.hand st r).line) q h
  exact h1.trans (hl ▸ LinksOnly.hand_line (s.setPort q) st r)

/-! ### ESCROWED (R14) -/

theorem billEscrowed_held {a : State} {b : BillId} (he : a.cash.escrow = .empty) (hm : a.mode.effective = .vend)
    (hv : a.cash.bills[b].value ≠ 0) (hc : a.ledger.credit + a.cash.bills[b].value ≤ a.settings.creditMax) :
    billEscrowed b a = ((a.setEscrow (.held b a.cash.bills[b].value)), []) := by
  have had : billAdmitted a a.cash.bills[b].value = true := by
    unfold billAdmitted
    rw [decide_eq_true hm, decide_eq_true hv, decide_eq_true hc]
    rfl
  unfold billEscrowed
  rw [he]
  dsimp only
  rw [if_pos had]
  rfl

theorem billEscrowed_returned {a : State} {b : BillId} (he : a.cash.escrow = .empty) (ha : a.active validator = true)
    (hc : a.mode.effective ≠ .vend ∨ a.cash.bills[b].value = 0 ∨
      a.settings.creditMax < a.ledger.credit + a.cash.bills[b].value) :
    billEscrowed b a =
      ((a.hand validator (.plain .giveBack)).setEscrow (.returning b a.cash.bills[b].value), []) := by
  have had : billAdmitted a a.cash.bills[b].value = false := by
    unfold billAdmitted
    rcases hc with h | h | h
    · rw [decide_eq_false h]
      rfl
    · rw [decide_eq_false (not_not.mpr h), Bool.and_false, Bool.false_and]
    · rw [decide_eq_false (Nat.not_le.mpr h), Bool.and_false]
  unfold billEscrowed
  rw [he]
  dsimp only
  rw [if_neg (by rw [had]; nofun), State.giveBack, if_pos ha]
  rfl

theorem billEscrowed_second {a : State} {b : BillId} (he : a.cash.escrow ≠ .empty) :
    billEscrowed b a = (a.stationReport validator .secondBill (.item (.billSeen b .escrowed)), []) := by
  unfold billEscrowed
  split
  · exact absurd ‹_› he
  · rfl

/-! ### STACKED (R16) -/

/-- R16, R24: the bill's amount deposited. -/
def billDeposited (a : State) (v : Nat) : State :=
  a.setLedger { a.ledger with credit := a.ledger.credit + v, cashIn := a.ledger.cashIn + BitVec.ofNat 32 v }

/-- R16: the amount is deposited, 0 too, where a STATION report may stand before the rest. -/
theorem billStackedItem_runs {a : State} {b : BillId} (hfit : a.ledger.credit + stackedAmount a b ≤ 9999)
    (hp : a.ledger.pending ≤ 65535) (hi : a.payout.phase = .idle → a.ledger.pending = 0) :
    ∃ d, (∃ k ≤ 1, Runs k (billStackedItem b a) (d, [.billStacked b (stackedAmount a b)])) ∧
      PortOnly (billDeposited a (stackedAmount a b)) d ∧ d.port.reports.length ≤ a.port.reports.length + 1 := by
  unfold billStackedItem
  by_cases hv : stackedAmount a b = 0
  · refine ⟨_, ⟨0, Nat.zero_le _, fun n => by rw [if_pos hv]; rfl⟩, ?_, report_length _ _ rfl⟩
    have hz : billDeposited a (stackedAmount a b) = a := by
      rw [hv, billDeposited, Nat.add_zero, BitVec.add_zero]
      rfl
    rw [hz]
    exact a.report_eq _
  · refine ⟨billDeposited a (stackedAmount a b), ⟨1, le_refl _, ?_⟩, rfl, Nat.le_succ _⟩
    dsimp only
    rw [if_neg hv, deposit_fits hfit hp]
    exact payTell_runs (s := billDeposited a (stackedAmount a b)) hi

theorem billIn_has {s : State} {b : BillId} {x : BillInState} {v : Nat} (h : s.port.reports.length < 32) :
    (s.billIn b x v).port = { s.port with
      reports := s.port.reports ++ [.billIn [{ bill := b, state := x, count := 1, amount := v }]] } :=
  State.report_joins rfl h

/-- R16, R17: escrow EMPTY, and no unsent bill frame. -/
def billGone (s : State) : State := s.dropBillFrames.setEscrow .empty

theorem LinksOnly.billGone {s t : State} (l : LinksOnly s t) : LinksOnly (billGone s) (billGone t) :=
  (l.removeFrames validator [.keepBill, .giveBack]).setEscrow .empty

/-- R16: a STACKED with no stacking in progress: its BILL_IN, escrow EMPTY, no bill frame unsent. -/
theorem billStacked_apart {d : State} {b : BillId} {v : Nat}
    (he : ∀ c w limit, d.cash.escrow ≠ .stackWait c w limit ∧ d.cash.escrow ≠ .stacking c w limit) :
    Runs 2 (d, [.billStacked b v]) (billGone (d.billIn b .stacked v), []) := by
  have h1 : runOne (.billStacked b v) d = ((d.billIn b .stacked v).setEscrow .empty, [.dropBillFrames]) := by
    show billStackedTail b v d = _
    unfold billStackedTail
    split
    · exact absurd ‹_› (he _ _ _).2
    · exact absurd ‹_› (he _ _ _).1
    · rfl
  exact (Runs.step h1).trans (Runs.quiet rfl)

/-- R16, R97, R98: the sale whose stacking it was has its hold and waits for the host. -/
def stackedForHost (s : State) (y : Sale) : State :=
  ((s.setLoad { s.load with grants := s.load.grants.filter fun g => !decide (g.holder = .stacking) }).setLedger
    (s.ledger.takeHold y.price)).setCurrentSale
      (some { y with stage := .hostApproval, billStacked := true, approvalLimit := some (s.now + 10000) })

theorem LinksOnly.stackedForHost {s t : State} (l : LinksOnly s t) (y : Sale) :
    LinksOnly (stackedForHost s y) (stackedForHost t y) := by
  unfold Laws.stackedForHost
  rw [l.load, l.ledger, l.now]
  exact ((l.setLoad _).setLedger _).setCurrentSale _

/-- R98: what the sale in HOST_APPROVAL shows and reports. -/
def hostAsked (s : State) (y : Sale) : State :=
  (s.show .approving y.price).report (.saleAsk { number := y.number, selection := y.selection, price := y.price
                                                 source := y.source, origin := y.origin })

theorem hostAsked_aside (s : State) (y : Sale) : PortAside s (hostAsked s y) :=
  (LinksOnly.show s _ _).aside.trans (.report _ _)

theorem hostAsked_keeps {s : State} (y : Sale) {r : Report} (h : r ∈ s.port.reports)
    (hlen : s.port.reports.length < 32) : r ∈ (hostAsked s y).port.reports := by
  have hshort : (s.show .approving y.price).port.reports.length < 32 := by
    have := (s.show_calm .approving y.price).short
    omega
  rw [hostAsked, State.report_joins rfl hshort]
  exact List.mem_append_left _ ((s.show_grows .approving y.price).mem h)

theorem enterStage_host {x : Sale} (h : x.approval = .host) (s : State) : enterStage x s = enterHost x s := by
  rw [enterStage, h]

theorem billStacked_host {d : State} {b : BillId} {v : Nat} {c : BillId} {w limit : Nat} {y : Sale}
    (he : d.cash.escrow = .stacking c w limit) (hy : d.sale.current = some y) (hst : y.stage = .stacking)
    (ha : y.approval = .host) (hold : d.ledger.hold = 0) (hc : y.price ≤ d.ledger.credit) (hq : d.load.requests = []) :
    Runs 4 (d, [.billStacked b v])
      ((hostAsked (stackedForHost ((d.billIn b .stacked v).setEscrow .empty) y) y).dropBillFrames, []) := by
  let s1 := (d.billIn b .stacked v).setEscrow .empty
  have h1 : runOne (.billStacked b v) d =
      (s1, [.load (.release .stacking), .stackOutcome true, .dropBillFrames]) := by
    show billStackedTail b v d = _
    unfold billStackedTail
    rw [he]
  have h2 := release_runs (s := s1) (who := .stacking) (js := [.stackOutcome true, .dropBillFrames])
    (by simpa [s1, State.billIn] using hq) rfl
  let s2 := s1.setLoad { s1.load with grants := s1.load.grants.filter fun g => !decide (g.holder = .stacking) }
  have h3 : runOne (.stackOutcome true) s2 = (hostAsked (stackedForHost s1 y) y, []) := by
    have hy2 : s2.sale.current = some y := by simpa [s2, s1] using hy
    have hl2 : s2.ledger.canHold y.price = true := by
      have : s2.ledger = d.ledger := by simp [s2, s1]
      simp [Ledger.canHold, this, hold, hc]
    show stackOutcome true s2 = _
    rw [stackOutcome, hy2]
    dsimp only
    rw [if_pos hst, if_pos rfl, if_pos hl2,
      enterStage_host (x := { y with billStacked := true }) ha]
    rfl
  exact (((Runs.step h1).trans h2).trans (Runs.step h3)).trans (Runs.quiet rfl)

/-- R16, with no stacking in progress. -/
theorem billStacked_takes {a : State} {b : BillId} (hfit : a.ledger.credit + stackedAmount a b ≤ 9999)
    (hp : a.ledger.pending ≤ 65535) (hi : a.payout.phase = .idle → a.ledger.pending = 0)
    (hlen : a.port.reports.length < 31)
    (he : ∀ c w limit, a.cash.escrow ≠ .stackWait c w limit ∧ a.cash.escrow ≠ .stacking c w limit) :
    ∃ w, runOut (billStackedItem b a) = w ∧ PortAside (billGone (billDeposited a (stackedAmount a b))) w ∧
      .billIn [{ bill := b, state := .stacked, count := 1, amount := stackedAmount a b }] ∈ w.port.reports := by
  obtain ⟨d, ⟨k, hk, hruns⟩, hd, hdlen⟩ := billStackedItem_runs hfit hp hi
  have hcash : d.cash = a.cash := by rw [hd]; rfl
  refine ⟨_, (hruns.trans (billStacked_apart (by rw [hcash]; exact he))).runOut ?_, ?_, ?_⟩
  · exact (Nat.add_le_add_right hk 2).trans (by decide)
  · exact LinksOnly.billGone ((PortAside.ofPort hd).trans (.report d _))
  · show _ ∈ (d.billIn b .stacked (stackedAmount a b)).port.reports
    rw [billIn_has (by omega)]
    exact List.mem_append_right _ List.mem_cons_self

/-- R16, R97, R98, where the stacking was that of a sale with HOST approval. -/
theorem billStacked_hosts {a : State} {b c : BillId} {v limit : Nat} {y : Sale}
    (hfit : a.ledger.credit + stackedAmount a b ≤ 9999) (hp : a.ledger.pending ≤ 65535)
    (hi : a.payout.phase = .idle → a.ledger.pending = 0) (hlen : a.port.reports.length < 30)
    (he : a.cash.escrow = .stacking c v limit) (hy : a.sale.current = some y) (hst : y.stage = .stacking)
    (ha : y.approval = .host) (hold : a.ledger.hold = 0) (hc : y.price ≤ a.ledger.credit + stackedAmount a b)
    (hq : a.load.requests = []) :
    ∃ w, runOut (billStackedItem b a) = w ∧
      PortAside (stackedForHost ((billDeposited a (stackedAmount a b)).setEscrow .empty) y).dropBillFrames w ∧
      .billIn [{ bill := b, state := .stacked, count := 1, amount := stackedAmount a b }] ∈ w.port.reports := by
  obtain ⟨d, ⟨k, hk, hruns⟩, hd, hdlen⟩ := billStackedItem_runs hfit hp hi
  have hblock : d.cash = a.cash ∧ d.sale = a.sale ∧ d.load = a.load ∧
      d.ledger = (billDeposited a (stackedAmount a b)).ledger := by
    rw [hd]
    exact ⟨rfl, rfl, rfl, rfl⟩
  obtain ⟨hcash, hsale, hload, hledger⟩ := hblock
  have hhost := billStacked_host (d := d) (b := b) (v := stackedAmount a b) (c := c) (w := v) (limit := limit)
    (y := y) (hcash ▸ he) (hsale ▸ hy) hst ha (hledger ▸ hold) (hledger ▸ hc) (hload ▸ hq)
  have hin : (d.billIn b .stacked (stackedAmount a b)).port = _ := billIn_has (by omega)
  refine ⟨_, (hruns.trans hhost).runOut ?_, ?_, ?_⟩
  · exact (Nat.add_le_add_right hk 4).trans (by decide)
  · have h1 : PortAside ((billDeposited a (stackedAmount a b)).setEscrow .empty)
        ((d.billIn b .stacked (stackedAmount a b)).setEscrow .empty) :=
      LinksOnly.setEscrow ((PortAside.ofPort hd).trans (.report d _)) .empty
    have h2 := (LinksOnly.stackedForHost h1 y).aside.trans (hostAsked_aside _ y)
    exact LinksOnly.removeFrames h2 validator [.keepBill, .giveBack]
  · refine hostAsked_keeps y ?_ ?_
    · show _ ∈ (d.billIn b .stacked (stackedAmount a b)).port.reports
      rw [hin]
      exact List.mem_append_right _ List.mem_cons_self
    · show (d.billIn b .stacked (stackedAmount a b)).port.reports.length < 32
      rw [hin]
      show (d.port.reports ++ [_]).length < 32
      rw [List.length_append, List.length_singleton]
      omega

/-! ### RETURNED (R17) -/

theorem billReturned_apart {a : State}
    (he : ∀ c w limit, a.cash.escrow ≠ .stackWait c w limit ∧ a.cash.escrow ≠ .stacking c w limit) :
    billReturned a = (billGone a, []) := by
  unfold billReturned
  split
  · exact absurd ‹_› (he _ _ _).1
  · exact absurd ‹_› (he _ _ _).2
  · rfl

/-- R17, R97, R108: the state after the stacking's unit was given back, the hold and the sale. -/
def stackingReturned (a : State) : State :=
  (((billGone a).setLoad { a.load with grants := a.load.grants.filter fun g => !decide (g.holder = .stacking) }).setLedger
    (heldBack a.ledger)).setCurrentSale none

theorem billReturned_fails {a : State} {c : BillId} {v limit : Nat} {y : Sale}
    (he : a.cash.escrow = .stacking c v limit) (hy : a.sale.current = some y) (hst : y.stage = .stacking)
    (hsrc : y.source = .cash) (hs : SettlesAlone a) (hq : a.load.requests = []) (hlen : a.port.reports.length < 32) :
    ∃ w, runOut (billReturned a) = w ∧ PortAside (stackingReturned a) w ∧
      ∃ q : SaleReport, .sale q ∈ w.port.reports ∧ q.number = y.number ∧ q.outcome = .billFail := by
  let s2 := (billGone a).setLoad { a.load with grants := a.load.grants.filter fun g => !decide (g.holder = .stacking) }
  have h0 : billReturned a = (billGone a, [.load (.release .stacking), .stackOutcome false]) := by
    unfold billReturned
    rw [he]
    rfl
  have hruns : Runs 6 (billGone a, [.load (.release .stacking), .stackOutcome false]) (billFailed s2 y, []) :=
    (release_runs (s := billGone a) (js := [.stackOutcome false]) hq rfl).trans
      (stackFailed_runs (js := []) hy hst hsrc hs)
  refine ⟨_, by rw [h0]; exact hruns.runOut (by decide), billFailed_aside s2 y, ?_⟩
  exact (billFailed_reports (s := s2) y hlen).2

end Sys2Proof.Laws
end

section
/-! SUPPORT. The card reader's items, and the items of a coin, a bill and a card taken each in its REPLY (R33, R34,
R103, R169). -/

namespace Sys2Proof.Laws
open Sys2Proof Sys2Proof.Machine

/-- R174: what was removed is not in the queue. -/
theorem not_mem_removeFrames {s : State} {st : StationId} {ks : List LineKind} {e : QueueEntry}
    (h : e ∈ (s.removeFrames st ks).line.queue) : ¬ (e.station = st ∧ e.request.kind ∈ ks) := by
  rintro ⟨hst, hk⟩
  have := (List.mem_filter.mp h).2
  simp [hst, hk] at this

/-! ### A sale that ends without a product (R108) -/

theorem setCurrentSale_self {s : State} {x : Option Sale} (h : s.sale.current = x) : s.setCurrentSale x = s := by
  subst h
  rfl

theorem saleEnd_cashless {s : State} {x : Sale} {o : SaleOutcome} (hx : s.sale.current = some x)
    (hsrc : x.source = .cashless) :
    saleEnd o s = (tellReader (settledSale x o) o (s.setCurrentSale (some (settledSale x o))), [.saleFinish 0]) := by
  unfold saleEnd settledSale
  rw [hx]
  dsimp only
  rw [hsrc]

/-- R108, step 1: the reader that was asked is told that the sale failed. -/
theorem tellReader_failed {s : State} {x : Sale} (hx : s.sale.current = some x) (ha : x.told = .asked) :
    ∃ told, tellReader x .cardLost s =
      (s.hand reader (chargeEndRequest false)).setCurrentSale (some { x with told := told }) := by
  have hcur : (s.hand reader (chargeEndRequest false)).sale.current = some x := by
    rw [s.hand_eq reader (chargeEndRequest false)]
    exact hx
  unfold tellReader
  dsimp only
  rw [if_pos ha]
  split
  · exact ⟨.failed, by rw [handFrame_fst]⟩
  · exact ⟨x.told, by rw [handFrame_fst, setCurrentSale_self hcur]⟩

/-- R108, steps 4 to 6: the panel told, the sale reported and over. -/
def saleOver (s : State) (x : Sale) (o : SaleOutcome) : State :=
  ((s.saleReport x o 0).show .notVended (s.saleReport x o 0).funds).setCurrentSale none

theorem saleFinish_runs {s : State} {x : Sale} {js : List Job} (hx : s.sale.current = some x)
    (ho : x.outcome = some .cardLost) (hr : s.sale.pendingReturn = false) :
    Runs 2 (s, .saleFinish 0 :: js) (saleOver s x .cardLost, js) := by
  have h1 : runOne (.saleFinish 0) s = (saleOver s x .cardLost, [.returnTest]) := by
    show saleFinish 0 s = _
    unfold saleFinish
    rw [hx]
    dsimp only
    rw [ho]
    rfl
  refine (Runs.step h1).trans (returnTest_runs ?_)
  simp [saleOver, State.setCurrentSale, State.saleReport, hr]

theorem saleOver_aside (s : State) (x : Sale) (o : SaleOutcome) : PortAside (s.setCurrentSale none) (saleOver s x o) :=
  LinksOnly.setCurrentSale ((PortAside.report s _).trans (LinksOnly.show (s.saleReport x o 0) _ _).aside) none

theorem saleOver_reports {s : State} (x : Sale) (o : SaleOutcome) (h : s.port.reports.length < 32) :
    ∃ q : SaleReport, .sale q ∈ (saleOver s x o).port.reports ∧ q.number = x.number ∧ q.outcome = o := by
  obtain ⟨q, hq, hn, ho⟩ := saleReport_joins (s := s) x o 0 h
  refine ⟨q, ((s.saleReport x o 0).show_grows .notVended _).mem ?_, hn, ho⟩
  rw [hq]
  exact List.mem_append_right _ List.mem_cons_self

/-! ### CARD_OFF (R34, R103) -/

theorem cardLost_apart {s : State} (hs : ∀ sale, s.sale.current = some sale → sale.source = .cash) :
    cardLost s = (s, []) := by
  unfold cardLost
  split
  · rfl
  · rename_i y hy
    rw [hs y hy]
    rfl

theorem cardClose_apart {a : State} (h : ∀ y, a.sale.current = some y → y.source = .cash) :
    runOut (cardClose a) = a.setCard .absent := by
  unfold cardClose
  split
  · rename_i hc
    have : a.setCard .absent = a := by rw [← hc]; rfl
    rw [this]
    exact runJobs_nil _ _
  · have h1 : runOne .cardLost (a.setCard .absent) = (a.setCard .absent, []) := cardLost_apart (s := a.setCard .absent) h
    exact (Runs.quiet (js := []) h1).runOut (by decide)

/-- R34, R103: the card record closed, the reader's question no longer unsent. -/
def cardDropped (a : State) : State := (a.setCard .absent).removeFrames reader [.chargeAsk]

theorem cardClose_lost {a : State} {y : Sale} (hc : a.card ≠ .absent) (hy : a.sale.current = some y)
    (hsrc : y.source = .cashless) (hst : y.stage = .readerApproval) (ht : y.told = .asked)
    (hr : a.sale.pendingReturn = false) (hlen : a.port.reports.length ≤ 20) :
    ∃ w, runOut (cardClose a) = w ∧
      PortAside (((cardDropped a).setLine ((cardDropped a).hand reader (chargeEndRequest false)).line).setCurrentSale
        none) w ∧
      ∃ q : SaleReport, .sale q ∈ w.port.reports ∧ q.number = y.number ∧ q.outcome = .cardLost := by
  have h0 : cardClose a = (a.setCard .absent, [.cardLost]) := by
    unfold cardClose
    split
    · exact absurd ‹_› hc
    · rfl
  have h1 : runOne .cardLost (a.setCard .absent) = (cardDropped a, [.saleEnd .cardLost]) := by
    show cardLost (a.setCard .absent) = _
    unfold cardLost
    rw [show (a.setCard .absent).sale.current = some y from hy]
    dsimp only
    rw [hsrc, hst]
    rfl
  let b := (cardDropped a).setCurrentSale (some (settledSale y .cardLost))
  obtain ⟨told, htold⟩ := tellReader_failed (s := b) (x := settledSale y .cardLost) rfl ht
  let z : Sale := { settledSale y .cardLost with told := told }
  let c := (b.hand reader (chargeEndRequest false)).setCurrentSale (some z)
  have h2 : runOne (.saleEnd .cardLost) (cardDropped a) = (c, [.saleFinish 0]) := by
    show saleEnd .cardLost (cardDropped a) = _
    rw [saleEnd_cashless (s := cardDropped a) hy hsrc, htold]
  have hb : (b.hand reader (chargeEndRequest false)).sale.pendingReturn = false := by
    rw [b.hand_eq reader (chargeEndRequest false)]
    exact hr
  have h3 := saleFinish_runs (s := c) (x := z) (js := []) rfl rfl hb
  have hline : (b.hand reader (chargeEndRequest false)).line =
      ((cardDropped a).hand reader (chargeEndRequest false)).line := by
    rw [State.hand_line, State.hand_line]
    rfl
  have hc0 : LinksOnly ((b.setLine (b.hand reader (chargeEndRequest false)).line).setCurrentSale none)
      ((b.hand reader (chargeEndRequest false)).setCurrentSale none) :=
    (LinksOnly.hand_line b reader (chargeEndRequest false)).setCurrentSale none
  rw [hline] at hc0
  refine ⟨_, ((((Runs.step h1).trans (Runs.step h2)).trans h3)).runOut (by decide) |> fun h => by rw [h0]; exact h,
    hc0.aside.trans (saleOver_aside c z .cardLost), ?_⟩
  refine saleOver_reports z .cardLost ?_
  have := (b.hand_calm reader (chargeEndRequest false)).short
  show (b.hand reader (chargeEndRequest false)).port.reports.length < 32
  have hbl : b.port.reports.length ≤ 20 := hlen
  omega

end Sys2Proof.Laws
end

section
/-! SUPPORT. The items of a coin, a bill and a card, each in its REPLY (R169). -/

namespace Sys2Proof.Laws
open Sys2Proof Sys2Proof.Machine

/-- A block's own item, taken at its station. -/
theorem itemOut_billSeen {st : StationId} (h : st = validator) (b : BillId) (e : BillEvent) (a : State) :
    itemOut st (.billSeen b e) a = billSeen b e a := by rw [h]; rfl

/-- No bill frame is left where the queue was that of a state whose bill frames were removed (R16, R17). -/
theorem noBillFrame_of_links {u t : State} (s : State) (l : LinksOnly u t)
    (hq : u.line.queue = s.dropBillFrames.line.queue) :
    ∀ e ∈ t.line.queue, ¬ (e.station = validator ∧ (e.request.kind = .keepBill ∨ e.request.kind = .giveBack)) := by
  refine l.queue_not (P := fun e => e.station = validator ∧ (e.request.kind = .keepBill ∨ e.request.kind = .giveBack))
    (fun e he hp => not_mem_removeFrames (s := s) (hq ▸ he) ⟨hp.1, ?_⟩) fun e hp => ?_
  · simpa using hp.2
  · rcases hp.2 with h | h <;> rw [h] <;> rfl

theorem runOut_nil (s : State) : runOut (s, []) = s := runJobs_nil _ _

/-- R171, R191: a STATION report joins while the reserve is open. -/
theorem stationReport_has {s : State} (st : StationId) (cause : StationCause) (detail : StationDetail)
    (h : s.port.reports.length < 20) :
    ∃ r : StationReport, .station r ∈ (s.stationReport st cause detail).port.reports ∧ r.station = st ∧
      r.cause = cause := by
  obtain ⟨r, hr, hst, hc⟩ : ∃ r : StationReport, (s.stationReport st cause detail).port =
      { s.port with reports := s.port.reports ++ [.station r] } ∧ r.station = st ∧ r.cause = cause :=
    ⟨_, State.report_open rfl h, rfl, rfl⟩
  exact ⟨r, by rw [hr]; exact List.mem_append_right _ List.mem_cons_self, hst, hc⟩

theorem hand_phase (s : State) (st : StationId) (r : LineRequest) : (s.hand st r).line.phase = s.line.phase := by
  rw [State.hand_line]

theorem hand_restartDue (s : State) (st : StationId) (r : LineRequest) :
    (s.hand st r).line.restartDue = s.line.restartDue := by
  rw [State.hand_line]

/-- R103: the line where a card was lost, as the exchange's end leaves it. -/
theorem cardDropped_line (s : State) (q : Port) :
    ((s.lineIdle.removeFrames reader [.chargeAsk]).hand reader (.with .chargeEnd [0#8])).line =
      { ((cardDropped (s.setPort q)).hand reader (chargeEndRequest false)).line with phase := .idle } := by
  rw [State.hand_line, State.hand_line]
  rfl

theorem cardDropped_links {s t : State} {L : Line} {p : Port}
    (l : LinksOnly ((((cardDropped s).setLine L).setCurrentSale none).setPort p).lineIdle t) :
    LinksOnly ((((s.lineIdle.setCard .absent).setCurrentSale none).setLine { L with phase := .idle }).setPort p) t := l

/-- No question is left to the reader where a removal and a CHARGE_END made the queue (R103, R108). -/
theorem noChargeAsk_of_links {u t : State} (s : State) (l : LinksOnly u t)
    (hq : u.line.queue = ((s.removeFrames reader [.chargeAsk]).hand reader (chargeEndRequest false)).line.queue) :
    ∀ e ∈ t.line.queue, ¬ (e.station = reader ∧ e.request.kind = .chargeAsk) := by
  refine l.queue_not (P := fun e => e.station = reader ∧ e.request.kind = .chargeAsk) (fun e he hp => ?_)
    fun e hp => by rw [hp.2]; rfl
  rw [hq] at he
  rcases State.mem_hand_queue he with h | ⟨-, -, h⟩
  · exact not_mem_removeFrames h ⟨hp.1, by simp [hp.2]⟩
  · rw [h] at hp
    cases hp.2

/-- R25: a hold taken within credit. -/
theorem takeHold_fits {l : Ledger} {p : Nat} (h : l.hold = 0) (hc : p ≤ l.credit) :
    l.takeHold p = { l with credit := l.credit - p, hold := p } := by
  rw [Ledger.takeHold, if_pos (by simp [Ledger.canHold, h, hc])]

/-- The station that answered is as active as before. -/
theorem answeredBy_active (s : State) {st st' : StationId} (h : st = st') :
    (answeredBy s st).active st' = (s.line.stations[st]).active := by
  subst h
  show ((answeredBy s st).line.stations[st]).active = _
  rw [answeredBy_station]
  rfl

/-- Settles O49: each item's own effect, inside the one exchange it came by. -/
theorem coinBillCardItemsTaken : Obligations.CoinBillCardItemsTaken := by
  unfold Obligations.CoinBillCardItemsTaken
  intro s x bytes payload hphase hdue hk
  refine ⟨?_, ?_, ?_⟩
  · intro c dest n hst hd hb ht hv hf ⟨hfit, hp, hi⟩ hlen
    obtain ⟨q, hq, hreply⟩ := reply_takes (body := coinSeen c (.tube dest)) hphase hk hb (by rw [hst]; intro a; rfl)
    have hshort : q.reports.length ≤ 20 := by have := hq.2; omega
    have hfill : ((answeredBy s x.station).setPort q).fillOn = false := by
      show (decide (s.mode.effective = .service) && s.mode.fill) = false
      simpa using hf
    obtain ⟨w, hw, hu, counts, d, hmem, hd⟩ := coinSeen_runs (a := (answeredBy s x.station).setPort q) hd ht hv hfill
      hfit hp hi hshort
    obtain ⟨t, ht', l, lw⟩ := hreply _ w hw hu hphase hdue
    refine ⟨t, w.port, ht', ?_, counts, d, lw.mem_outLine hmem, hd⟩
    rw [coinAdded_eq]
    simpa only [coinTaken, answeredBy, State.lineIdle, State.setPort, State.setLine, State.setCash, State.setLedger,
      State.setStation, Station.answered] using l
  · intro b hst v amount
    have hbill : ∀ e a, itemOut x.station (.billSeen b e) a = billSeen b e a := itemOut_billSeen hst b
    refine ⟨?_, ?_, ?_, ?_⟩
    · intro hb
      obtain ⟨q, hq, hreply⟩ := reply_takes hphase hk hb (hbill _)
      have hl : LinksOnly (answeredBy s x.station) ((answeredBy s x.station).setPort q) := replyTaken_links hq
      refine ⟨?_, ?_, ?_⟩
      · intro he hm hv hc
        have hw := congrArg runOut (billEscrowed_held (a := (answeredBy s x.station).setPort q) he hm hv hc)
        obtain ⟨t, ht, l, -⟩ := hreply _ _ (hw.trans (runOut_nil _)) (hl.setEscrow (.held b s.cash.bills[b].value))
          hphase hdue
        exact ⟨t, ht, l⟩
      · intro he hact hc
        have hav : (answeredBy s x.station).active validator = true := (answeredBy_active s hst).trans hact
        have hw := congrArg runOut (billEscrowed_returned (a := (answeredBy s x.station).setPort q) he hav hc)
        obtain ⟨t, ht, l, -⟩ := hreply _ _ (hw.trans (runOut_nil _))
          ((hand_setPort_links (s := answeredBy s x.station) hq.1.toPortGrows validator (.plain .giveBack)).setEscrow
            (.returning b s.cash.bills[b].value)) (by rw [← hphase]; exact hand_phase _ _ _)
          (by rw [← hdue]; exact hand_restartDue _ _ _)
        refine ⟨t, ht, ?_⟩
        show LinksOnly (((answeredBy s x.station).lineIdle.setEscrow (.returning b s.cash.bills[b].value)).setLine
          ((answeredBy s x.station).lineIdle.hand validator (.plain .giveBack)).line) t
        rw [lineIdle_hand]
        exact l
      · intro he hlen
        have hw := congrArg runOut (billEscrowed_second (a := (answeredBy s x.station).setPort q) (b := b) he)
        have hrep : LinksOnly ((answeredBy s x.station).setPort q) (((answeredBy s x.station).setPort q).stationReport
          validator .secondBill (.item (.billSeen b .escrowed))) := .report _ _ rfl
        obtain ⟨t, ht, l, lw⟩ := hreply _ _ (hw.trans (runOut_nil _)) (hl.trans hrep) hphase hdue
        have hopen : q.reports.length < 20 := by have := hq.2; omega
        obtain ⟨r, hmem, hr⟩ := stationReport_has (s := (answeredBy s x.station).setPort q) validator .secondBill
          (.item (.billSeen b .escrowed)) hopen
        exact ⟨t, ht, l, r, lw.mem_outLine hmem, hr⟩
    · intro hb hdep hlen
      obtain ⟨q, hq, hreply⟩ := reply_takes hphase hk hb (hbill _)
      have hamount : amount = stackedAmount ((answeredBy s x.station).setPort q) b := rfl
      clear_value amount
      obtain ⟨hfit, hp, hi⟩ := hdep
      have hopen : q.reports.length < 20 := by have := hq.2; omega
      rw [hamount] at hfit ⊢
      constructor
      · intro he
        obtain ⟨w, hw, hu, hmem⟩ := billStacked_takes (a := (answeredBy s x.station).setPort q) hfit hp hi
          (hopen.trans (by decide)) he
        obtain ⟨t, ht, l, lw⟩ := hreply _ w hw hu hphase hdue
        refine ⟨t, w.port, ht, ?_, noBillFrame_of_links (answeredBy s x.station) l rfl, lw.mem_outLine hmem⟩
        simpa only [billGone, billDeposited, answeredBy, State.lineIdle, State.setPort, State.setLine, State.setEscrow,
          State.setCash, State.setLedger, State.dropBillFrames, State.removeFrames, State.setQueue, State.setStation,
          Station.answered] using l
      · intro c w limit y he hy hyst hya hold hc hreq
        obtain ⟨z, hz, hu, hmem⟩ := billStacked_hosts (a := (answeredBy s x.station).setPort q) hfit hp hi
          (hopen.trans (by decide)) he hy hyst hya hold hc hreq
        obtain ⟨t, ht, l, lw⟩ := hreply _ z hz hu hphase hdue
        refine ⟨t, z.port, ht, ?_, noBillFrame_of_links (answeredBy s x.station) l rfl, lw.mem_outLine hmem⟩
        have hhold := takeHold_fits (l := (billDeposited ((answeredBy s x.station).setPort q)
          (stackedAmount ((answeredBy s x.station).setPort q) b)).ledger) (p := y.price) hold hc
        generalize stackedAmount ((answeredBy s x.station).setPort q) b = v at *
        rw [stackedForHost, State.setEscrow_ledger, hhold] at l
        simpa only [billDeposited, answeredBy, State.lineIdle, State.setPort, State.setLine, State.setEscrow,
          State.setCash, State.setCurrentSale, State.setSale, State.setLedger, State.setLoad, State.dropBillFrames,
          State.removeFrames, State.setQueue, State.setStation, Station.answered] using l
    · intro hb
      obtain ⟨q, hq, hreply⟩ := reply_takes hphase hk hb (hbill _)
      constructor
      · intro he
        have hw := congrArg runOut (billReturned_apart (a := (answeredBy s x.station).setPort q) he)
        obtain ⟨t, ht, l, -⟩ := hreply _ _ (hw.trans (runOut_nil _)) (LinksOnly.billGone (replyTaken_links hq))
          hphase hdue
        exact ⟨t, ht, l, noBillFrame_of_links (answeredBy s x.station) l rfl⟩
      · intro c w limit y he hy hyst hsrc hs hreq hlen
        have hopen : q.reports.length < 32 := by have := hq.2; omega
        obtain ⟨z, hz, hu, r, hmem, hr⟩ := billReturned_fails (a := (answeredBy s x.station).setPort q) he hy hyst hsrc
          hs hreq hopen
        obtain ⟨t, ht, l, lw⟩ := hreply _ z hz hu hphase hdue
        refine ⟨t, z.port, ht, ?_, ?_, r, lw.mem_outLine hmem, hr⟩
        · simpa only [stackingReturned, billGone, answeredBy, State.lineIdle, State.setPort, State.setLine,
            State.setEscrow, State.setCash, State.setCurrentSale, State.setSale, State.setLedger, State.setLoad,
            State.dropBillFrames, State.removeFrames, State.setQueue, State.setStation, Station.answered] using l
        · exact noBillFrame_of_links (answeredBy s x.station) l rfl
    · intro hb
      obtain ⟨q, hq, hreply⟩ := reply_takes hphase hk hb (hbill _)
      have hw : runOut (billSeen b .rejected ((answeredBy s x.station).setPort q)) = _ := runOut_nil _
      obtain ⟨t, ht, l, -⟩ := hreply _ _ hw (replyTaken_links hq) hphase hdue
      exact ⟨t, ht, l⟩
  · intro hst
    constructor
    · intro funds hb
      obtain ⟨q, hq, hreply⟩ := reply_takes (body := cardOn funds) hphase hk hb (by rw [hst]; intro a; rfl)
      have hw : runOut (cardOn funds ((answeredBy s x.station).setPort q)) = _ := runOut_nil _
      obtain ⟨t, ht, l, -⟩ := hreply _ _ hw
        (LinksOnly.setCard (replyTaken_links hq) (.present (funds.map fun f => min f 9999))) hphase hdue
      exact ⟨t, ht, l⟩
    · intro hb
      obtain ⟨q, hq, hreply⟩ := reply_takes (body := cardClose) hphase hk hb (by rw [hst]; intro a; rfl)
      constructor
      · intro h
        obtain ⟨t, ht, l, -⟩ := hreply _ _ (cardClose_apart (a := (answeredBy s x.station).setPort q) h)
          (LinksOnly.setCard (replyTaken_links hq) .absent) hphase hdue
        exact ⟨t, ht, l⟩
      · intro y hc hy hsrc hyst htold hr hlen
        have hshort : q.reports.length ≤ 20 := by have := hq.2; omega
        obtain ⟨w, hw, hu, r, hmem, hr⟩ := cardClose_lost (a := (answeredBy s x.station).setPort q) hc hy hsrc hyst htold
          hr hshort
        obtain ⟨t, ht, l, lw⟩ := hreply _ w hw hu (by rw [← hphase]; exact hand_phase _ _ _)
          (by rw [← hdue]; exact hand_restartDue _ _ _)
        have hline := cardDropped_line (answeredBy s x.station) q
        refine ⟨t, w.port, ht, ?_, ?_, r, lw.mem_outLine hmem, hr⟩
        · have l' := cardDropped_links l
          rw [← hline] at l'
          simpa only [answeredBy, State.lineIdle, State.setPort, State.setLine, State.setCard, State.setCurrentSale,
            State.setSale, State.setStation, Station.answered] using l'
        · exact noChargeAsk_of_links (((answeredBy s x.station).setPort q).setCard .absent) l rfl

end Sys2Proof.Laws
end

section
/-! SUPPORT. A station that is away stays away, with nothing outstanding and nothing queued, whatever the links do by
themselves (R171, R172, R173). -/

namespace Sys2Proof.Machine

/-- The station is not ACTIVE, has no request outstanding and no entry in the line queue. -/
structure StationAway (st : StationId) (l : Line) : Prop where
  inactive : (l.stations[st]).active = false
  idle : (l.stations[st]).outstanding = none
  unqueued : ∀ e ∈ l.queue, e.station ≠ st

section
variable {st : StationId} {s : State}

/-! ### What follows an event -/

theorem StationAway.hand (h : StationAway st s.line) (who : StationId) (r : LineRequest) :
    StationAway st (s.hand who r).line := by
  have hst : (s.hand who r).line.stations = s.line.stations := by rw [State.hand_line]
  refine ⟨hst ▸ h.inactive, hst ▸ h.idle, fun e he => ?_⟩
  rcases State.mem_hand_queue he with hq | ⟨ha, hw, -⟩
  · exact h.unqueued e hq
  · rintro rfl
    rw [← hw] at ha
    exact absurd (h.inactive.symm.trans ha) (by nofun)

theorem StationAway.report (h : StationAway st s.line) (r : Report) : StationAway st (s.report r).line := by
  rw [s.report_eq r]
  exact h

theorem StationAway.show (h : StationAway st s.line) (c : ShowCode) (n : Nat) : StationAway st (s.show c n).line :=
  StationAway.hand (s := s.setSale { s.sale with lastShow := (c, n) }) h panel (showRequest (c, n))

theorem StationAway.handPart (h : StationAway st s.line) (who : StationId) : StationAway st (s.handPart who).line := by
  unfold State.handPart
  split
  · exact StationAway.hand (s := s.setCash { s.cash with handed := s.cash.handed.withPart s.cash.acceptance who }) h
      who _
  · exact h

theorem StationAway.recomputeSet (h : StationAway st s.line) : StationAway st s.recomputeSet.line :=
  ((StationAway.handPart (s := s.setCash { s.cash with acceptance := acceptSet s }) h coinMech).handPart
    validator).handPart reader

theorem StationAway.refreshSet (h : StationAway st s.line) : StationAway st s.refreshSet.line :=
  StationAway.recomputeSet (StationAway.recomputeSet h)

theorem StationAway.eventEnd (h : StationAway st s.line) (before : State) :
    StationAway st (s.eventEnd before).line := by
  have h1 : StationAway st (s.creditEnd before).line := by
    unfold State.creditEnd
    split
    · exact h
    · exact h.report _
  refine StationAway.refreshSet ?_
  unfold State.panelEnd
  split
  · exact h1.show _ _
  · exact h1

/-! ### What ends a step -/

theorem State.transmit_line (s : State) : s.transmit.line = s.line := by
  fun_cases State.transmit s <;> rfl

theorem StationAway.send (h : StationAway st s.line) {who : StationId} (r : LineRequest)
    (hw : who ≠ st ∨ r.kind = .join) : StationAway st (s.send who r).line := by
  by_cases hk : r.kind = .join
  · have hl : (s.send who r).line.stations = s.line.stations ∧ (s.send who r).line.queue = s.line.queue := by
      rw [State.send]
      dsimp only
      rw [if_pos hk]
      exact ⟨rfl, rfl⟩
    exact ⟨hl.1 ▸ h.inactive, hl.1 ▸ h.idle, hl.2 ▸ h.unqueued⟩
  · have hne : who.val ≠ st.val := fun hc => (hw.resolve_right hk) (Fin.ext hc)
    have hl : (s.send who r).line.stations[st] = s.line.stations[st] ∧
        (s.send who r).line.queue = s.line.queue := by
      rw [State.send]
      dsimp only
      rw [if_neg hk]
      exact ⟨by simp [State.setStation, hne], rfl⟩
    exact ⟨by rw [hl.1]; exact h.inactive, by rw [hl.1]; exact h.idle, hl.2 ▸ h.unqueued⟩

/-- An eligible station is ACTIVE (R172). -/
theorem StationAway.ne_of_eligible (h : StationAway st s.line) {who : StationId} {now : Nat}
    (he : (s.line.stations[who]).eligible now = true) : who ≠ st := by
  rintro rfl
  rw [Station.eligible, h.inactive] at he
  cases he

/-- R172: the station polled next is eligible. -/
theorem State.nextPolled_eligible {who : StationId} (h : s.nextPolled = some who) :
    (s.line.stations[who]).eligible s.now = true := by
  unfold State.nextPolled at h
  have he := List.find?_some h
  exact he

theorem StationAway.pollSlot (h : StationAway st s.line) : StationAway st s.pollSlot.line := by
  have h1 : StationAway st (s.setLine { s.line with nextSlot := .command }).line := ⟨h.inactive, h.idle, h.unqueued⟩
  unfold State.pollSlot
  dsimp only
  split
  · exact StationAway.send h1 _ (.inr rfl)
  · split
    · rename_i who hwho
      have hne : who ≠ st := h1.ne_of_eligible (State.nextPolled_eligible hwho)
      refine StationAway.send (s := State.setLine _ _) ?_ _ (.inl hne)
      exact ⟨h.inactive, h.idle, h.unqueued⟩
    · exact ⟨h.inactive, h.idle, h.unqueued⟩

/-- R172: the entry a command slot sends is of an eligible station. -/
theorem State.commandEntry_eligible {p : QueueEntry × List QueueEntry} (h : s.commandEntry = some p) :
    (s.line.stations[p.1.station]).eligible s.now = true := by
  have key : ∀ c : FrameClass, takeEntry (fun e => decide (e.request.kind.cls = c) && s.sendable e) s.line.queue =
      some p → (s.line.stations[p.1.station]).eligible s.now = true := fun c hc => by
    have hp := takeEntry_passes hc
    simp only [Bool.and_eq_true, State.sendable] at hp
    exact hp.2.1
  unfold State.commandEntry at h
  rcases Option.or_eq_some_iff.mp h with h | ⟨-, h⟩
  · rcases Option.or_eq_some_iff.mp h with h | ⟨-, h⟩
    · exact key _ h
    · exact key _ h
  · exact key _ h

theorem StationAway.beginSlot (h : StationAway st s.line) : StationAway st s.beginSlot.line := by
  unfold State.beginSlot
  split
  · split
    · exact h.pollSlot
    · split
      · rename_i p hp
        have hne : p.1.station ≠ st := h.ne_of_eligible (State.commandEntry_eligible hp)
        refine StationAway.send (s := State.setLine _ _) ?_ _ (.inl hne)
        exact ⟨h.inactive, h.idle, fun e he => h.unqueued e ((State.commandEntry_spec hp).2 e he)⟩
      · exact h.pollSlot
  · exact h

theorem StationAway.stepEnd (h : StationAway st s.line) : StationAway st s.stepEnd.line := by
  refine StationAway.beginSlot ?_
  rw [State.transmit_line]
  refine StationAway.refreshSet ?_
  rw [State.transmit_line]
  exact h

end

end Sys2Proof.Machine
end

section
/-! SUPPORT. The ends of an exchange but for items (R167, R168, R170, R171). -/

namespace Sys2Proof.Laws
open Sys2Proof Sys2Proof.Machine

/-! ### The outstanding request afterwards -/

/-- A request outstanding stays so. -/
theorem kept_of_links {u t : State} {st : StationId} {q : LineRequest} (l : LinksOnly u t)
    (h : (u.line.stations[st]).outstanding = some q) : (t.line.stations[st]).outstanding = some q := by
  rcases l.outstanding st with ho | ⟨ho, -⟩
  · exact ho.trans h
  · rw [ho] at h
    cases h

/-- Where none was outstanding, one that is now is the exchange just begun. -/
theorem cleared_of_links {u t : State} {st : StationId} (l : LinksOnly u t)
    (h : (u.line.stations[st]).outstanding = none) :
    (t.line.stations[st]).outstanding = none ∨ ∃ y : Exchange, t.line.phase = .exchange y ∧ y.station = st ∧
      (t.line.stations[st]).outstanding = some y.request :=
  (l.outstanding st).imp (fun ho => ho.trans h) And.right

/-! ### A miss (R170) -/

theorem flagUnknown_eq (s : State) (b : Bool) :
    s.flagUnknown b = s.setPort { s.port with
      conditions := if b then s.port.conditions.flag .kindUnknown else s.port.conditions } := by
  cases b <;> rfl

theorem exec_miss {s : State} {x : Exchange} {c : Instr} {flag : Bool} (hp : s.line.phase = .exchange x)
    (hc : (c = .replyWindowExpiry ∧ flag = false) ∨
      ∃ bytes : List Byte, c = .replyGap bytes ∧ (flag = true ↔ judgeReply x bytes = .miss true)) :
    exec c s = finish (s.advanceTo x.windowEnd) (missTaken x ((s.advanceTo x.windowEnd).flagUnknown flag)) := by
  rcases hc with ⟨rfl, rfl⟩ | ⟨bytes, rfl, hf⟩
  · show execReplyWindowExpiry s = _
    rw [execReplyWindowExpiry, hp]
    rfl
  · have hg : gapUnknown x bytes = flag := by
      rw [gapUnknown, Bool.eq_iff_iff, decide_eq_true_iff, hf]
    show execReplyGap s bytes = _
    rw [execReplyGap, hp]
    dsimp only
    rw [hg]
    rfl

theorem missTaken_join {x : Exchange} (h : x.request.kind = .join) (s : State) :
    missTaken x s = endExchange (s.probeLater x.station) := by
  rw [missTaken, if_pos h]

theorem missTaken_few {x : Exchange} {s : State} (h : x.request.kind ≠ .join)
    (hm : (s.line.stations[x.station]).misses + 1 < 3) :
    missTaken x s = endExchange (s.setStation x.station
      { s.line.stations[x.station] with misses := (s.line.stations[x.station]).misses + 1 }) := by
  rw [missTaken, if_neg h]
  dsimp only
  rw [if_neg (by omega)]

/-! ### A station that leaves ACTIVE (R171) -/

/-- R171, steps 1 and 2: the station's record, and no entry of it in the queue. -/
def stationLeft (s : State) (st : StationId) : State :=
  (s.setStation st ((s.line.stations[st]).gone s.now)).setQueue (s.line.queue.filter fun e => !decide (e.station = st))

theorem stationLeft_away (s : State) (st : StationId) : StationAway st (stationLeft s st).line := by
  have hs : (stationLeft s st).line.stations[st] = (s.line.stations[st]).gone s.now := by
    simp [stationLeft]
  refine ⟨by rw [hs]; rfl, by rw [hs]; rfl, fun e he => ?_⟩
  simpa using (List.mem_filter.mp he).2

theorem discarded_grows (s : State) (st : StationId) (r : LineRequest) (sent : Bool) (cause : DiscardCause) :
    PortGrows s.port (s.discarded st r sent cause).port := s.report_grows _ rfl

theorem foldl_discarded (st : StationId) (cause : DiscardCause) : ∀ (l : List QueueEntry) (s : State),
    ∃ q, PortGrows s.port q ∧ l.foldl (fun s e => s.discarded st e.request false cause) s = s.setPort q
  | [], s => ⟨s.port, .refl _, rfl⟩
  | e :: l, s => by
    obtain ⟨q, hq, h⟩ := foldl_discarded st cause l (s.discarded st e.request false cause)
    have h1 : s.discarded st e.request false cause = s.setPort (s.discarded st e.request false cause).port :=
      s.report_eq _
    refine ⟨q, (discarded_grows s st e.request false cause).trans hq, h.trans ?_⟩
    rw [h1]
    rfl

theorem leaveActive_eq (st : StationId) (cause : StationCause) (s : State) :
    ∃ q, PortGrows s.port q ∧
      leaveActive st cause s = ((stationLeft s st).setPort q, ownersTold st ++ [.stationGone st cause]) := by
  obtain ⟨q, hq, h⟩ := foldl_discarded st (discardCause cause)
    (s.line.queue.filter fun e => decide (e.station = st) && e.isRelay) (stationLeft s st)
  have hs : PortGrows s.port q := hq
  unfold leaveActive
  dsimp only
  split
  · split
    · rename_i r _ _
      refine ⟨(((stationLeft s st).setPort q).discarded st r true (discardCause cause)).port,
        hs.trans (discarded_grows ((stationLeft s st).setPort q) _ _ _ _),
        congrArg (·, ownersTold st ++ [Job.stationGone st cause]) ?_⟩
      rw [show (s.setStation st _).setQueue _ = stationLeft s st from rfl, h]
      exact ((stationLeft s st).setPort q).report_eq _
    · exact ⟨q, hs, congrArg (·, ownersTold st ++ [Job.stationGone st cause]) h⟩
  · exact ⟨q, hs, congrArg (·, ownersTold st ++ [Job.stationGone st cause]) h⟩

/-- R20, R34: what the loss of a station takes with it, no payout, stacking or CASHLESS sale being under way. -/
def ownersLost (s : State) (st : StationId) : State :=
  (s.setEscrow (if st = validator then .empty else s.cash.escrow)).setCard
    (if st = reader then .absent else s.card)

theorem LinksOnly.ownersLost {s t : State} (l : LinksOnly s t) (st : StationId) :
    LinksOnly (ownersLost s st) (ownersLost t st) := by
  unfold Laws.ownersLost
  rw [l.escrow, l.card]
  exact (l.setEscrow _).setCard _

theorem payLost_idle {s : State} (h : s.payout.phase = .idle) : payLost s = (s, []) := by
  rw [payLost, h]
  rfl

theorem escrowLost_apart {s : State}
    (h : ∀ b v limit, s.cash.escrow ≠ .stackWait b v limit ∧ s.cash.escrow ≠ .stacking b v limit) :
    escrowLost s = (s.setEscrow .empty, []) := by
  unfold escrowLost
  split
  · rename_i he
    rw [← he]
    rfl
  · rfl
  · rfl
  · exact absurd ‹_› (h _ _ _).1
  · exact absurd ‹_› (h _ _ _).2

theorem owners_runs {s : State} {st : StationId} {js : List Job} (hp : s.payout.phase = .idle)
    (he : ∀ b v limit, s.cash.escrow ≠ .stackWait b v limit ∧ s.cash.escrow ≠ .stacking b v limit)
    (hs : ∀ sale, s.sale.current = some sale → sale.source = .cash) :
    ∃ k ≤ 2, Runs k (s, ownersTold st ++ js) (ownersLost s st, js) := by
  by_cases h0 : st = coinMech
  · subst h0
    exact ⟨1, by decide, Runs.quiet (payLost_idle hp)⟩
  by_cases h1 : st = validator
  · subst h1
    exact ⟨1, by decide, Runs.quiet (escrowLost_apart he)⟩
  by_cases h2 : st = reader
  · subst h2
    have hlost : ownersLost s reader = s.setCard .absent := rfl
    rw [hlost]
    show ∃ k ≤ 2, Runs k (s, .cardGone :: js) (s.setCard .absent, js)
    by_cases hc : s.card = .absent
    · have hsame : s.setCard .absent = s := by rw [← hc]; rfl
      rw [hsame]
      refine ⟨1, by decide, Runs.quiet ?_⟩
      show cardClose s = _
      rw [cardClose, hc]
      rfl
    · have h1 : runOne .cardGone s = (s.setCard .absent, [.cardLost]) := by
        show cardClose s = _
        unfold cardClose
        split
        · exact absurd ‹_› hc
        · rfl
      exact ⟨2, le_refl _, (Runs.step h1).trans (Runs.quiet (cardLost_apart (s := s.setCard .absent) hs))⟩
  · have htold : ownersTold st = [] := by
      unfold ownersTold
      split
      · exact absurd (Fin.ext ‹_›) h0
      · exact absurd (Fin.ext ‹_›) h1
      · exact absurd (Fin.ext ‹_›) h2
      · rfl
    have hlost : ownersLost s st = s := by
      rw [ownersLost, if_neg h1, if_neg h2]
      rfl
    refine ⟨0, by decide, fun n => ?_⟩
    rw [htold, hlost]
    rfl

theorem thirdMiss {s before : State} {x : Exchange} (hk : x.request.kind ≠ .join)
    (hm : 3 ≤ (s.line.stations[x.station]).misses + 1) (hdue : s.line.restartDue = false)
    (hp : s.payout.phase = .idle)
    (he : ∀ b v limit, s.cash.escrow ≠ .stackWait b v limit ∧ s.cash.escrow ≠ .stacking b v limit)
    (hs : ∀ sale, s.sale.current = some sale → sale.source = .cash) :
    ∃ t, finish before (missTaken x s) = .next t ∧
      LinksOnly (ownersLost (stationLeft s x.station).lineIdle x.station) t ∧ StationAway x.station t.line := by
  let s1 := s.setStation x.station { s.line.stations[x.station] with misses := (s.line.stations[x.station]).misses + 1 }
  have h0 : missTaken x s = (s1.lineIdle, [.leaveActive x.station .misses]) := by
    rw [missTaken, if_neg hk]
    dsimp only
    rw [if_pos hm, endExchange_quiet (s := s1) hdue]
  obtain ⟨q, hq, hleave⟩ := leaveActive_eq x.station .misses s1.lineIdle
  have hleft : stationLeft s1.lineIdle x.station = (stationLeft s x.station).lineIdle := by
    simp [stationLeft, State.lineIdle, s1, Station.gone, State.setStation, State.setQueue, State.setLine]
  rw [hleft] at hleave
  let a := ((stationLeft s x.station).lineIdle).setPort q
  obtain ⟨k, hk2, howners⟩ := owners_runs (s := a) (st := x.station) (js := [.stationGone x.station .misses]) hp he hs
  let w := (ownersLost a x.station).stationReport x.station .misses .none
  have hgone : runOne (.stationGone x.station .misses) (ownersLost a x.station) = (w, []) := rfl
  have hleft1 : Runs 1 (s1.lineIdle, [.leaveActive x.station .misses])
      (a, ownersTold x.station ++ [.stationGone x.station .misses]) := by
    have h := Runs.step (j := .leaveActive x.station .misses) (js := []) hleave
    rwa [List.append_nil] at h
  have hruns := (hleft1.trans howners).trans (Runs.quiet hgone)
  have hw : runOut (missTaken x s) = w := by
    rw [h0]
    exact hruns.runOut (by omega)
  have hwl : LinksOnly (ownersLost (stationLeft s x.station).lineIdle x.station) w :=
    (LinksOnly.ownersLost (LinksOnly.ofPort (stationLeft s x.station).lineIdle q hq) x.station).trans
      (.stationReport _ _ _ _)
  have haway : StationAway x.station w.line := by
    have hl : w.line = (stationLeft s x.station).lineIdle.line := by simp [w, a, ownersLost]
    have h := stationLeft_away s x.station
    rw [hl]
    exact ⟨h.inactive, h.idle, h.unqueued⟩
  refine ⟨_, rfl, ?_, ?_⟩
  · rw [event, hw]
    exact hwl.trans (.ends _ _)
  · rw [event, hw]
    exact (haway.eventEnd before).stepEnd

end Sys2Proof.Laws
end

section
/-! SUPPORT. The claim of the ends of an exchange (R167 to R171). -/

namespace Sys2Proof.Laws
open Sys2Proof Sys2Proof.Machine

/-! ### A REPLY without items, a WAIT and a JOIN -/

theorem reply_noItem {s : State} {x : Exchange} {bytes payload : List Byte} {unknown : Bool}
    (hp : s.line.phase = .exchange x) (hdue : s.line.restartDue = false)
    (hj : judgeReply x bytes = .reply payload [] unknown) (hk : x.request.kind ≠ .join) :
    ∃ t, exec (.replyReceived bytes) s = .next t ∧
      LinksOnly ((answeredBy s x.station).flagUnknown unknown).lineIdle t := by
  let v := s.replyTaken x payload unknown
  obtain ⟨hm, hcalm, -⟩ := mirror_next (answeredBy s x.station) x payload
  have hmirror : LinksOnly (answeredBy s x.station) ((answeredBy s x.station).mirror x payload) := by
    rw [hm]
    exact .ofPort _ _ hcalm.toPortGrows
  have hv : LinksOnly ((answeredBy s x.station).flagUnknown unknown) v := by
    cases unknown
    · exact hmirror
    · exact hmirror.flag .kindUnknown
  have hdue' : v.line.restartDue = false := by
    rw [hv.restartDue]
    cases unknown <;> exact hdue
  have hph : ((answeredBy s x.station).flagUnknown unknown).line.phase ≠ .idle := by
    have : ((answeredBy s x.station).flagUnknown unknown).line.phase = .exchange x := by
      cases unknown <;> exact hp
    rw [this]
    nofun
  refine ⟨(v.lineIdle.eventEnd v).stepEnd, ?_, (hv.lineIdle hph).trans (.ends _ _)⟩
  show execReplyReceived bytes s = _
  rw [execReplyReceived, hp]
  dsimp only
  rw [hj, exchangeEnds, takeReply, if_neg hk, takeItems, event, endExchange_runs hdue']

theorem wait_ends {s : State} {x : Exchange} {bytes : List Byte} (hp : s.line.phase = .exchange x)
    (hdue : s.line.restartDue = false) (hj : judgeReply x bytes = .wait) (hk : x.request.kind ≠ .join)
    (hw : s.now < (s.line.stations[x.station]).waitSince.getD s.now + 5000) :
    ∃ t, exec (.replyReceived bytes) s = .next t ∧
      LinksOnly (s.setStation x.station ((s.line.stations[x.station]).waited s.now)).lineIdle t := by
  have htaken : waitTaken x s =
      ((s.setStation x.station ((s.line.stations[x.station]).waited s.now)).lineIdle, []) := by
    rw [waitTaken, if_neg hk]
    dsimp only
    rw [endExchange_quiet (s := s.setStation x.station _) hdue, if_neg]
    exact Nat.not_le.mpr hw
  obtain ⟨t, ht, l⟩ := finish_links s (waitTaken x s)
  refine ⟨t, ?_, ?_⟩
  · show execReplyReceived bytes s = _
    rw [execReplyReceived, hp]
    dsimp only
    rw [hj]
    exact ht
  · rw [htaken, runOut_nil] at l
    exact l

theorem firstFrames_links (s : State) (st : StationId) : LinksOnly s (s.firstFrames st) := by
  have hadmit : LinksOnly s ((s.setCash { s.cash with handed := s.cash.handed.withPart s.cash.acceptance st }).hand st
      (admitRequest s.cash.acceptance st)) := (LinksOnly.ofSet s _ _).trans (.hand _ _ _ rfl)
  unfold State.firstFrames
  dsimp only
  split
  · exact hadmit.trans (.hand _ _ _ rfl)
  · exact hadmit
  · exact hadmit
  · exact .hand _ _ _ rfl
  · exact .refl s

theorem join_ends {s : State} {x : Exchange} {bytes : List Byte} {role level : Byte}
    (hp : s.line.phase = .exchange x) (hdue : s.line.restartDue = false)
    (hj : judgeReply x bytes = .reply [role, level] [] false) (hk : x.request.kind = .join) (hl : level ≠ 0#8)
    (hr : rightRole x.station role = true) :
    ∃ t, exec (.replyReceived bytes) s = .next t ∧
      LinksOnly (s.setStation x.station ((s.line.stations[x.station]).joined role level)).lineIdle t := by
  obtain ⟨hm, hcalm, -⟩ := mirror_next s x [role, level]
  let v := joinReply x.station role level (s.mirror x [role, level])
  have hv : LinksOnly (s.setStation x.station ((s.line.stations[x.station]).joined role level)) v := by
    show LinksOnly _ (joinReply x.station role level (s.mirror x [role, level]))
    rw [hm, joinReply]
    dsimp only
    rw [if_pos hr, if_neg hl]
    exact ((LinksOnly.ofPort (s.setStation x.station _) _ hcalm.toPortGrows).trans (.stationReport _ _ _ _)).trans
      (firstFrames_links _ _)
  refine ⟨(v.lineIdle.eventEnd v).stepEnd, ?_, (hv.lineIdle (by rw [State.setStation_line, hp]; nofun)).trans
    (.ends _ _)⟩
  show execReplyReceived bytes s = _
  rw [execReplyReceived, hp]
  dsimp only
  rw [hj, exchangeEnds, takeReply, if_pos hk, event,
    endExchange_runs (s := joinTaken x [role, level] s) (hv.restartDue.trans hdue)]
  rfl

/-! ### A miss but the third -/

theorem fewMisses {s before : State} {x : Exchange} (hk : x.request.kind ≠ .join)
    (hm : (s.line.stations[x.station]).misses + 1 < 3) (hdue : s.line.restartDue = false) :
    ∃ t, finish before (missTaken x s) = .next t ∧ LinksOnly (s.setStation x.station
      { s.line.stations[x.station] with misses := (s.line.stations[x.station]).misses + 1 }).lineIdle t := by
  obtain ⟨t, ht, l⟩ := finish_links before (missTaken x s)
  rw [missTaken_few hk hm, endExchange_runs (s := s.setStation x.station _) hdue] at l
  exact ⟨t, ht, l⟩

theorem joinMiss {s before : State} {x : Exchange} (hk : x.request.kind = .join) (hdue : s.line.restartDue = false) :
    ∃ t, finish before (missTaken x s) = .next t ∧ LinksOnly (s.probeLater x.station).lineIdle t := by
  obtain ⟨t, ht, l⟩ := finish_links before (missTaken x s)
  rw [missTaken_join hk, endExchange_runs (s := s.probeLater x.station) hdue] at l
  exact ⟨t, ht, l⟩

/-! ### The claim -/

theorem rightRole_of {st : StationId} {role : Byte} (h : 4 ≤ st.val ∨ role.toNat = st.val + 1) :
    rightRole st role = true := by
  rw [rightRole, Bool.or_eq_true, decide_eq_true_iff, decide_eq_true_iff]
  exact h

/-- Settles O48: each end of an exchange is one event, the miss's from the moment of its window's end. -/
theorem exchangeEnds : Obligations.ExchangeEnds := by
  unfold Obligations.ExchangeEnds
  intro s x hp hdue
  refine ⟨?_, ?_, ?_, ?_⟩
  · intro bytes payload unknown hj hk
    obtain ⟨t, ht, l⟩ := reply_noItem hp hdue hj hk
    rw [flagUnknown_eq] at l
    have hout : (((answeredBy s x.station)).line.stations[x.station]).outstanding = none := by
      rw [answeredBy_station]
      rfl
    refine ⟨t, ht, ?_, cleared_of_links l hout⟩
    simpa only [answeredBy, State.lineIdle, State.setPort, State.setLine, State.setStation, Station.answered] using l
  · intro bytes hj hk hw
    obtain ⟨t, ht, l⟩ := wait_ends hp hdue hj hk hw
    refine ⟨t, ht, ?_, fun q hq => kept_of_links l (by simpa [State.lineIdle, Station.waited] using hq)⟩
    simpa only [State.lineIdle, State.setLine, State.setStation, Station.waited, Config.retryAfter] using l
  · intro bytes role level hj hk hl hr
    obtain ⟨t, ht, l⟩ := join_ends hp hdue hj hk hl (rightRole_of hr)
    refine ⟨t, ht, ?_, cleared_of_links l (by simp [State.lineIdle, Station.joined])⟩
    simpa only [State.lineIdle, State.setLine, State.setStation, Station.joined] using l
  · intro c flag hc
    have hexec := exec_miss hp hc
    rw [flagUnknown_eq, State.advanceTo_port] at hexec
    refine ⟨?_, ?_, ?_⟩
    · intro hk hm
      obtain ⟨t, ht, l⟩ := fewMisses (before := s.advanceTo x.windowEnd) (s := (s.advanceTo x.windowEnd).setPort _) hk
        (by simpa using hm) (by simpa using hdue)
      refine ⟨t, hexec.trans ht, ?_, fun q hq => kept_of_links l (by simpa [State.lineIdle] using hq)⟩
      simpa only [State.lineIdle, State.setLine, State.setStation, State.setPort, State.advanceTo_line] using l
    · intro hk hm hpay hesc hsale
      obtain ⟨t, ht, l, haway⟩ := thirdMiss (before := s.advanceTo x.windowEnd)
        (s := (s.advanceTo x.windowEnd).setPort _) hk (by simpa using hm) (by simpa using hdue) (by simpa using hpay)
        (by simpa using hesc) (by simpa using hsale)
      refine ⟨t, hexec.trans ht, ?_, haway.idle, haway.unqueued⟩
      simpa only [ownersLost, stationLeft, Station.gone, State.lineIdle, State.setLine, State.setStation,
        State.setQueue, State.setEscrow, State.setCard, State.setCash, State.setPort, State.advanceTo_line,
        State.advanceTo_cash, State.advanceTo_card, Config.probeAfter] using l
    · intro hk
      obtain ⟨t, ht, l⟩ := joinMiss (before := s.advanceTo x.windowEnd) (s := (s.advanceTo x.windowEnd).setPort _) hk
        (by simpa using hdue)
      refine ⟨t, hexec.trans ht, ?_, fun q hq => kept_of_links l (by simpa [State.lineIdle, State.probeLater] using hq)⟩
      simpa only [State.probeLater, State.lineIdle, State.setLine, State.setStation, State.setPort,
        State.advanceTo_line, Config.probeAfter] using l

end Sys2Proof.Laws
end

section
/-! SUPPORT. An accepted selection, from its checks to the stage it begins (R94 to R106). -/

namespace Sys2Proof.Laws
open Sys2Proof Sys2Proof.Machine

/-! ### The checks (R94, R95) -/

theorem checkSale_accepts {b : State} {i : SelectionId} {src : Source} (hmode : b.mode.effective = .vend)
    (hsale : b.sale.current = none) (hpay : b.payout.phase = .idle) (hlen : b.port.reports.length < 20)
    (hsensor : b.drive.sensor = .clear) (hsells : b.map.selectionSells i = true)
    (hsrc : paySource b b.map.selections[i].price = some src) : checkSale b i = .accepted src := by
  have hidle : (!(b.saleIdle && b.payIdle)) = false := by simp [State.saleIdle, State.payIdle, hsale, hpay]
  have hopen : (!b.reserveOpen) = false := by rw [b.reserveOpen_iff.mpr hlen]; rfl
  unfold checkSale
  dsimp only
  rw [if_neg (not_not.mpr hmode), if_neg (by rw [hidle]; nofun), if_neg (by rw [hopen]; nofun),
    if_neg (not_not.mpr hsensor), if_neg (by rw [hsells]; nofun), hsrc]

theorem paySource_cash {b : State} {p : Nat} (h : p ≤ b.ledger.credit + b.cash.escrow.value) :
    paySource b p = some .cash := by
  rw [paySource, if_pos (show p ≤ b.funds from h)]

theorem paySource_cashless {b : State} {p : Nat} (h : b.ledger.credit + b.cash.escrow.value < p)
    (hc : b.ledger.credit = 0) (he : b.cash.escrow.full = false)
    (hcard : b.card = .present none ∨ ∃ f, b.card = .present (some f) ∧ p ≤ f) : paySource b p = some .cashless := by
  rw [paySource, if_neg (Nat.not_le.mpr (show b.funds < p from h)), if_pos ⟨hc, he⟩]
  rcases hcard with hcard | ⟨f, hcard, hf⟩
  · rw [hcard]
  · rw [hcard]
    dsimp only
    rw [if_pos hf]

/-! ### The SELECT around an acceptance (R96) -/

/-- R93, R96: an accepted SELECT is the acceptance, and its ANSWER last. -/
theorem selectRequest_accepts {b : State} {n : Nat} {i : SelectionId} {src : Source} (hn : n = i.val)
    (h : checkSale b i = .accepted src) :
    selectRequest n b = ((acceptSale .servicePort i src b).1, (acceptSale .servicePort i src b).2 ++
      [.soldAnswer (nextSaleNumber b.sale.lastNumber) src]) := by
  subst hn
  unfold selectRequest
  rw [dif_pos i.isLt, h]

/-- A request that ends with the ANSWER of a sale. -/
theorem select_sold {s u v : State} {h : ReqHeader} {n : Byte} {k number : Nat} {src : Source} (ht : s.takes h)
    (hruns : Runs k (selectRequest n.toNat (s.noteHeader h)) (v, [.soldAnswer number src])) (hk : k < 8192)
    (hu : PortAside u v) :
    ∃ (t : State) (p : Port), (exec (.select h n) s = .next t ∧
      ∃ a, t.newestAnswer = some a ∧ a.kind = .select ∧ a.code = .ok ∧ a.data = .sold number src) ∧
      LinksOnly (u.setPort p) t := by
  let w := v.answer .select .ok (.sold number src)
  have hsold : runOne (.soldAnswer number src) v = (w, []) := rfl
  have hw : runOut (selectRequest n.toNat (s.noteHeader h)) = w := (hruns.trans (Runs.quiet hsold)).runOut hk
  obtain ⟨t, hfin, l, -⟩ := finish_aside (before := s) hw (hu.trans (.answer _ _ _ _))
  refine ⟨t, w.port, ⟨?_, { kind := .select, code := .ok, conditions := v.port.conditions, data := .sold number src },
    ?_, rfl, rfl, rfl⟩, l⟩
  · show takeRequest h .select (selectRequest n.toNat) s = _
    rw [takeRequest_taken h .select _ s ht]
    exact hfin
  · obtain rfl : (event s (selectRequest n.toNat (s.noteHeader h))).stepEnd = t := Host.Outcome.next.inj hfin
    rw [event, hw]
    exact State.ends_newestAnswer w s _ rfl

/-! ### A try that starts at once (R104, R106, R73) -/

theorem newAttempt_eq (s : State) (r : DriveRequester) (c : ColumnId) (turns : Nat) (judging : Bool) :
    newAttempt s r c turns judging = startedAttempt s r c turns judging := by
  unfold newAttempt startedAttempt Attempt.energise
  cases hc : s.pins.homeClosed[c]
  · simp [Attempt.enterTurning, Config.openCheck, Config.turnLimit, Config.jamCurrent, Config.jamRun]
    rfl
  · simp [Config.openCheck, Config.leaveHome]

/-- R68: the column a search finds sells. -/
theorem columnSells_of_search {m : SelMap} {i : SelectionId} {tried : List ColumnId} {c : ColumnId}
    (h : m.search i tried = some c) : m.columnSells c = true := by
  unfold SelMap.search at h
  have hs := List.find?_some h
  exact (Bool.and_eq_true_iff.mp hs).1

theorem saleTry_starts {v : State} {x : Sale} {c : ColumnId} {js : List Job} (hx : v.sale.current = some x)
    (hsearch : v.map.search x.selection (x.tried.map Try.column) = some c) (hready : SpiralReady v)
    (hd : deferTo (.ask .spiral) js = none) :
    ∃ w, Runs 4 (v, .saleTry :: js) (w, js) ∧ PortAside (drivingState v x c) w := by
  obtain ⟨hq, hg, hf, hatt, hsensor⟩ := hready
  let x1 : Sale := { x with stage := .loadWait, chosen := some c, approvalLimit := none
                            loadLimit := some (v.now + Config.loadLimit) }
  let x2 : Sale := { x with stage := .driving, chosen := some c, loadLimit := none, approvalLimit := none }
  have h1 : runOne .saleTry v = ((v.setCurrentSale (some x1)).show .vending x.price, [.load (.ask .spiral)]) := by
    show saleTry v = _
    rw [saleTry, hx]
    dsimp only
    rw [hsearch]
  have l : LinksOnly (v.setCurrentSale (some x1)) ((v.setCurrentSale (some x1)).show .vending x.price) := .show _ _ _
  generalize (v.setCurrentSale (some x1)).show .vending x.price = v1 at h1 l
  have hload : v1.load = v.load := l.load
  have hdrive : v1.drive = v.drive := l.drive
  have hmap : v1.map = v.map := l.map
  have hcur : v1.sale.current = some x1 := l.sale
  have h2 := ask_runs (s := v1) (who := .spiral) (js := js) (hload ▸ hq) (hload ▸ hg) (hload ▸ hf) hd
  rw [hload] at h2
  let v2 := v1.setLoad { v.load with grants := v.load.grants ++ [{ holder := .spiral, units := 2 }] }
  have h3 : runOne (.give .spiral 2) v2 = ((v2.setCurrentSale (some x2)).startSale c, []) := by
    show saleGiven v2 = _
    have hcheck : startCheck v2 c = .taken := by
      have hd2 : v2.drive = v.drive := hdrive
      have hm2 : v2.map = v.map := hmap
      rw [startCheck, hd2, hm2, hatt, if_neg (by nofun), if_neg (not_not.mpr hsensor),
        if_pos (columnSells_of_search hsearch)]
    rw [saleGiven, show v2.sale.current = some x1 from hcur]
    dsimp only [x1]
    rw [hcheck]
    rfl
  refine ⟨_, (((Runs.step h1).trans h2).trans (Runs.step h3)).trans (handDone_runs _ js), ?_⟩
  have hstart : (v2.setCurrentSale (some x2)).startSale c =
      (v2.setCurrentSale (some x2)).setDrive { v.drive with
        attempt := some (startedAttempt v .sale c (v.map.columns[c]).turns true) } := by
    have hpins : v1.pins = v.pins := l.pins
    have hnow : v1.now = v.now := l.now
    rw [State.startSale, newAttempt_eq]
    simp [State.setAttempt, startedAttempt, v2, hpins, hnow, hmap, hdrive]
  rw [hstart]
  exact ((((l.aside.setLoad _).setCurrentSale (some x2))).setDrive _)

end Sys2Proof.Laws
end

section
/-! SUPPORT. The four ways in which an accepted SELECT starts its sale (R96). -/

namespace Sys2Proof.Laws
open Sys2Proof Sys2Proof.Machine

/-- R96, step 1: the sale's record, and its number taken. -/
def saleTaken (b : State) (i : SelectionId) (src : Source) : State :=
  b.setSale { b.sale with current := some (newSale b .servicePort i src)
                          lastNumber := (newSale b .servicePort i src).number }

/-- R96, step 2: the hold of a CASH sale within credit. -/
def saleHeld (b : State) (i : SelectionId) : State :=
  (saleTaken b i .cash).setLedger { b.ledger with credit := b.ledger.credit - b.map.selections[i].price
                                                  hold := b.map.selections[i].price }

theorem acceptSale_held {b : State} {i : SelectionId} (hc : b.map.selections[i].price ≤ b.ledger.credit)
    (hh : b.ledger.hold = 0) :
    acceptSale .servicePort i .cash b = enterStage (newSale b .servicePort i .cash) (saleHeld b i) := by
  have hl := takeHold_fits hh hc
  unfold acceptSale
  dsimp only
  rw [if_pos (show (newSale b .servicePort i .cash).price ≤ b.ledger.credit from hc)]
  exact congrArg (fun l => enterStage (newSale b .servicePort i .cash) ((saleTaken b i .cash).setLedger l)) hl

/-- R96, R104: a CASH sale within credit, the supply being free. -/
theorem acceptSale_drives {b : State} {i : SelectionId} {c : ColumnId} {js : List Job}
    (hc : b.map.selections[i].price ≤ b.ledger.credit) (hh : b.ledger.hold = 0)
    (ha : b.map.selections[i].approval = .none) (hsearch : b.map.search i [] = some c) (hr : SpiralReady b)
    (hd : deferTo (.ask .spiral) js = none) :
    ∃ w, Runs 4 ((acceptSale .servicePort i .cash b).1, (acceptSale .servicePort i .cash b).2 ++ js) (w, js) ∧
      PortAside (drivingState (saleHeld b i) (newSale b .servicePort i .cash) c) w := by
  have h : acceptSale .servicePort i .cash b = (saleHeld b i, [.saleTry]) := by
    rw [acceptSale_held hc hh, enterStage, show (newSale b .servicePort i .cash).approval = .none from ha]
    rfl
  rw [h]
  exact saleTry_starts (v := saleHeld b i) (x := newSale b .servicePort i .cash) rfl hsearch hr hd

/-- R96, R98: a sale with HOST approval. -/
theorem acceptSale_hosts {b : State} {i : SelectionId} {js : List Job}
    (hc : b.map.selections[i].price ≤ b.ledger.credit) (hh : b.ledger.hold = 0)
    (ha : b.map.selections[i].approval = .host) :
    ∃ w, Runs 0 ((acceptSale .servicePort i .cash b).1, (acceptSale .servicePort i .cash b).2 ++ js) (w, js) ∧
      PortAside ((saleHeld b i).setCurrentSale (some { newSale b .servicePort i .cash with
        stage := .hostApproval, approvalLimit := some (b.now + 10000) })) w := by
  have h : acceptSale .servicePort i .cash b = (hostAsked ((saleHeld b i).setCurrentSale
      (some { newSale b .servicePort i .cash with
        stage := .hostApproval, approvalLimit := some (b.now + 10000) })) (newSale b .servicePort i .cash), []) := by
    rw [acceptSale_held hc hh, enterStage_host (x := newSale b .servicePort i .cash) ha]
    rfl
  rw [h]
  exact ⟨_, fun _ => rfl, hostAsked_aside _ _⟩

/-- R96, R101: a CASHLESS sale. -/
theorem acceptSale_asks {b : State} {i : SelectionId} {js : List Job}
    (ha : b.map.selections[i].approval = .none) :
    ∃ w, Runs 0 ((acceptSale .servicePort i .cashless b).1, (acceptSale .servicePort i .cashless b).2 ++ js) (w, js) ∧
      PortAside (((saleTaken b i .cashless).setLine (b.hand reader (chargeAskRequest
        (newSale b .servicePort i .cashless).number b.map.selections[i].price i)).line).setCurrentSale
          (some { newSale b .servicePort i .cashless with
            stage := .readerApproval, told := .asked, approvalLimit := some (b.now + 30000) })) w := by
  let x := newSale b .servicePort i .cashless
  let r := chargeAskRequest x.number b.map.selections[i].price i
  let y : Sale := { x with stage := .readerApproval, told := .asked, approvalLimit := some (b.now + 30000) }
  let v := ((saleTaken b i .cashless).hand reader r).setCurrentSale (some y)
  have h : acceptSale .servicePort i .cashless b = (v.show .approving x.price, []) := by
    have he : acceptSale .servicePort i .cashless b = enterReader x (saleTaken b i .cashless) := by
      unfold acceptSale
      dsimp only
      rw [enterStage, show (newSale b .servicePort i .cashless).approval = .none from ha]
      rfl
    rw [he, enterReader]
    rfl
  have hline : ((saleTaken b i .cashless).hand reader r).line = (b.hand reader r).line := by
    rw [State.hand_line, State.hand_line]
    rfl
  have hl := (LinksOnly.hand_line (saleTaken b i .cashless) reader r).setCurrentSale (some y)
  rw [hline] at hl
  rw [h]
  exact ⟨_, fun _ => rfl, hl.aside.trans (LinksOnly.show v _ _).aside⟩

/-- R96, R15, R97: a CASH sale that needs the HELD bill. -/
theorem acceptSale_stacks {b : State} {i : SelectionId} {c : BillId} {v number : Nat} {src : Source}
    (he : b.cash.escrow = .held c v) (hc : b.ledger.credit < b.map.selections[i].price)
    (hq : b.load.requests = []) (hg : ∀ g ∈ b.load.grants, g.holder ≠ .stacking) (hf : 1 ≤ b.load.free) :
    ∃ w, Runs 5 ((acceptSale .servicePort i .cash b).1, (acceptSale .servicePort i .cash b).2 ++
        [.soldAnswer number src]) (w, [.soldAnswer number src]) ∧
      PortAside (((((saleTaken b i .cash).setCurrentSale
        (some { newSale b .servicePort i .cash with stage := .stacking })).setLoad
          { b.load with grants := b.load.grants ++ [{ holder := .stacking, units := 1 }] }).setLine
            (b.hand validator (.plain .keepBill)).line).setEscrow (.stacking c v (b.now + 8000))) w := by
  let y : Sale := { newSale b .servicePort i .cash with stage := .stacking }
  let v0 := (saleTaken b i .cash).setCurrentSale (some y)
  have h0 : acceptSale .servicePort i .cash b = (v0, [.stackAsk, .showStacking]) := by
    unfold acceptSale
    dsimp only
    rw [if_neg (Nat.not_le.mpr (show b.ledger.credit < (newSale b .servicePort i .cash).price from hc))]
    rfl
  let v1 := v0.setEscrow (.stackWait c v (b.now + 8000))
  have h1 : runOne .stackAsk v0 = (v1, [.load (.ask .stacking)]) := by
    show stackAsk v0 = _
    rw [stackAsk, show v0.cash.escrow = .held c v from he]
    rfl
  have h2 := ask_runs (s := v1) (who := .stacking) (js := [.showStacking, .soldAnswer number src]) hq hg hf rfl
  let v2 := v1.setLoad { b.load with grants := b.load.grants ++ [{ holder := .stacking, units := 1 }] }
  let v3 := (v2.hand validator (.plain .keepBill)).setEscrow (.stacking c v (b.now + 8000))
  have h3 : runOne (.give .stacking 1) v2 = (v3, []) := rfl
  have hcur : v3.sale.current = some y := by
    show (v2.hand validator (.plain .keepBill)).sale.current = some y
    rw [v2.hand_eq validator (.plain .keepBill)]
    rfl
  have h5 : runOne .showStacking v3 = (v3.show .vending y.price, []) := by
    show (v3.showStacking.only : Out) = _
    rw [State.showStacking, hcur]
    rfl
  have hline : (v2.hand validator (.plain .keepBill)).line = (b.hand validator (.plain .keepBill)).line := by
    rw [State.hand_line, State.hand_line]
    rfl
  have hl := (LinksOnly.hand_line v2 validator (.plain .keepBill)).setEscrow (.stacking c v (b.now + 8000))
  rw [hline] at hl
  rw [h0]
  exact ⟨_, ((((Runs.step h1).trans h2).trans (Runs.quiet h3)).trans (handDone_runs _ _)).trans (Runs.quiet h5),
    hl.aside.trans (LinksOnly.show v3 _ _).aside⟩

end Sys2Proof.Laws
end

section
/-! SUPPORT. The claim of an accepted SELECT. -/

namespace Sys2Proof.Laws
open Sys2Proof Sys2Proof.Machine

/-- A request's header note is the port's alone, and no report. -/
theorem noteHeader_port (s : State) (h : ReqHeader) :
    ∃ q, s.noteHeader h = s.setPort q ∧ q.reports = s.port.reports := by
  unfold State.noteHeader
  split
  · exact ⟨_, rfl, rfl⟩
  · exact ⟨s.port, rfl, rfl⟩

theorem nextSaleNumber_eq (n : Nat) : (if 65535 ≤ n then 1 else n + 1) = nextSaleNumber n := rfl

theorem hand_setPort_line (s : State) (q : Port) (st : StationId) (r : LineRequest) :
    ((s.setPort q).hand st r).line = (s.hand st r).line := by
  rw [State.hand_line, State.hand_line]
  rfl

/-- Settles O36: one acceptance for each of the four ways, between the checks and the ANSWER. -/
theorem acceptedSelectStartsSale : Obligations.AcceptedSelectStartsSale := by
  unfold Obligations.AcceptedSelectStartsSale
  intro s h n i c ht hn hmode hsale hpay hlen hsensor hsells hsearch
  obtain ⟨q, hb, hqr⟩ := noteHeader_port s h
  have hselect : ∀ src, paySource s s.map.selections[i].price = some src →
      selectRequest n.toNat (s.noteHeader h) = ((acceptSale .servicePort i src (s.setPort q)).1,
        (acceptSale .servicePort i src (s.setPort q)).2 ++
          [.soldAnswer (nextSaleNumber s.sale.lastNumber) src]) := fun src hsrc => by
    rw [hb]
    exact selectRequest_accepts hn (checkSale_accepts (b := s.setPort q) hmode hsale hpay (hqr ▸ hlen) hsensor hsells
      hsrc)
  refine ⟨?_, ?_, ?_, ?_⟩
  · intro hc hh ha hr
    obtain ⟨w, hruns, hu⟩ := acceptSale_drives (b := s.setPort q)
      (js := [.soldAnswer (nextSaleNumber s.sale.lastNumber) .cash]) hc hh ha hsearch hr rfl
    rw [← hselect .cash (paySource_cash (hc.trans (Nat.le_add_right _ _)))] at hruns
    obtain ⟨t, p, hsold, l⟩ := select_sold ht hruns (by decide) hu
    refine ⟨t, p, hsold, ?_⟩
    have hport : (drivingState (saleHeld (s.setPort q) i) (newSale (s.setPort q) .servicePort i .cash) c).setPort p =
        (drivingState (saleHeld s i) (newSale s .servicePort i .cash) c).setPort p := rfl
    rw [hport] at l
    rw [nextSaleNumber_eq]
    exact l
  · intro hc hh ha
    obtain ⟨w, hruns, hu⟩ := acceptSale_hosts (b := s.setPort q)
      (js := [.soldAnswer (nextSaleNumber s.sale.lastNumber) .cash]) hc hh ha
    rw [← hselect .cash (paySource_cash (hc.trans (Nat.le_add_right _ _)))] at hruns
    obtain ⟨t, p, hsold, l⟩ := select_sold ht hruns (by decide) hu
    refine ⟨t, p, hsold, ?_⟩
    rw [nextSaleNumber_eq]
    simpa only [saleHeld, saleTaken, newSale, State.setPort, State.setSale, State.setCurrentSale, State.setLedger]
      using l
  · intro hc hz he ha hcard
    obtain ⟨w, hruns, hu⟩ := acceptSale_asks (b := s.setPort q)
      (js := [.soldAnswer (nextSaleNumber s.sale.lastNumber) .cashless]) ha
    rw [← hselect .cashless (paySource_cashless hc hz he hcard)] at hruns
    obtain ⟨t, p, hsold, l⟩ := select_sold ht hruns (by decide) hu
    refine ⟨t, p, hsold, ?_⟩
    have hline := hand_setPort_line s q reader
    rw [hline] at l
    rw [nextSaleNumber_eq]
    simpa only [saleTaken, newSale, chargeAskRequest, State.setPort, State.setSale, State.setCurrentSale,
      State.setLine] using l
  · intro b v he hc hf hq hg hfree
    obtain ⟨w, hruns, hu⟩ := acceptSale_stacks (b := s.setPort q) (number := nextSaleNumber s.sale.lastNumber)
      (src := .cash) he hc hq hg hfree
    have hfunds : s.map.selections[i].price ≤ s.ledger.credit + s.cash.escrow.value := by
      rw [he]
      exact hf
    rw [← hselect .cash (paySource_cash hfunds)] at hruns
    obtain ⟨t, p, hsold, l⟩ := select_sold ht hruns (by decide) hu
    refine ⟨t, p, hsold, ?_⟩
    have hline := hand_setPort_line s q validator
    rw [hline] at l
    rw [nextSaleNumber_eq]
    simpa only [saleTaken, newSale, State.setPort, State.setSale, State.setCurrentSale, State.setLine,
      State.setLoad, State.setEscrow, State.setCash] using l

end Sys2Proof.Laws
end

section
/-! SUPPORT. What the planner's commands are taken from (R39, R40, R42). -/

namespace Sys2Proof.Laws
open Sys2Proof Sys2Proof.Machine

theorem mem_rankInsert {t u : RankedTube} : ∀ {l : List RankedTube}, u ∈ rankInsert t l → u = t ∨ u ∈ l
  | [], h => .inl (List.mem_singleton.mp h)
  | w :: ws, h => by
    unfold rankInsert at h
    split at h
    · exact List.mem_cons.mp h
    · rcases List.mem_cons.mp h with rfl | h
      · exact .inr List.mem_cons_self
      · exact (mem_rankInsert h).imp_right (List.mem_cons_of_mem _)

/-- R39: a ranked tube carries its tube's own value, which is not 0, and available count. -/
theorem rankTubes_mem {cash : Cash} {avail : Tube → Nat} {t : RankedTube} (h : t ∈ rankTubes cash avail) :
    t.value = (cash.tubes[t.tube]).value cash.coins ∧ t.value ≠ 0 ∧ t.avail = avail cash.tubes[t.tube] := by
  unfold rankTubes at h
  generalize allTubes = l at h
  induction l with
  | nil => cases h
  | cons n ns ih =>
    rw [List.foldr_cons] at h
    dsimp only at h
    split at h
    · exact ih h
    · rename_i hv
      rcases mem_rankInsert h with rfl | h
      · exact ⟨rfl, hv, rfl⟩
      · exact ih h

/-- R39: the ranking reads the tube table and the coin values alone. -/
theorem rankTubes_congr {a b : Cash} (ht : a.tubes = b.tubes) (hc : a.coins = b.coins) (avail : Tube → Nat) :
    rankTubes a avail = rankTubes b avail := by
  unfold rankTubes
  rw [ht, hc]

/-- R3: a tube with a value has a coin type of that value. -/
theorem coinType_of_value {coins : Vector MoneyType 16} {t : Tube} (h : t.value coins ≠ 0) :
    ∃ c, t.coinType = some c ∧ coins[c].value = t.value coins := by
  unfold Tube.value at h ⊢
  cases hc : t.coinType with
  | none =>
    rw [hc] at h
    exact absurd rfl h
  | some c => exact ⟨c, rfl, rfl⟩

theorem pickCount_le (v rest m : Nat) : ∀ k, pickCount v rest m k ≤ k
  | 0 => le_refl _
  | k + 1 => by
    unfold pickCount
    split
    · exact le_refl _
    · exact (pickCount_le v rest m k).trans (Nat.le_succ k)

/-- R39: a plan takes no more coins of a tube than are available. -/
theorem planFor_mem {p : RankedTube × Nat} : ∀ {tubes : List RankedTube} {rest : Nat},
    p ∈ tubes.zip (planFor rest tubes) → p.1 ∈ tubes ∧ p.2 ≤ p.1.avail
  | [], _, h => by cases h
  | t :: ts, rest, h => by
    rw [planFor, List.zip_cons_cons] at h
    rcases List.mem_cons.mp h with rfl | h
    · exact ⟨List.mem_cons_self, (pickCount_le _ _ _ _).trans (min_le_left _ _)⟩
    · obtain ⟨ht, hp⟩ := planFor_mem h
      exact ⟨List.mem_cons_of_mem _ ht, hp⟩

/-- R42: a command of a split is of its tube and value, and of no more coins. -/
theorem splitCoins_mem {tube : TubeId} {value coins : Nat} {c : PayCmd} (h : c ∈ splitCoins tube value coins) :
    c.tube = tube ∧ c.value = value ∧ c.coins ≤ coins := by
  rcases List.mem_append.mp h with h | h
  · obtain ⟨hne, rfl⟩ := List.mem_replicate.mp h
    refine ⟨rfl, rfl, ?_⟩
    by_contra hlt
    exact hne (Nat.div_eq_of_lt (Nat.not_le.mp hlt))
  · split at h
    · cases h
    · obtain rfl := List.mem_singleton.mp h
      exact ⟨rfl, rfl, Nat.mod_le _ _⟩

theorem splitCoins_nil {tube : TubeId} {value coins : Nat} (h : splitCoins tube value coins = []) : coins = 0 := by
  obtain ⟨hrep, hrest⟩ := List.append_eq_nil_iff.mp h
  have hdiv : coins / Config.payMax = 0 := by simpa using hrep
  have hmod : coins % Config.payMax = 0 := by
    by_contra hne
    rw [if_neg hne] at hrest
    cases hrest
  rw [← Nat.div_add_mod coins Config.payMax, hdiv, hmod, Nat.mul_zero]

/-- R42, R41: with no command a plan pays nothing. -/
theorem makePlan_noCommands {amount : Nat} {tubes : List RankedTube}
    (h : planCommands (makePlan amount tubes).plan = []) : (makePlan amount tubes).shortfall = amount := by
  have hzero : planTotal (makePlan amount tubes).plan = 0 := by
    unfold planTotal
    rw [List.sum_eq_zero_iff]
    intro n hn
    obtain ⟨p, hp, rfl⟩ := List.mem_map.mp hn
    have hs := List.flatMap_eq_nil_iff.mp h p hp
    rw [splitCoins_nil hs, Nat.zero_mul]
  show amount - planTotal (makePlan amount tubes).plan = amount
  rw [hzero, Nat.sub_zero]

theorem makePlan_shortfall_le (amount : Nat) (tubes : List RankedTube) :
    (makePlan amount tubes).shortfall ≤ amount := Nat.sub_le _ _

/-- R42: a command of a plan is of a ranked tube, of its value, and of no more coins than are available. -/
theorem planCommands_mem {amount : Nat} {tubes : List RankedTube} {c : PayCmd}
    (h : c ∈ planCommands (makePlan amount tubes).plan) :
    ∃ t ∈ tubes, c.tube = t.tube ∧ c.value = t.value ∧ c.coins ≤ t.avail := by
  obtain ⟨p, hp, hc⟩ := List.mem_flatMap.mp h
  obtain ⟨ht, hk⟩ := planFor_mem hp
  obtain ⟨htube, hvalue, hcoins⟩ := splitCoins_mem hc
  exact ⟨p.1, ht, htube, hvalue, hcoins.trans hk⟩

/-- R45: a command of the plan just made holds against the tube table. -/
theorem commandHolds_of_plan {s : State} {amount : Nat} {c : PayCmd}
    (h : c ∈ planCommands (makePlan amount (rankTubes s.cash payoutAvail)).plan)
    (ht : s.payout.typesAtPlan = typesOf s.cash (rankTubes s.cash payoutAvail)) : commandHolds s c = true := by
  obtain ⟨⟨n, v, a⟩, hmem, htube, hvalue, hcoins⟩ := planCommands_mem h
  obtain rfl : c.tube = n := htube
  obtain ⟨hv, hne, havail⟩ := rankTubes_mem hmem
  dsimp only at hvalue hcoins hv hne havail
  rw [hv] at hne hvalue
  obtain ⟨k, hk, hkv⟩ := coinType_of_value hne
  have hin : (c.tube, k) ∈ typesOf s.cash (rankTubes s.cash payoutAvail) :=
    List.mem_filterMap.mpr ⟨_, hmem, by rw [hk]; rfl⟩
  have hcount : c.coins ≤ (s.cash.tubes[c.tube]).count := by
    rw [havail] at hcoins
    exact hcoins
  unfold commandHolds
  rw [ht]
  dsimp only
  cases hf : (typesOf s.cash (rankTubes s.cash payoutAvail)).find? fun p => decide (p.1 = c.tube) with
  | none => exact absurd (List.find?_eq_none.mp hf _ hin) (by simp)
  | some p =>
    have hp : p.1 = c.tube := by simpa using List.find?_some hf
    obtain ⟨u, -, hu⟩ := List.mem_filterMap.mp (List.mem_of_find?_eq_some hf)
    obtain ⟨k', hk', rfl⟩ := Option.map_eq_some_iff.mp hu
    obtain rfl : k' = k := by
      simp only [show u.tube = c.tube from hp, hk] at hk'
      exact (Option.some.inj hk').symm
    dsimp only
    rw [hk, hvalue, ← hkv, decide_eq_true hcount, decide_eq_true rfl, decide_eq_true rfl]
    rfl

end Sys2Proof.Laws
end

section
/-! SUPPORT. The start of a change operation, to its end where nothing can be paid and else to its first PAY (R44,
R45). -/

namespace Sys2Proof.Laws
open Sys2Proof Sys2Proof.Machine

/-- R44: the operation begun. -/
def payBegun (f : State) : State := f.setPayout { Payout.powerOn with phase := .plan }

theorem payTell_starts {f : State} (hi : f.payout.phase = .idle) (hp : 0 < f.ledger.pending) :
    runOne .payTell f = payStart f := by
  show payTell f = _
  rw [payTell, if_pos ⟨by simp [State.payIdle, hi], hp⟩]

/-- R44, R28, R51: the whole pending payout owed, and the operation over. -/
def wholeOwed (f : State) : State :=
  (f.setLedger { f.ledger with pending := 0
                               changeOwed := f.ledger.changeOwed + BitVec.ofNat 32 f.ledger.pending }).setPayout
    Payout.powerOn

/-- R44: the whole pending payout owed, before the operation's end. -/
def wholeOwing (f : State) (P : Payout) : State :=
  (f.setLedger { f.ledger with
    pending := 0, changeOwed := f.ledger.changeOwed + BitVec.ofNat 32 f.ledger.pending }).setPayout P

theorem wholeOwing_ends {f : State} {P : Payout} (hm : P.manual = false) (hp : P.paid = 0)
    (ho : P.owed = f.ledger.pending) (he : P.entries = []) (hr : f.sale.pendingReturn = false) :
    ∃ w, Runs 2 (wholeOwing f P, [.payEnd]) (w, []) ∧ PortAside (wholeOwed f) w ∧ w.port.slot = f.port.slot ∧
      (f.port.reports.length < 32 → .payoutDone { occasion := .ending, manual := false, paid := 0
                                                  owed := f.ledger.pending, entries := [] } ∈ w.port.reports) := by
  have hruns := payEnd_runs (s := wholeOwing f P) (js := []) rfl hr
  rw [show (wholeOwing f P).payout = P from rfl, hm, hp, ho, he] at hruns
  refine ⟨_, hruns, ?_, State.report_slot _ _, fun hlen => ?_⟩
  · exact LinksOnly.setPayout (PortAside.report (wholeOwing f P) _) Payout.powerOn
  · show _ ∈ ((wholeOwing f P).payoutDone _ _ _ _ _).port.reports
    rw [State.payoutDone, State.report_joins rfl (show (wholeOwing f P).port.reports.length < 32 from hlen)]
    exact List.mem_append_right _ List.mem_cons_self

/-- R28: the whole of a pending payout owed. -/
theorem owe_whole (l : Ledger) :
    l.owe l.pending = { l with changeOwed := l.changeOwed + BitVec.ofNat 32 l.pending, pending := 0 } := by
  rw [Ledger.owe, min_self, Nat.sub_self]

/-- R44: the plan made for the whole pending payout. -/
def planMade (s : State) : PlanResult := makePlan s.ledger.pending (rankTubes s.cash payoutAvail)

/-- R44: the record with the plan's commands. -/
def planned (s : State) : Payout :=
  { s.payout with phase := .plan, inFlight := none, limit := none, remaining := planCommands (planMade s).plan
                  typesAtPlan := typesOf s.cash (rankTubes s.cash payoutAvail) }

theorem payPlan_none {s : State} (h : planCommands (planMade s).plan = []) :
    payPlan s = (((s.setPayout (planned s)).setLedger (s.ledger.owe (planMade s).shortfall)).setPayout
      { planned s with owed := s.payout.owed + (planMade s).shortfall }, [.payEnd]) := by
  unfold payPlan
  exact if_pos (List.isEmpty_iff.mpr h)

theorem payPlan_exact {s : State} (h : planCommands (planMade s).plan ≠ []) (hs : (planMade s).shortfall = 0) :
    payPlan s = (s.setPayout (planned s), [.payNext]) := by
  unfold payPlan
  exact (if_neg (fun hc => h (List.isEmpty_iff.mp hc))).trans (if_pos hs)

theorem payPlan_short {s : State} (h : planCommands (planMade s).plan ≠ []) (hs : (planMade s).shortfall ≠ 0) :
    payPlan s = (((s.setPayout (planned s)).setLedger (s.ledger.owe (planMade s).shortfall)).payoutDone .shortfall
      false 0 (planMade s).shortfall [], [.payNext]) := by
  unfold payPlan
  exact (if_neg (fun hc => h (List.isEmpty_iff.mp hc))).trans (if_neg hs)

/-- R28: what is owed of a pending payout that is no less. -/
theorem owe_le {l : Ledger} {x : Nat} (h : x ≤ l.pending) :
    l.owe x = { l with changeOwed := l.changeOwed + BitVec.ofNat 32 x, pending := l.pending - x } := by
  rw [Ledger.owe, min_eq_left h]

/-- R44: with station 1 away, or with nothing that can be paid, the whole is owed and the operation ends. -/
theorem payStart_owes {f : State} (hi : f.payout.phase = .idle) (hp : 0 < f.ledger.pending)
    (hr : f.sale.pendingReturn = false) (h : f.active coinMech = false ∨
      planCommands (makePlan f.ledger.pending (rankTubes f.cash payoutAvail)).plan = []) :
    ∃ w, (∃ k ≤ 4, Runs k (f, [.payTell]) (w, [])) ∧ PortAside (wholeOwed f) w ∧ w.port.slot = f.port.slot ∧
      (f.port.reports.length < 32 → .payoutDone { occasion := .ending, manual := false, paid := 0
                                                  owed := f.ledger.pending, entries := [] } ∈ w.port.reports) := by
  have htell := payTell_starts hi hp
  by_cases ha : f.active coinMech = true
  · have hstart : payStart f = (payBegun f, [.payPlan]) := by
      rw [payStart]
      dsimp only
      rw [if_pos ha]
      rfl
    have hnone : planCommands (planMade (payBegun f)).plan = [] := h.resolve_left (by rw [ha]; nofun)
    have hshort : (planMade (payBegun f)).shortfall = f.ledger.pending := makePlan_noCommands hnone
    have hplan : runOne .payPlan (payBegun f) = _ := payPlan_none hnone
    have howe : (payBegun f).ledger.owe f.ledger.pending = _ := owe_whole f.ledger
    rw [hshort, howe] at hplan
    obtain ⟨w, hw, haside, hmem⟩ := wholeOwing_ends (f := f)
      (P := { planned (payBegun f) with owed := 0 + f.ledger.pending }) rfl rfl (Nat.zero_add _) rfl hr
    exact ⟨w, ⟨4, le_refl _, ((Runs.step (htell.trans hstart)).trans (Runs.step hplan)).trans hw⟩, haside, hmem⟩
  · have hstart : payStart f = ((payBegun f).oweWhole, [.payEnd]) := by
      rw [payStart]
      dsimp only
      rw [if_neg ha]
      rfl
    have howe : (payBegun f).oweWhole =
        wholeOwing f { (payBegun f).payout with owed := 0 + f.ledger.pending } :=
      congrArg (fun l => (((payBegun f).setLedger l).setPayout { (payBegun f).payout with owed := 0 + f.ledger.pending }))
        (owe_whole f.ledger)
    rw [howe] at hstart
    obtain ⟨w, hw, haside, hmem⟩ := wholeOwing_ends (f := f)
      (P := { (payBegun f).payout with owed := 0 + f.ledger.pending }) rfl rfl (Nat.zero_add _) rfl hr
    exact ⟨w, ⟨3, by decide, (Runs.step (htell.trans hstart)).trans hw⟩, haside, hmem⟩

end Sys2Proof.Laws
end

section
/-! SUPPORT. The first PAY of a change operation (R44, R45). -/

namespace Sys2Proof.Laws
open Sys2Proof Sys2Proof.Machine

/-- R44: the plan made, its shortfall owed. -/
def planOwed (f : State) : State :=
  (f.setLedger { f.ledger with pending := f.ledger.pending - (planMade f).shortfall
                               changeOwed := f.ledger.changeOwed + BitVec.ofNat 32 (planMade f).shortfall }).setPayout
    (planned (payBegun f))

/-- R44: a plan with commands: its shortfall owed, and reported where there is one. -/
theorem payPlan_runs {f : State} (h : planCommands (planMade f).plan ≠ []) :
    ∃ q, runOne .payPlan (payBegun f) = ((planOwed f).setPort q, [.payNext]) ∧ q.slot = f.port.slot ∧
      (0 < (planMade f).shortfall → f.port.reports.length < 32 →
        .payoutDone { occasion := .shortfall, manual := false, paid := 0, owed := (planMade f).shortfall
                      entries := [] } ∈ q.reports) := by
  by_cases hs : (planMade f).shortfall = 0
  · refine ⟨f.port, (payPlan_exact (s := payBegun f) h hs).trans ?_, rfl, fun hpos => absurd hs hpos.ne'⟩
    have hl : (planOwed f).setPort f.port = (payBegun f).setPayout (planned (payBegun f)) := by
      rw [planOwed, hs, Nat.sub_zero, BitVec.add_zero]
      rfl
    rw [hl]
  · have howe : f.ledger.owe (planMade f).shortfall = _ := owe_le (makePlan_shortfall_le _ _)
    have hplan : runOne .payPlan (payBegun f) = _ := payPlan_short (s := payBegun f) h hs
    have howed : ((payBegun f).setPayout (planned (payBegun f))).setLedger
        ((payBegun f).ledger.owe (planMade (payBegun f)).shortfall) = planOwed f :=
      congrArg (fun l => ((payBegun f).setPayout (planned (payBegun f))).setLedger l) howe
    rw [howed] at hplan
    refine ⟨_, hplan.trans (congrArg (·, [Job.payNext]) ((planOwed f).report_eq _)),
      State.report_slot _ _, fun _ hlen => ?_⟩
    rw [State.report_joins rfl (show (planOwed f).port.reports.length < 32 from hlen)]
    exact List.mem_append_right _ List.mem_cons_self

/-- R45: the first command's record, the PAY handed. -/
def firstPaying (f : State) (first : PayCmd) (more : List PayCmd) (joined : Bool) : Payout :=
  { planned (payBegun f) with
    phase := .paying, inFlight := some first, remaining := more, limit := some (f.now + 30000)
    entries := [{ tube := first.tube, asked := first.coins, paid := 0, ending := none }], payJoined := joined }

/-- R45: the state with the first PAY handed and its unit granted. -/
def firstPaid (f : State) (first : PayCmd) (more : List PayCmd) (joined : Bool) : State :=
  (((planOwed f).setLoad { f.load with grants := f.load.grants ++ [{ holder := .payout, units := 1 }] }).setLine
    (f.hand coinMech (payRequest first)).line).setPayout (firstPaying f first more joined)

/-- The record and the port that a later one replaces do not matter. -/
theorem firstPaid_aside {u w : State} {q : Port} {P P' : Payout} {load : Load} {L : Line}
    (l : LinksOnly (((((u.setPort q).setPayout P').setLoad load).setLine L).setPayout P) w) :
    PortAside (((u.setLoad load).setLine L).setPayout P) w := l.aside

theorem payStart_pays {f : State} {first : PayCmd} {more : List PayCmd} (hi : f.payout.phase = .idle)
    (hp : 0 < f.ledger.pending) (ha : f.active coinMech = true)
    (hc : planCommands (planMade f).plan = first :: more) (hq : f.load.requests = [])
    (hg : ∀ g ∈ f.load.grants, g.holder ≠ .payout) (hf : 1 ≤ f.load.free) :
    ∃ (w : State) (joined : Bool), Runs 6 (f, [.payTell]) (w, []) ∧ PortAside (firstPaid f first more joined) w ∧
      w.port.slot = f.port.slot ∧
      (0 < (planMade f).shortfall → f.port.reports.length < 32 →
        .payoutDone { occasion := .shortfall, manual := false, paid := 0, owed := (planMade f).shortfall
                      entries := [] } ∈ w.port.reports) := by
  have hstart : payStart f = (payBegun f, [.payPlan]) := by
    rw [payStart]
    dsimp only
    rw [if_pos ha]
    rfl
  obtain ⟨q, hplan, hslot, hmem⟩ := payPlan_runs (f := f) (by rw [hc]; nofun)
  let g := (planOwed f).setPort q
  let g1 := g.setPayout { planned (payBegun f) with phase := .loadWait, inFlight := some first, remaining := more }
  have hfirst : first ∈ planCommands (planMade f).plan := by rw [hc]; exact List.mem_cons_self
  have hholds : commandHolds g first = true :=
    commandHolds_of_plan (s := g) (amount := f.ledger.pending) hfirst rfl
  have hnext : runOne .payNext g = (g1, [.load (.ask .payout)]) := by
    show payNext g = _
    rw [payNext, show g.payout.remaining = first :: more from hc]
    exact if_pos (.inr hholds)
  have hask := ask_runs (s := g1) (who := .payout) (js := []) hq hg hf rfl
  let g2 := g1.setLoad { f.load with grants := f.load.grants ++ [{ holder := .payout, units := 1 }] }
  let joined := (g2.handFrame coinMech (payRequest first)).2
  let w := (g2.hand coinMech (payRequest first)).setPayout (firstPaying f first more joined)
  have hgive : runOne (.give .payout 1) g2 = (w, []) := by
    have hpay : (g2.hand coinMech (payRequest first)).payout = g2.payout := by
      rw [g2.hand_eq coinMech (payRequest first)]
      rfl
    show payGiven g2 = _
    rw [payGiven, show g2.payout.phase = .loadWait from rfl, show g2.payout.inFlight = some first from rfl]
    dsimp only
    rw [handFrame_fst, hpay]
    rfl
  refine ⟨w, joined, ((((Runs.step ((payTell_starts hi hp).trans hstart)).trans (Runs.step hplan)).trans
    (Runs.step hnext)).trans hask).trans ((Runs.quiet hgive).trans (handDone_runs w [])), ?_,
    (g2.hand_grows coinMech (payRequest first)).slot.trans hslot, fun hpos hlen => ?_⟩
  · have hline : (g2.hand coinMech (payRequest first)).line = (f.hand coinMech (payRequest first)).line := by
      rw [State.hand_line, State.hand_line]
      rfl
    have hl := (LinksOnly.hand_line g2 coinMech (payRequest first)).setPayout (firstPaying f first more joined)
    rw [hline] at hl
    exact firstPaid_aside hl
  · exact (g2.hand_grows coinMech (payRequest first)).mem (hmem hpos hlen)

end Sys2Proof.Laws
end

section
/-! SUPPORT. The LEVER (R111, R112). -/

namespace Sys2Proof.Laws
open Sys2Proof Sys2Proof.Machine

/-- A handed frame in its two parts: the line, and what the port may have to report. -/
theorem hand_parts (s : State) (st : StationId) (r : LineRequest) :
    s.hand st r = (s.setLine (s.hand st r).line).setPort (s.hand st r).port := by
  conv_lhs => rw [s.hand_eq st r]
  rw [s.hand_line st r, ← s.hand_queue st r]
  rfl

/-- R19, R20: what acting on a return does to the escrow and the line. -/
def EscrowReturned (s : State) (cash : Cash) (line : Line) : Prop :=
  ((∀ b v, s.cash.escrow ≠ .held b v) ∧ cash = s.cash ∧ line = s.line) ∨
    ∃ b v, s.cash.escrow = .held b v ∧
      ((s.line.stations[validator].active = true ∧ cash = { s.cash with escrow := .returning b v } ∧
          line = (s.hand validator (.plain .giveBack)).line) ∨
        (s.line.stations[validator].active = false ∧ cash = { s.cash with escrow := .empty } ∧ line = s.line))

theorem returnEscrow_returns {s : State} {cash : Cash} {line : Line} (p : Port) (u : SaleUnit)
    (h : EscrowReturned s cash line) :
    ∃ q, ((s.setPort p).setSale u).returnEscrow = (((s.setSale u).setCash cash).setLine line).setPort q ∧
      PortCalm p q := by
  let a := (s.setPort p).setSale u
  rcases h with ⟨hne, rfl, rfl⟩ | ⟨b, v, he, h⟩
  · refine ⟨p, ?_, .refl p⟩
    unfold State.returnEscrow
    split
    · exact absurd ‹_› (hne _ _)
    · rfl
  · have hgive : a.returnEscrow = a.giveBack b v := by
      rw [State.returnEscrow, show a.cash.escrow = .held b v from he]
    rcases h with ⟨ha, rfl, rfl⟩ | ⟨ha, rfl, rfl⟩
    · have hline : (a.hand validator (.plain .giveBack)).line = (s.hand validator (.plain .giveBack)).line := by
        rw [State.hand_line, State.hand_line]
        rfl
      refine ⟨(a.hand validator (.plain .giveBack)).port, ?_, a.hand_calm validator (.plain .giveBack)⟩
      rw [hgive, State.giveBack, if_pos (show a.active validator = true from ha), hand_parts a, hline]
      rfl
    · refine ⟨p, ?_, .refl p⟩
      rw [hgive, State.giveBack, if_neg (by rw [show a.active validator = false from ha]; nofun)]
      rfl

/-- R19: the tubes, the coins and the stations are as before. -/
theorem EscrowReturned.keeps {s : State} {cash : Cash} {line : Line} (h : EscrowReturned s cash line) :
    cash.tubes = s.cash.tubes ∧ cash.coins = s.cash.coins ∧ line.stations = s.line.stations := by
  rcases h with ⟨-, rfl, rfl⟩ | ⟨b, v, -, ⟨-, rfl, rfl⟩ | ⟨-, rfl, rfl⟩⟩
  · exact ⟨rfl, rfl, rfl⟩
  · exact ⟨rfl, rfl, by rw [State.hand_line]⟩
  · exact ⟨rfl, rfl, rfl⟩

/-- R112: the state in which the return has been acted on, before the ledger. -/
def leverLeft (s : State) (cash : Cash) (line : Line) : State :=
  ((s.setSale { s.sale with pendingReturn := false }).setCash cash).setLine line

/-- R27: the credit gone to pending payout. -/
def creditReleased (v : State) : State :=
  v.setLedger { v.ledger with credit := 0, pending := v.ledger.credit }

theorem leverRequest_eq (s : State) (h : ReqHeader) :
    leverRequest (s.noteHeader h) =
      leverPulled (s.setPort (answeredPort s h .lever .ok (.lever (!s.leverFree)))) := by
  have hfree : (s.noteHeader h).leverFree = s.leverFree := by
    simp [State.leverFree, State.saleIdle, State.payIdle]
  rw [leverRequest, hfree, State.noteHeader_answer]

theorem leverPulled_busy {a : State} (h : a.sale.current ≠ none ∨ a.payout.phase ≠ .idle) :
    a.leverFree = false ∧ leverPulled a = (a.setSale { a.sale with pendingReturn := true }, []) := by
  have hf : a.leverFree = false := by
    rw [State.leverFree, State.saleIdle, State.payIdle, Bool.and_eq_false_iff]
    rcases h with h | h
    · exact .inl (by simpa [Option.isSome_iff_ne_none] using h)
    · exact .inr (decide_eq_false h)
  exact ⟨hf, by rw [leverPulled, if_neg (by rw [hf]; nofun)]; rfl⟩

theorem leverFree_idle {a : State} (hs : a.sale.current = none) (hp : a.payout.phase = .idle) :
    a.leverFree = true := by
  simp [State.leverFree, State.saleIdle, State.payIdle, hs, hp]

/-- R111, R112: with both units IDLE the credit is released, and the payout unit told. -/
theorem lever_releases {s : State} {h : ReqHeader} {cash : Cash} {line : Line} (hs : s.sale.current = none)
    (hp : s.payout.phase = .idle) (hz : s.ledger.pending = 0) (hc : s.ledger.credit ≤ 65535)
    (he : EscrowReturned s cash line) :
    ∃ q, PortCalm (answeredPort s h .lever .ok (.lever false)) q ∧
      Runs 1 (leverRequest (s.noteHeader h)) (creditReleased ((leverLeft s cash line).setPort q), [.payTell]) := by
  let p := answeredPort s h .lever .ok (.lever false)
  obtain ⟨q, hq, hcalm⟩ := returnEscrow_returns p { s.sale with pendingReturn := false } he
  have hfree : s.leverFree = true := leverFree_idle hs hp
  have hreq : leverRequest (s.noteHeader h) = (s.setPort p, [.returnAct]) := by
    rw [leverRequest_eq, hfree]
    exact if_pos (leverFree_idle (a := s.setPort p) hs hp)
  have hrel : ((leverLeft s cash line).setPort q).releaseAll = creditReleased ((leverLeft s cash line).setPort q) := by
    rw [releaseAll_fits (s := (leverLeft s cash line).setPort q)
      (show s.ledger.pending + s.ledger.credit ≤ 65535 by omega)]
    have hsum : s.ledger.pending + s.ledger.credit = s.ledger.credit := by rw [hz, Nat.zero_add]
    exact congrArg (fun n => ((leverLeft s cash line).setPort q).setLedger
      { s.ledger with credit := 0, pending := n }) hsum
  have hact : runOne .returnAct (s.setPort p) = (creditReleased ((leverLeft s cash line).setPort q), [.payTell]) := by
    show ((((s.setPort p).setSale { s.sale with pendingReturn := false }).returnEscrow.releaseAll, [Job.payTell]) : Out) = _
    rw [hq]
    exact congrArg (·, [Job.payTell]) hrel
  refine ⟨q, hcalm, ?_⟩
  rw [hreq]
  exact Runs.step hact

/-- What a LEVER answers whose own effect runs to `w`. -/
theorem lever_answers {s u w : State} {h : ReqHeader} {k : Nat} {data : AnswerData} (ht : s.takes h)
    (hruns : Runs k (leverRequest (s.noteHeader h)) (w, [])) (hk : k ≤ 8192)
    (hslot : w.port.slot = some (answerTo s h .lever .ok data)) (hu : LinksOnly u w) :
    ∃ t, (exec (.lever h) s = .next t ∧ t.newestAnswer = some (answerTo s h .lever .ok data)) ∧ LinksOnly u t ∧
      LinksOnly w t := by
  have hw := hruns.runOut hk
  obtain ⟨t, hfin, l⟩ := finish_links s (leverRequest (s.noteHeader h))
  rw [hw] at l
  refine ⟨t, ⟨?_, ?_⟩, hu.trans l, l⟩
  · show takeRequest h .lever leverRequest s = _
    rw [takeRequest_taken h .lever _ s ht]
    exact hfin
  · obtain rfl : (event s (leverRequest (s.noteHeader h))).stepEnd = t := Host.Outcome.next.inj hfin
    rw [event, hw]
    exact State.ends_newestAnswer w s _ hslot

end Sys2Proof.Laws
end

section
/-! SUPPORT. The claim of a LEVER (R111, R112). -/

namespace Sys2Proof.Laws
open Sys2Proof Sys2Proof.Machine

/-- R111: a busy unit, and the return pends. -/
theorem lever_pends {s : State} {h : ReqHeader} (ht : s.takes h)
    (hb : s.sale.current ≠ none ∨ s.payout.phase ≠ .idle) :
    ∃ t, (exec (.lever h) s = .next t ∧ t.newestAnswer = some (answerTo s h .lever .ok (.lever true))) ∧
      LinksOnly ((s.setPort (answeredPort s h .lever .ok (.lever true))).setSale
        { s.sale with pendingReturn := true }) t := by
  let p := answeredPort s h .lever .ok (.lever true)
  have hreq : leverRequest (s.noteHeader h) = ((s.setPort p).setSale { s.sale with pendingReturn := true }, []) := by
    rw [leverRequest_eq, (leverPulled_busy (a := s) hb).1]
    exact (leverPulled_busy (a := s.setPort p) hb).2
  have hruns : Runs 0 (leverRequest (s.noteHeader h))
      ((s.setPort p).setSale { s.sale with pendingReturn := true }, []) := fun n => by
    rw [hreq]
    rfl
  obtain ⟨t, hans, l, -⟩ := lever_answers (data := .lever true) ht hruns (Nat.zero_le _) rfl (.refl _)
  exact ⟨t, hans, l⟩

theorem ledger_released_zero {l : Ledger} (hc : l.credit = 0) (hz : l.pending = 0) :
    ({ l with credit := 0, pending := l.credit } : Ledger) = l := by
  obtain ⟨c, hold, p, cashIn, settled, paid, owed⟩ := l
  obtain rfl : c = 0 := hc
  obtain rfl : p = 0 := hz
  rfl

/-- R27: with no credit and nothing pending the release changes nothing. -/
theorem creditReleased_zero {v : State} (hc : v.ledger.credit = 0) (hz : v.ledger.pending = 0) :
    creditReleased v = v := by
  rw [creditReleased, ledger_released_zero hc hz]
  rfl

/-- R44, R28: the ledger where all that was released is owed. -/
theorem allOwed_eq {l : Ledger} (hz : l.pending = 0) (x : BitVec 32) :
    ({ l with credit := 0, pending := 0, changeOwed := x } : Ledger) = { l with credit := 0, changeOwed := x } := by
  obtain ⟨c, hold, p, cashIn, settled, paid, owed⟩ := l
  obtain rfl : p = 0 := hz
  rfl

theorem firstPaying_eq (f : State) (first : PayCmd) (more : List PayCmd) (joined : Bool) :
    firstPaying f first more joined =
      { phase := .paying, manual := false, remaining := more, inFlight := some first
        typesAtPlan := typesOf f.cash (rankTubes f.cash payoutAvail), limit := some (f.now + 30000), paid := 0, owed := 0
        entries := [{ tube := first.tube, asked := first.coins, paid := 0, ending := none }]
        payJoined := joined } := rfl

/-- Settles O39: the return is released to the payout unit, which does nothing, owes all or pays. -/
theorem leverReturnsCredit : Obligations.LeverReturnsCredit := by
  unfold Obligations.LeverReturnsCredit
  intro s h ht
  refine ⟨fun hb => ?_, ?_⟩
  · obtain ⟨t, ⟨hexec, hans⟩, l⟩ := lever_pends ht hb
    exact ⟨t, hexec, l, hans⟩
  · intro cash line hsale hpay hz he
    have he' : EscrowReturned s cash line := he
    obtain ⟨htubes, hcoins, hstations⟩ := he'.keeps
    have hrank : rankTubes cash payoutAvail = rankTubes s.cash Tube.count := rankTubes_congr htubes hcoins _
    refine ⟨fun hc => ?_, fun hpos hmax => ?_⟩
    · obtain ⟨q, hcalm, hrel⟩ := lever_releases (h := h) hsale hpay hz (by omega) he'
      rw [creditReleased_zero (v := (leverLeft s cash line).setPort q) hc hz] at hrel
      have htell := payTell_runs (s := (leverLeft s cash line).setPort q) (js := []) fun _ => hz
      obtain ⟨t, hans, l, -⟩ := lever_answers (data := .lever false) ht (hrel.trans htell) (by decide) hcalm.slot
        (LinksOnly.ofPort ((leverLeft s cash line).setPort (answeredPort s h .lever .ok (.lever false))) q
          hcalm.toPortGrows)
      exact ⟨t, hans, l⟩
    · obtain ⟨q, hcalm, hrel⟩ := lever_releases (h := h) hsale hpay hz (by omega) he'
      let f := creditReleased ((leverLeft s cash line).setPort q)
      have hact : f.active coinMech = (s.line.stations[coinMech]).active := by
        show (line.stations[coinMech]).active = _
        rw [hstations]
      have hmade : planMade f = makePlan s.ledger.credit (rankTubes s.cash Tube.count) :=
        congrArg (makePlan s.ledger.credit) hrank
      have hlen : s.port.reports.length < 20 → f.port.reports.length < 32 := fun hl => by
        have hs : q.reports.length ≤ max s.port.reports.length 20 := hcalm.short
        show q.reports.length < 32
        omega
      refine ⟨fun hnone => ?_, fun first more ha hcmd hq hg hfree => ?_⟩
      · obtain ⟨w, ⟨k, hk, hruns⟩, hw, hslot, hmem⟩ := payStart_owes (f := f) hpay hpos rfl
          (hnone.imp (fun ha => hact.trans ha) fun hc => by
            show planCommands (planMade f).plan = []
            rw [hmade]
            exact hc)
        obtain ⟨t, hans, l, lw⟩ := lever_answers (data := .lever false) ht (hrel.trans hruns) (by omega)
          (hslot.trans hcalm.slot) hw
        refine ⟨t, w.port, hans, ?_, fun hl => lw.mem_outLine (hmem (hlen hl))⟩
        have hledger := allOwed_eq (l := s.ledger) hz
          (s.ledger.changeOwed + BitVec.ofNat 32 s.ledger.credit)
        rw [← hledger]
        simpa only [wholeOwed, f, creditReleased, leverLeft, State.setPort, State.setPayout, State.setLine,
          State.setLedger, State.setSale, State.setCash] using l
      · obtain ⟨w, joined, hruns, hw, hslot, hmem⟩ := payStart_pays (f := f) (first := first) (more := more) hpay hpos
          (hact.trans ha) (by rw [hmade]; exact hcmd) hq hg hfree
        rw [hmade] at hmem
        obtain ⟨t, hans, l, lw⟩ := lever_answers (data := .lever false) ht (hrel.trans hruns) (by decide)
          (hslot.trans hcalm.slot) hw
        refine ⟨t, w.port, joined, hans, ?_, fun hs hl => lw.mem_outLine (hmem hs (hlen hl))⟩
        have hline : (f.hand coinMech (payRequest first)).line = ((leverLeft s cash line).hand coinMech
            (payRequest first)).line := by
          rw [State.hand_line, State.hand_line]
          rfl
        have htypes : typesOf f.cash (rankTubes f.cash payoutAvail) =
            (rankTubes s.cash Tube.count).filterMap fun r =>
              (s.cash.tubes[r.tube]).coinType.map fun c => (r.tube, c) := by
          show typesOf cash (rankTubes cash payoutAvail) = _
          rw [hrank, typesOf, htubes]
        rw [firstPaid, firstPaying_eq, htypes, hline, planOwed, hmade] at l
        generalize makePlan s.ledger.credit (rankTubes s.cash Tube.count) = made at l ⊢
        simpa only [f, creditReleased, leverLeft, payRequest, State.setPort, State.setPayout, State.setLine,
          State.setLoad, State.setLedger, State.setSale, State.setCash] using l

end Sys2Proof.Laws
end

section
/-! SUPPORT. The credit ledger: which of its operations each inner step and each command makes, and what a command can
answer at all (R24 to R30). -/

namespace Sys2Proof.Laws
open Sys2Proof Sys2Proof.Machine

/-! ### Operations one after another (R24 to R28) -/

/-- One operation of the ledger. -/
inductive LedgerOp : Ledger → Ledger → Prop
  | deposit (l : Ledger) (v : Nat) : LedgerOp l (l.deposit v)
  | takeHold (l : Ledger) (p : Nat) : LedgerOp l (l.takeHold p)
  | returnHold (l : Ledger) : LedgerOp l l.returnHold
  | settle (l : Ledger) : LedgerOp l l.settle
  | releaseAll (l : Ledger) : LedgerOp l l.releaseAll
  | payBooked (l : Ledger) (x : Nat) : LedgerOp l (l.payBooked x)
  | owe (l : Ledger) (x : Nat) : LedgerOp l (l.owe x)

/-- Operations of the ledger, none or more, lead from one ledger to another. -/
def LedgerMoves : Ledger → Ledger → Prop := Relation.ReflTransGen LedgerOp

theorem LedgerMoves.trans {a b c : Ledger} (h : LedgerMoves a b) (k : LedgerMoves b c) : LedgerMoves a c :=
  Relation.ReflTransGen.trans h k

theorem LedgerMoves.op {a b : Ledger} (h : LedgerOp a b) : LedgerMoves a b := .single h

theorem LedgerMoves.of_eq {a b : Ledger} (h : b = a) : LedgerMoves a b := h ▸ .refl

section
variable (l : Ledger)

@[simp] theorem moves_refl : LedgerMoves l l := .refl
@[simp] theorem moves_deposit (v : Nat) : LedgerMoves l (l.deposit v) := .op (.deposit l v)
@[simp] theorem moves_takeHold (p : Nat) : LedgerMoves l (l.takeHold p) := .op (.takeHold l p)
@[simp] theorem moves_returnHold : LedgerMoves l l.returnHold := .op (.returnHold l)
@[simp] theorem moves_settle : LedgerMoves l l.settle := .op (.settle l)
@[simp] theorem moves_releaseAll : LedgerMoves l l.releaseAll := .op (.releaseAll l)
@[simp] theorem moves_payBooked (x : Nat) : LedgerMoves l (l.payBooked x) := .op (.payBooked l x)
@[simp] theorem moves_owe (x : Nat) : LedgerMoves l (l.owe x) := .op (.owe l x)
end

/-- What every operation keeps, operations one after another keep. -/
theorem LedgerMoves.keeps {Q : Ledger → Prop} (op : ∀ a b, LedgerOp a b → Q a → Q b) {a b : Ledger}
    (h : LedgerMoves a b) (ha : Q a) : Q b := by
  induction h with
  | refl => exact ha
  | tail _ hop ih => exact op _ _ hop ih

/-- R29: every operation keeps the identity. -/
theorem LedgerOp.kept {a b : Ledger} (h : LedgerOp a b) (ha : LedgerKept a) : LedgerKept b := by
  cases h with
  | deposit v => exact deposit_kept v ha
  | takeHold p => exact takeHold_kept p ha
  | returnHold => exact returnHold_kept ha
  | settle => exact settle_kept ha
  | releaseAll => exact releaseAll_kept ha
  | payBooked x => exact payBooked_kept x ha
  | owe x => exact owe_kept x ha

/-- R30: every operation keeps the ranges. -/
theorem LedgerOp.bounded {a b : Ledger} (h : LedgerOp a b) (ha : LedgerBounded a) : LedgerBounded b := by
  cases h with
  | deposit v => exact deposit_bounded v ha
  | takeHold p => exact takeHold_bounded p ha
  | returnHold => exact returnHold_bounded
  | settle => exact settle_bounded ha
  | releaseAll => exact releaseAll_bounded ha
  | payBooked x => exact payBooked_bounded x ha
  | owe x => exact owe_bounded x ha

/-! ### Inner steps that leave the ledger alone -/

section
variable (s : State)

@[simp] theorem loadStep_ledger (op : LoadOp) : (loadStep op s).1.ledger = s.ledger := by
  obtain ⟨l, hl, -⟩ := loadStep_eq op s
  rw [hl, State.setLoad_ledger]

@[simp] theorem tubeResult_ledger (n : TubeId) (f : Tube → Tube) : (s.tubeResult n f).ledger = s.ledger := by
  simp [State.tubeResult]

@[simp] theorem takeMap_ledger (m : SelMap) : (s.takeMap m).1.ledger = s.ledger := rfl
@[simp] theorem handHealth_ledger (z : ZoneId) (h : Health) : (s.handHealth z h).1.ledger = s.ledger := by
  fun_cases State.handHealth s z h <;> simp +zetaDelta
@[simp] theorem healthSample_ledger (z : ZoneId) (b : Bool) (c : Option ZoneCause) :
    (healthSample z b c s).1.ledger = s.ledger := by
  fun_cases healthSample z b c s <;> simp +zetaDelta
@[simp] theorem healthWrite_ledger (l : List (ZoneId × Health × ZoneCause)) :
    (healthWrite l s).1.ledger = s.ledger := rfl
@[simp] theorem zoneReport_ledger (z : ZoneId) (c : ZoneCause) : (s.zoneReport z c).ledger = s.ledger := by
  simp [State.zoneReport]

@[simp] theorem coolAct_ledger : (coolAct s).1.ledger = s.ledger := by
  fun_cases coolAct s <;> simp
@[simp] theorem lockoutTest_ledger : (lockoutTest s).1.ledger = s.ledger := by
  fun_cases lockoutTest s <;> simp
@[simp] theorem endHeating_ledger : (endHeating s).1.ledger = s.ledger := rfl
@[simp] theorem heatTest_ledger : (heatTest s).1.ledger = s.ledger := by
  fun_cases heatTest s <;> simp
@[simp] theorem heatPast_ledger : (heatPast s).1.ledger = s.ledger := by
  fun_cases heatPast s <;> simp
@[simp] theorem endDrip_ledger : (endDrip s).1.ledger = s.ledger := rfl
@[simp] theorem dripTest_ledger : (dripTest s).1.ledger = s.ledger := by
  fun_cases dripTest s <;> simp
@[simp] theorem compressorGiven_ledger : (compressorGiven s).1.ledger = s.ledger := by
  fun_cases compressorGiven s <;> simp
@[simp] theorem heaterGiven_ledger : (heaterGiven s).1.ledger = s.ledger := by
  fun_cases heaterGiven s <;> simp

@[simp] theorem payoutDone_ledger (o : Occasion) (m : Bool) (p w : Nat) (e : List TubeEntry) :
    (s.payoutDone o m p w e).ledger = s.ledger := by simp [State.payoutDone]
@[simp] theorem commandEnded_ledger (n : TubeId) (p v : Nat) (e : PayEnding) :
    (s.commandEnded n p v e).ledger = s.ledger := rfl
@[simp] theorem payNext_ledger : (payNext s).1.ledger = s.ledger := by
  fun_cases payNext s <;> simp
@[simp] theorem payGiven_ledger : (payGiven s).1.ledger = s.ledger := by
  fun_cases payGiven s <;> simp +zetaDelta
@[simp] theorem payLost_ledger : (payLost s).1.ledger = s.ledger := by
  fun_cases payLost s <;> simp
@[simp] theorem payEnd_ledger : (payEnd s).1.ledger = s.ledger := by simp [payEnd]
@[simp] theorem payCut_ledger : (payCut s).1.ledger = s.ledger := by
  fun_cases payCut s <;> simp

@[simp] theorem giveBack_ledger (b : BillId) (v : Nat) : (s.giveBack b v).ledger = s.ledger := by
  fun_cases State.giveBack s b v <;> simp
@[simp] theorem billEscrowed_ledger (b : BillId) : (billEscrowed b s).1.ledger = s.ledger := by
  fun_cases billEscrowed b s <;> simp
@[simp] theorem stackAsk_ledger : (stackAsk s).1.ledger = s.ledger := by
  fun_cases stackAsk s <;> simp
@[simp] theorem stackGiven_ledger : (stackGiven s).1.ledger = s.ledger := by
  fun_cases stackGiven s <;> simp
@[simp] theorem billStackedTail_ledger (b : BillId) (v : Nat) : (billStackedTail b v s).1.ledger = s.ledger := by
  fun_cases billStackedTail b v s <;> simp +zetaDelta
@[simp] theorem dropBillFrames_ledger : s.dropBillFrames.ledger = s.ledger := rfl
@[simp] theorem billReturned_ledger : (billReturned s).1.ledger = s.ledger := by
  fun_cases billReturned s <;> simp +zetaDelta
@[simp] theorem stackGaveUp_ledger : (stackGaveUp s).1.ledger = s.ledger := by
  unfold stackGaveUp
  split
  · split <;> simp
  · simp
@[simp] theorem stackUncertain_ledger : (stackUncertain s).1.ledger = s.ledger := by
  fun_cases stackUncertain s <;> simp
@[simp] theorem returnEscrow_ledger : s.returnEscrow.ledger = s.ledger := by
  fun_cases State.returnEscrow s <;> simp
@[simp] theorem escrowLost_ledger : (escrowLost s).1.ledger = s.ledger := by
  fun_cases escrowLost s <;> simp
@[simp] theorem cardOn_ledger (f : Option Nat) : (cardOn f s).1.ledger = s.ledger := rfl
@[simp] theorem cardClose_ledger : (cardClose s).1.ledger = s.ledger := by
  fun_cases cardClose s <;> simp

@[simp] theorem testGiven_ledger : (testGiven s).1.ledger = s.ledger := by
  fun_cases testGiven s <;> simp
@[simp] theorem testLeave_ledger : (testLeave s).1.ledger = s.ledger := by
  fun_cases testLeave s <;> simp
@[simp] theorem serviceLeft_ledger : (serviceLeft s).1.ledger = s.ledger := by simp [serviceLeft]
@[simp] theorem testResult_ledger (c : ColumnId) (o : TestOutcome) (d : DropField) (b : ColState) :
    (s.testResult c o d b).ledger = s.ledger := by simp [State.testResult]
@[simp] theorem testNever_ledger (c : ColumnId) (o : TestOutcome) : (s.testNever c o).ledger = s.ledger := by
  simp [State.testNever]

@[simp] theorem enterHost_ledger (x : Sale) : (enterHost x s).1.ledger = s.ledger := by simp [enterHost]
@[simp] theorem enterReader_ledger (x : Sale) : (enterReader x s).1.ledger = s.ledger := by simp [enterReader]
@[simp] theorem enterReaderOrTry_ledger (x : Sale) : (enterReaderOrTry x s).1.ledger = s.ledger := by
  fun_cases enterReaderOrTry x s <;> simp
@[simp] theorem enterStage_ledger (x : Sale) : (enterStage x s).1.ledger = s.ledger := by
  fun_cases enterStage x s <;> simp
@[simp] theorem showStacking_ledger : s.showStacking.ledger = s.ledger := by
  fun_cases State.showStacking s <;> simp
@[simp] theorem saleTry_ledger : (saleTry s).1.ledger = s.ledger := by
  fun_cases saleTry s <;> simp +zetaDelta
@[simp] theorem refusedTry_ledger (x : Sale) (c : ColumnId) (r : TryResult) :
    (refusedTry x c r s).1.ledger = s.ledger := rfl
@[simp] theorem saleGiven_ledger : (saleGiven s).1.ledger = s.ledger := by
  fun_cases saleGiven s <;> simp [State.startSale]
@[simp] theorem saleDriven_ledger (c : ColumnId) (r : DriveResult) (n : Nat) (b : Bool) :
    (saleDriven c r n b s).1.ledger = s.ledger := by
  fun_cases saleDriven c r n b s <;> simp
@[simp] theorem tellReader_ledger (x : Sale) (o : SaleOutcome) : (tellReader x o s).ledger = s.ledger := by
  fun_cases tellReader x o s <;> simp +zetaDelta
@[simp] theorem vendedCursor_ledger (x : Sale) (o : SaleOutcome) : (s.vendedCursor x o).ledger = s.ledger := by
  fun_cases State.vendedCursor s x o <;> simp
@[simp] theorem saleReport_ledger (x : Sale) (o : SaleOutcome) (n : Nat) :
    (s.saleReport x o n).ledger = s.ledger := by simp [State.saleReport]
@[simp] theorem saleFinish_ledger (n : Nat) : (saleFinish n s).1.ledger = s.ledger := by
  fun_cases saleFinish n s <;> simp +zetaDelta
@[simp] theorem returnTest_ledger : (returnTest s).1.ledger = s.ledger := by
  fun_cases returnTest s <;> simp
@[simp] theorem leverPulled_ledger : (leverPulled s).1.ledger = s.ledger := by
  fun_cases leverPulled s <;> simp
@[simp] theorem saleNotice_ledger (c : ColumnId) (k : NoticeCause) : (saleNotice c k s).1.ledger = s.ledger := by
  fun_cases saleNotice c k s <;> simp
@[simp] theorem chargeAnswer_ledger (n : Nat) (b : Bool) : (chargeAnswer n b s).1.ledger = s.ledger := by
  fun_cases chargeAnswer n b s <;> simp +zetaDelta
@[simp] theorem cardLost_ledger : (cardLost s).1.ledger = s.ledger := by
  fun_cases cardLost s <;> simp
@[simp] theorem giveGrant_ledger (who : Requester) : (giveGrant who s).1.ledger = s.ledger := by
  cases who <;> simp [giveGrant]

theorem foldl_ledger {α : Type} (f : State → α → State) (h : ∀ s a, (f s a).ledger = s.ledger) :
    ∀ (l : List α) (s : State), (l.foldl f s).ledger = s.ledger
  | [], _ => rfl
  | a :: l, s => by rw [List.foldl_cons, foldl_ledger f h l, h]
@[simp] theorem leaveActive_ledger (st : StationId) (c : StationCause) :
    (leaveActive st c s).1.ledger = s.ledger := by
  unfold leaveActive
  dsimp only
  split
  · split <;> simp [foldl_ledger]
  · simp [foldl_ledger]
@[simp] theorem lineRestart_ledger : (lineRestart s).1.ledger = s.ledger := by
  fun_cases lineRestart s <;> simp
@[simp] theorem holdBreak_ledger : s.holdBreak.ledger = s.ledger := rfl
@[simp] theorem refreshSet_ledger : s.refreshSet.ledger = s.ledger := (LinksOnly.refreshSet s).ledger
@[simp] theorem modeNote_ledger (m : Mode) (c : ModeCause) : (s.modeNote m c).ledger = s.ledger := by
  simp [State.modeNote]
@[simp] theorem modeTail_ledger (b : Mode) (c : ModeCause) : (s.modeTail b c).ledger = s.ledger := by
  unfold State.modeTail
  fun_cases State.modePanel s.refreshSet b <;> simp
theorem modeChange_ledger {c : ModeCause} {o : Out} (h : modeChange c s = some o) : o.1.ledger = s.ledger := by
  simp only [modeChange] at h
  split at h
  · cases h
  · injection h with h
    subst h
    simp
@[simp] theorem modeRestart_ledger : (modeRestart s).1.ledger = s.ledger := by
  unfold modeRestart
  dsimp only
  split
  · rename_i o h
    rw [modeChange_ledger _ h]
    rfl
  · simp
end

/-! ### Inner steps that move the ledger -/

section
variable (s : State)

@[simp] theorem deposit_ledger (v : Nat) : (s.deposit v).ledger = s.ledger.deposit v := by simp [State.deposit]
@[simp] theorem returnHold_ledger : s.returnHold.ledger = s.ledger.returnHold := by simp [State.returnHold]
@[simp] theorem releaseAll_ledger : s.releaseAll.ledger = s.ledger.releaseAll := by simp [State.releaseAll]
@[simp] theorem oweWhole_ledger : s.oweWhole.ledger = s.ledger.owe s.ledger.pending := rfl

theorem payStart_moves : LedgerMoves s.ledger (payStart s).1.ledger := by
  fun_cases payStart s <;> simp +zetaDelta
theorem payTell_moves : LedgerMoves s.ledger (payTell s).1.ledger := by
  fun_cases payTell s <;> simp [payStart_moves]
theorem payPlan_moves : LedgerMoves s.ledger (payPlan s).1.ledger := by
  fun_cases payPlan s <;> simp +zetaDelta
theorem payOweEnd_moves : LedgerMoves s.ledger (payOweEnd s).1.ledger := by
  unfold payOweEnd
  split <;> simp
theorem acceptSale_moves (o : Origin) (i : SelectionId) (c : Source) :
    LedgerMoves s.ledger (acceptSale o i c s).1.ledger := by
  fun_cases acceptSale o i c s <;> simp +zetaDelta
theorem stackOutcome_moves (b : Bool) : LedgerMoves s.ledger (stackOutcome b s).1.ledger := by
  fun_cases stackOutcome b s <;> simp
/-- R108: a sale's end settles the hold, and releases the credit without multi-vend, or returns it. -/
theorem saleEnd_moves (o : SaleOutcome) : LedgerMoves s.ledger (saleEnd o s).1.ledger := by
  have released : LedgerMoves s.ledger s.ledger.settle.releaseAll := (moves_settle _).trans (moves_releaseAll _)
  fun_cases saleEnd o s <;> simp +zetaDelta [released]
theorem returnAct_moves : LedgerMoves s.ledger (returnAct s).1.ledger := by
  have h : (returnAct s).1.ledger = s.ledger.releaseAll := by simp [returnAct]
  rw [h]
  exact moves_releaseAll _

/-- An inner step makes operations of the ledger, and changes it in no other way. -/
theorem runOne_moves (j : Job) : LedgerMoves s.ledger (runOne j s).1.ledger := by
  cases j with
  | payTell => exact payTell_moves s
  | payPlan => exact payPlan_moves s
  | payOweEnd => exact payOweEnd_moves s
  | stackOutcome b => exact stackOutcome_moves s b
  | saleEnd o => exact saleEnd_moves s o
  | returnAct => exact returnAct_moves s
  | _ => exact .of_eq (by simp [runOne, State.saleRestart, State.showRestart])
end

/-- An event makes operations of the ledger behind those of its own effect. -/
theorem moves_eventKept (l : Ledger) : EventKept fun s => LedgerMoves l s.ledger where
  one j s h := h.trans (runOne_moves s j)
  cut _ h := h
  links _ _ k h := k.ledger ▸ h
  port _ _ h := h

/-! ### The items of a REPLY -/

section
variable (s : State)

theorem coinMoney_moves (v : Nat) : LedgerMoves s.ledger (s.coinMoney v).1.ledger := by
  fun_cases State.coinMoney s v <;> simp
@[simp] theorem coinValueFault_ledger (v : Nat) (i : Item) : (s.coinValueFault v i).ledger = s.ledger := by
  fun_cases State.coinValueFault s v i <;> simp
theorem coinSeen_moves (c : CoinId) (d : CoinDest) : LedgerMoves s.ledger (coinSeen c d s).1.ledger := by
  have money : ∀ (u : State) (v : Nat), u.ledger = s.ledger → LedgerMoves s.ledger (u.coinMoney v).1.ledger :=
    fun u v e => e ▸ coinMoney_moves u v
  fun_cases coinSeen c d s <;> simp +zetaDelta [money]
theorem billStackedItem_moves (b : BillId) : LedgerMoves s.ledger (billStackedItem b s).1.ledger := by
  fun_cases billStackedItem b s <;> simp
theorem billSeen_moves (b : BillId) (e : BillEvent) : LedgerMoves s.ledger (billSeen b e s).1.ledger := by
  fun_cases billSeen b e s <;> simp [billStackedItem_moves]
@[simp] theorem tubeSense_ledger (n : Fin 64) (e : Sense) : (tubeSense n e s).1.ledger = s.ledger := by
  fun_cases tubeSense n e s <;> simp
theorem bookPaid_moves (x : Nat) : LedgerMoves s.ledger (s.bookPaid x).ledger := by
  fun_cases State.bookPaid s x <;> simp
@[simp] theorem overpaidReport_ledger (n : Fin 64) (k a : Nat) : (s.overpaidReport n k a).ledger = s.ledger := by
  fun_cases State.overpaidReport s n k a <;> simp
theorem paidItem_moves (n : Fin 64) (k : Nat) : LedgerMoves s.ledger (paidItem n k s).1.ledger := by
  fun_cases paidItem n k s <;> simp [paidFull, paidShort, paidUnasked, bookPaid_moves]
theorem keyItem_moves (n : Nat) : LedgerMoves s.ledger (keyItem n s).1.ledger := by
  fun_cases keyItem n s <;> simp [acceptSale_moves]

/-- An item's own effect, whichever block owns it (R165). -/
theorem itemOut_moves (st : StationId) (i : Item) : LedgerMoves s.ledger (itemOut st i s).1.ledger := by
  unfold itemOut
  split
  · cases i with
    | coinSeen c d => exact coinSeen_moves s c d
    | paid n k => exact paidItem_moves s n k
    | billSeen b e => exact billSeen_moves s b e
    | key n => exact keyItem_moves s n
    | _ => exact .of_eq (by simp)
  · exact .of_eq (by simp)
end

/-! ### The exchange -/

section
variable (s : State)

@[simp] theorem endExchange_ledger : (endExchange s).1.ledger = s.ledger := by
  fun_cases endExchange s <;> simp +zetaDelta
@[simp] theorem probeLater_ledger (st : StationId) : (s.probeLater st).ledger = s.ledger := rfl
@[simp] theorem waitTaken_ledger (x : Exchange) : (waitTaken x s).1.ledger = s.ledger := by
  fun_cases waitTaken x s <;> simp +zetaDelta
@[simp] theorem missTaken_ledger (x : Exchange) : (missTaken x s).1.ledger = s.ledger := by
  fun_cases missTaken x s <;> simp +zetaDelta
@[simp] theorem mirror_ledger (x : Exchange) (p : List Byte) : (s.mirror x p).ledger = s.ledger := by
  fun_cases State.mirror s x p <;> simp +zetaDelta
@[simp] theorem flagUnknown_ledger (b : Bool) : (s.flagUnknown b).ledger = s.ledger := by
  fun_cases State.flagUnknown s b <;> simp
@[simp] theorem replyTaken_ledger (x : Exchange) (p : List Byte) (b : Bool) :
    (s.replyTaken x p b).ledger = s.ledger := by simp [State.replyTaken]
@[simp] theorem firstFrames_ledger (st : StationId) : (s.firstFrames st).ledger = s.ledger := by
  fun_cases State.firstFrames s st <;> simp +zetaDelta
@[simp] theorem joinReply_ledger (st : StationId) (r l : Byte) : (joinReply st r l s).ledger = s.ledger := by
  fun_cases joinReply st r l s <;> simp +zetaDelta
@[simp] theorem joinTaken_ledger (x : Exchange) (p : List Byte) : (joinTaken x p s).ledger = s.ledger := by
  fun_cases joinTaken x p s <;> simp

theorem takeReply_moves (x : Exchange) (p : List Byte) (l : List Item) (b : Bool) :
    LedgerMoves s.ledger (takeReply x p l b s).ledger := by
  fun_cases takeReply x p l b s with
  | case1 => exact .of_eq (joinTaken_ledger s x p)
  | case2 =>
    exact (moves_eventKept s.ledger).takeItems (fun i u h => h.trans (itemOut_moves u x.station i)) l _
      (.of_eq (replyTaken_ledger s x p b))

theorem exchangeEnds_moves (x : Exchange) (j : ReplyJudgement) :
    LedgerMoves s.ledger (Machine.exchangeEnds x j s).ledger := by
  fun_cases Machine.exchangeEnds x j s with
  | case1 p l b s1 =>
    exact (moves_eventKept s.ledger).event ((takeReply_moves s x p l b).trans (.of_eq (endExchange_ledger _)))
  | case2 => exact (moves_eventKept s.ledger).event (.of_eq (waitTaken_ledger s x))
  | case3 => exact (moves_eventKept s.ledger).event (.of_eq (by simp))
end

/-! ### The requests -/

section
variable (s : State)

@[simp] theorem refuse_ledger (k : ReqKind) (c : ResultCode) : (refuse k c s).1.ledger = s.ledger := rfl
@[simp] theorem takenWrite_ledger (b : Bool) (l : List Job) : (takenWrite b s l).1.ledger = s.ledger := rfl
@[simp] theorem writeCoins_ledger (n : Nat) (l : List RawValue) : (writeCoins n l s).1.ledger = s.ledger := by
  fun_cases writeCoins n l s <;> simp
@[simp] theorem writeBills_ledger (n : Nat) (l : List RawValue) : (writeBills n l s).1.ledger = s.ledger := by
  fun_cases writeBills n l s <;> simp
@[simp] theorem writeTubes_ledger (n : Nat) (l : List RawTube) : (writeTubes n l s).1.ledger = s.ledger := by
  fun_cases writeTubes n l s <;> simp +zetaDelta
@[simp] theorem writeSelections_ledger (n : Nat) (l : List RawSelection) :
    (writeSelections n l s).1.ledger = s.ledger := by
  fun_cases writeSelections n l s <;> simp +zetaDelta
@[simp] theorem columnChanged_ledger (c : ColumnId) (b : ColState) (k : ColCause) :
    (s.columnChanged c b k).ledger = s.ledger := by
  fun_cases State.columnChanged s c b k <;> simp [State.columnReport]
@[simp] theorem writtenReports_ledger (m : SelMap) : (s.writtenReports m).ledger = s.ledger := by
  simp [State.writtenReports, foldl_ledger]
@[simp] theorem writeColumns_ledger (n : Nat) (l : List RawColumn) : (writeColumns n l s).1.ledger = s.ledger := by
  fun_cases writeColumns n l s <;> simp +zetaDelta
@[simp] theorem writeCalibration_ledger (n : Nat) (l : List RawBreakpoint) :
    (writeCalibration n l s).1.ledger = s.ledger := by
  fun_cases writeCalibration n l s <;> simp
@[simp] theorem writeChannels_ledger (n : Nat) (l : List Byte) : (writeChannels n l s).1.ledger = s.ledger := by
  fun_cases writeChannels n l s <;> simp
@[simp] theorem writeZones_ledger (n : Nat) (l : List RawZone) : (writeZones n l s).1.ledger = s.ledger := by
  fun_cases writeZones n l s <;> simp +zetaDelta
@[simp] theorem minOffWritten_ledger : (minOffWritten s).1.ledger = s.ledger := by
  fun_cases minOffWritten s <;> simp
@[simp] theorem writeSettings_ledger (n : Nat) (l : List RawSettings) :
    (writeSettings n l s).1.ledger = s.ledger := by
  fun_cases writeSettings n l s <;> simp +zetaDelta
@[simp] theorem writeRelays_ledger (n : Nat) (l : List Byte) : (writeRelays n l s).1.ledger = s.ledger := by
  fun_cases writeRelays n l s <;> simp +zetaDelta
@[simp] theorem readTable_ledger (t f c : Nat) : (readTable t f c s).1.ledger = s.ledger := by
  fun_cases readTable t f c s <;> simp
theorem modeChange_getD_ledger (c : ModeCause) : ((modeChange c s).getD s.only).1.ledger = s.ledger := by
  cases h : modeChange c s with
  | none => rfl
  | some o => exact modeChange_ledger s h
@[simp] theorem modeRequest_ledger (v : Byte) : (modeRequest v s).1.ledger = s.ledger := by
  fun_cases modeRequest v s with
  | case1 m _ => simp [setRequested, modeChange_getD_ledger]
  | case2 => simp
@[simp] theorem doorMoved_ledger (d : Door) : (doorMoved d s).1.ledger = s.ledger :=
  modeChange_getD_ledger (s.setMode { s.mode with door := d }) .door
@[simp] theorem fillRequest_ledger (b : Bool) : (fillRequest b s).1.ledger = s.ledger := by
  fun_cases fillRequest b s <;> simp +zetaDelta
theorem selectRequest_moves (n : Nat) : LedgerMoves s.ledger (selectRequest n s).1.ledger := by
  fun_cases selectRequest n s <;> simp +zetaDelta [acceptSale_moves]
@[simp] theorem approveRequest_ledger (n : Nat) (b : Bool) : (approveRequest n b s).1.ledger = s.ledger := by
  fun_cases approveRequest n b s <;> simp +zetaDelta
@[simp] theorem leverRequest_ledger : (leverRequest s).1.ledger = s.ledger := by simp [leverRequest]
@[simp] theorem testRequest_ledger (n : Nat) : (testRequest n s).1.ledger = s.ledger := by
  fun_cases testRequest n s <;> simp
@[simp] theorem tubeOutRequest_ledger (n c : Nat) : (tubeOutRequest n c s).1.ledger = s.ledger := by
  fun_cases tubeOutRequest n c s <;> simp +zetaDelta [payManual]
@[simp] theorem releaseRequest_ledger (n : Nat) : (releaseRequest n s).1.ledger = s.ledger := by
  fun_cases releaseRequest n s <;> simp +zetaDelta
@[simp] theorem setDue_ledger : s.setDue.ledger = s.ledger := rfl
@[simp] theorem defrostRequest_ledger : (defrostRequest s).1.ledger = s.ledger := by
  fun_cases defrostRequest s <;> simp +zetaDelta
@[simp] theorem statusRequest_ledger (n : Nat) : (statusRequest n s).1.ledger = s.ledger := by
  fun_cases statusRequest n s <;> simp
@[simp] theorem restartRequest_ledger : (restartRequest s).1.ledger = s.ledger := by
  fun_cases restartRequest s <;> simp
@[simp] theorem relayRequest_ledger (st : Fin 8) (k : Byte) (p : List Byte) :
    (relayRequest st k p s).1.ledger = s.ledger := by
  have target : ∀ i, (relayTo i k p s).1.ledger = s.ledger := fun i => by
    fun_cases relayTo i k p s <;> simp +zetaDelta
  fun_cases relayRequest st k p s with
  | case1 => exact target _
  | case2 => rfl
end

/-! ### The spiral drive's events, and the other commands' own effects -/

section
variable (s : State)

@[simp] theorem columnAfter_ledger (c : ColumnId) (r : Column) (k : ColCause) :
    (s.columnAfter c r k).ledger = s.ledger := by
  simp [State.columnAfter, State.driveColumn]
@[simp] theorem handResult_ledger (b : Bool) : (handResult b s).1.ledger = s.ledger := by
  fun_cases handResult b s <;> simp +zetaDelta
@[simp] theorem endAttempt_ledger (a : Attempt) (r : DriveResult) (b : Bool) :
    (endAttempt a r b s).1.ledger = s.ledger := by simp [endAttempt]
@[simp] theorem stopEarly_ledger (a : Attempt) (r : DriveResult) : (stopEarly a r s).1.ledger = s.ledger := by
  fun_cases stopEarly a r s <;> simp
@[simp] theorem turnDone_ledger (a : Attempt) : (turnDone a s).1.ledger = s.ledger := by
  fun_cases turnDone a s <;> simp
@[simp] theorem windowEnds_ledger (a : Attempt) : (windowEnds a s).1.ledger = s.ledger := by
  fun_cases windowEnds a s <;> simp
@[simp] theorem strayDrop_ledger : s.strayDrop.ledger = s.ledger := by simp [State.strayDrop]
@[simp] theorem dropCounted_ledger : (dropCounted s).1.ledger = s.ledger := by
  fun_cases dropCounted s <;> simp
@[simp] theorem beamBreaks_ledger : (beamBreaks s).1.ledger = s.ledger := by
  fun_cases beamBreaks s <;> simp
@[simp] theorem beamClears_ledger : s.beamClears.ledger = s.ledger := by
  fun_cases State.beamClears s <;> simp
@[simp] theorem senseCurrent_ledger (a : Attempt) (n : Nat) : (s.senseCurrent a n).ledger = s.ledger := by
  fun_cases State.senseCurrent s a n <;> simp
@[simp] theorem setHome_ledger (c : ColumnId) (b : Bool) : (s.setHome c b).ledger = s.ledger := rfl
@[simp] theorem homeOpens_ledger (a : Attempt) (n : Nat) : (homeOpens a n s).1.ledger = s.ledger := by
  fun_cases homeOpens a n s <;> simp +zetaDelta
@[simp] theorem homeCloses_ledger (a : Attempt) : (homeCloses a s).1.ledger = s.ledger := by
  fun_cases homeCloses a s <;> simp +zetaDelta
@[simp] theorem currentChanges_ledger (a : Attempt) (n : Nat) : (currentChanges a n s).1.ledger = s.ledger := by
  fun_cases currentChanges a n s <;> simp +zetaDelta
@[simp] theorem openChecked_ledger (a : Attempt) (n : Nat) : (openChecked a n s).1.ledger = s.ledger := by
  fun_cases openChecked a n s <;> simp
@[simp] theorem leaveHomeEnds_ledger (a : Attempt) (n : Nat) : (leaveHomeEnds a n s).1.ledger = s.ledger :=
  endAttempt_ledger _ _ _ _
@[simp] theorem takeSample_ledger (c : ChannelId) (n : Nat) : (takeSample c n s).1.ledger = s.ledger := by
  fun_cases takeSample c n s <;> simp +zetaDelta
@[simp] theorem payLimitEnds_ledger (c : PayCmd) : (payLimitEnds c s).1.ledger = s.ledger := by
  simp [payLimitEnds]
end

end Sys2Proof.Laws
end

section
/-! SUPPORT. What a command can answer, and the ledger's invariants (R29, R30). -/

namespace Sys2Proof.Laws
open Sys2Proof Sys2Proof.Machine

/-! ### What a command can answer -/

/-- Power-on; a state in which pins and conditions alone are others; or the end of a step, before which the ledger's
operations were made. -/
inductive Answered (s : State) : State → Prop
  | power (p : Pins) (d : Door) (l : List Instr) : Answered s ((State.powerOn p d).setPending l)
  | stands (p : Pins) (c : Conditions) : Answered s ((s.setPins p).setPort { s.port with conditions := c })
  | ends (u : State) (h : LedgerMoves s.ledger u.ledger) : Answered s u.stepEnd

section
variable {s : State}

@[simp] theorem answered_same : Answered s s := .stands s.pins s.port.conditions

theorem answered_finish {before : State} {o : Out} (h : LedgerMoves s.ledger o.1.ledger) :
    NextHas (Answered s) (finish before o) :=
  nextHas_next.mpr (.ends _ ((moves_eventKept s.ledger).event h))

/-- A command that is one event, whose own effect leaves the ledger. -/
@[simp] theorem answered_quiet {before : State} {o : Out} (h : o.1.ledger = s.ledger) :
    NextHas (Answered s) (finish before o) :=
  answered_finish (.of_eq h)

/-- A request turned away at a full slot flags conditions alone (R178). -/
theorem answered_overrun (s : State) (h : ReqHeader) : Answered s ((s.noteHeader h).flag .requestOverrun) := by
  unfold State.noteHeader
  split
  · exact .stands s.pins _
  · exact .stands s.pins _

theorem takeRequest_answered {h : ReqHeader} {k : ReqKind} {body : State → Out}
    (hb : ∀ u, LedgerMoves u.ledger (body u).1.ledger) : NextHas (Answered s) (takeRequest h k body s) := by
  have hn : (s.noteHeader h).ledger = s.ledger := State.noteHeader_ledger s h
  unfold takeRequest
  dsimp only
  split
  · exact nextHas_next.mpr (answered_overrun s h)
  · split
    · exact answered_quiet hn
    · exact answered_finish (hn ▸ hb _)

theorem execRelay_answered (h : ReqHeader) (k : Byte) (p : List Byte) : NextHas (Answered s) (execRelay h k p s) := by
  fun_cases execRelay h k p s with
  | case1 => exact nextHas_next.mpr (answered_overrun s h)
  | case2 => exact answered_quiet (by simp +zetaDelta)

theorem takeCommand_answered (c : Instr) : NextHas (Answered s) (takeCommand c s) := by
  cases c with
  | select h n => exact takeRequest_answered fun u => selectRequest_moves u _
  | relay h k p => exact execRelay_answered h k p
  | read | writeCoinTable | writeBillTable | writeTubeTable | writeSelectionTable | writeColumnTable
  | writeCalibrationTable | writeChannelTable | writeZoneTable | writeSettings | writeRelayTable | mode | approve
  | lever | testDrive | tubeOut | fill | release | defrost | status | restart =>
    exact takeRequest_answered fun u => .of_eq (by simp)
  | _ => exact nextHas_next.mpr answered_same

theorem takeJudged_answered (j : FrameJudgement) : NextHas (Answered s) (takeJudged j s) := by
  fun_cases takeJudged j s with
  | case1 => exact nextHas_next.mpr answered_same
  | case2 b c =>
    refine nextHas_next.mpr ?_
    unfold State.discardFrame
    split
    · exact .stands s.pins _
    · exact .stands s.pins _
  | case3 c => exact takeCommand_answered c
  | case4 h => exact takeRequest_answered fun u => .of_eq (by simp)

/-- The end of an exchange, from a state with the same ledger, and of the step. -/
theorem answered_exchange (x : Exchange) (j : ReplyJudgement) {u : State} (h : u.ledger = s.ledger) :
    Answered s (Machine.exchangeEnds x j u).stepEnd :=
  .ends _ (h ▸ exchangeEnds_moves u x j)

/-- What any command answers. -/
theorem exec_answered (c : Instr) (s : State) : NextHas (Answered s) (exec c s) := by
  cases c with
  | powerOn => exact nextHas_next.mpr (.power _ _ _)
  | holdAsserted => exact nextHas_next.mpr (.stands { s.pins with hold := true } s.port.conditions)
  | serviceFrameDiscarded l => exact takeJudged_answered _
  | serviceByteGap l => exact takeJudged_answered _
  | select h n => exact takeCommand_answered (.select h n)
  | relay h k p => exact execRelay_answered h k p
  | read | writeCoinTable | writeBillTable | writeTubeTable | writeSelectionTable | writeColumnTable
  | writeCalibrationTable | writeChannelTable | writeZoneTable | writeSettings | writeRelayTable | mode | approve
  | lever | testDrive | tubeOut | fill | release | defrost | status | restart =>
    exact takeRequest_answered fun u => .of_eq (by simp)
  | replyReceived l =>
    simp only [exec, execReplyReceived]
    split <;> simp [answered_exchange]
  | replyWindowExpiry =>
    simp only [exec, execReplyWindowExpiry]
    split <;> simp [answered_exchange]
  | replyGap l =>
    simp only [exec, execReplyGap]
    split <;> simp [answered_exchange]
  | doorSwitch | holdReleased | beamBroken | beamUnbroken | sample | temps => exact answered_quiet (by simp)
  | frameTransmitted =>
    simp only [exec, execFrameTransmitted]
    split
    · exact nextHas_next.mpr answered_same
    · exact answered_quiet rfl
  | lineBreakEnd | probeDue | retryAt | stackingLimitExpiry | payLimitExpiry | hostApprovalLimitExpiry
  | readerApprovalLimitExpiry | loadLimitExpiry =>
    simp only [exec, execLineBreakEnd, execProbeDue, execRetryAt, execStackingLimitExpiry, execPayLimitExpiry,
      execHostApprovalLimitExpiry, execReaderApprovalLimitExpiry, execLoadLimitExpiry]
    split <;> simp
  | homeSwitchOpens | homeSwitchCloses | motorCurrentChange | clearTimerExpiry | blockTimerExpiry
  | testLoadLimitExpiry | promotionTimerExpiry =>
    simp only [exec, execHomeSwitchOpens, execHomeSwitchCloses, execMotorCurrentChange, execClearTimerExpiry,
      execBlockTimerExpiry, execTestLoadLimitExpiry, execPromotionTimerExpiry]
    split <;> simp
  | openCheckExpiry | leaveHomeLimitExpiry | turnLimitExpiry | jamRunExpiry | dropWindowExpiry =>
    simp only [exec, execOpenCheckExpiry, execLeaveHomeLimitExpiry, execTurnLimitExpiry, execJamRunExpiry,
      execDropWindowExpiry]
    split
    · split <;> simp
    · simp
  | dutyPhaseExpiry | minOffPassed | startWindowExpiry | minRunExpiry | defrostIntervalReached | heaterTimerExpiry
  | dripTimerExpiry | excursionTimerExpiry =>
    simp only [exec, execDutyPhaseExpiry, execMinOffPassed, execStartWindowExpiry, execMinRunExpiry,
      execDefrostIntervalReached, execHeaterTimerExpiry, execDripTimerExpiry, execExcursionTimerExpiry]
    split <;> simp

/-- A step is a millisecond, or what the command at the front answers. -/
theorem step_cases {t : State} (h : step s = .next t) : t = s.tick ∨ ∃ rest, Answered (s.setPending rest) t := by
  unfold step at h
  split at h
  · injection h with h
    exact .inl h.symm
  · rename_i c rest _
    exact .inr ⟨rest, exec_answered c _ t h⟩

end

/-! ### The ledger's invariants -/

theorem Answered.ledger {s t : State} (h : Answered s t) :
    t.ledger = Ledger.powerOn ∨ LedgerMoves s.ledger t.ledger := by
  cases h with
  | power => exact .inl rfl
  | stands => exact .inr (moves_refl _)
  | ends u h => exact .inr (h.trans (.of_eq (LinksOnly.stepEnd u).ledger))

/-- A step leaves the ledger at its power-on values, or makes operations of it. -/
theorem step_ledger {s t : State} (h : step s = .next t) :
    t.ledger = Ledger.powerOn ∨ LedgerMoves s.ledger t.ledger := by
  rcases step_cases h with rfl | ⟨rest, h⟩
  · exact .inr (.of_eq (State.advanceTo_ledger _ _))
  · exact h.ledger

/-- What the power-on values have and every operation keeps, every step keeps. -/
theorem step_keeps_ledger {Q : Ledger → Prop} (power : Q Ledger.powerOn) (op : ∀ a b, LedgerOp a b → Q a → Q b)
    {s t : State} (hs : Q s.ledger) (h : step s = .next t) : Q t.ledger := by
  rcases step_ledger h with h | h
  · exact h ▸ power
  · exact h.keeps op hs

/-- Settles O5: a step makes operations of the ledger, each of which keeps the identity. -/
theorem moneyKeptByStep : Obligations.MoneyKeptByStep := by
  unfold Obligations.MoneyKeptByStep
  intro s t
  rw [moneyKept_iff, moneyKept_iff]
  exact step_keeps_ledger (Q := LedgerKept) rfl fun _ _ => LedgerOp.kept

/-- Settles O6: a step makes operations of the ledger, each of which keeps the ranges. -/
theorem moneyBoundedByStep : Obligations.MoneyBoundedByStep := by
  unfold Obligations.MoneyBoundedByStep
  intro s t
  rw [moneyBounded_iff, moneyBounded_iff]
  exact step_keeps_ledger ⟨Nat.zero_le _, Nat.zero_le _, Nat.zero_le _⟩ fun _ _ => LedgerOp.bounded

end Sys2Proof.Laws
end

section
/-! SUPPORT. The acceptance set: what R35 reads, what a recomputation hands on, and the set that stands at the end of
every step (R35 to R38). -/

namespace Sys2Proof.Laws
open Sys2Proof Sys2Proof.Machine

/-! ### What R35 reads -/

/-- R35 reads nothing that the links change but whether the reserve is open. -/
theorem acceptSet_of_links {s t : State} (l : LinksOnly s t) (h : t.reserveOpen = s.reserveOpen) :
    acceptSet t = acceptSet s := by
  have hfunds : t.funds = s.funds := by
    simp only [State.funds, State.escrowValue, l.ledger, l.escrow]
  have htype : typeEnabled t = typeEnabled s := by
    funext p m
    unfold typeEnabled assured assuranceAmount
    rw [hfunds, rankTubes_congr l.tubes l.coins]
  have hfill : fillSet t = fillSet s := by
    simp only [fillSet, l.routing]
  have hopen : openSet t = openSet s := by
    funext p
    simp only [openSet, htype, l.coins, l.bills, l.ledger, l.escrow]
  simp only [acceptSet, l.mode, l.map, l.settings, l.ledger, h, hfill, hopen]

/-- A reserve that is open was open before the port grew (R191). -/
theorem reserveOpen_of_grows {s t : State} (g : PortGrows s.port t.port) (h : t.reserveOpen = true) :
    s.reserveOpen = true := by
  obtain ⟨more, hm⟩ := g.reports
  rw [State.reserveOpen_iff] at h ⊢
  rw [hm, List.length_append] at h
  omega

/-! ### Handing the parts (R38) -/

/-- The station is away, or its part of the set is the part last handed. -/
def PartHanded (st : StationId) (s : State) : Prop :=
  s.active st = true → s.cash.acceptance.part st = s.cash.handed.part st

theorem active_of_links {s t : State} (l : LinksOnly s t) (st : StationId) : t.active st = s.active st := by
  unfold State.active
  rw [l.stations st]

section
variable (s : State) (st : StationId)

@[simp] theorem handPart_acceptance : (s.handPart st).cash.acceptance = s.cash.acceptance := by
  fun_cases State.handPart s st <;> simp

theorem handPart_same {s : State} {st : StationId} (h : PartHanded st s) : s.handPart st = s :=
  if_neg fun hc => hc.2 (h hc.1)

/-- Once its part has been handed the station has it. -/
theorem handPart_hands (hp : ∀ a b : AdmitSet, (a.withPart b st).part st = b.part st) :
    PartHanded st (s.handPart st) := by
  unfold PartHanded
  rw [active_of_links (LinksOnly.handPart s st)]
  fun_cases State.handPart s st with
  | case1 => simp [hp]
  | case2 h =>
    intro ha
    by_contra hne
    exact h ⟨ha, hne⟩

/-- A part handed to one station leaves another station's. -/
theorem handPart_keeps {other : StationId} (hp : ∀ a b : AdmitSet, (a.withPart b st).part other = a.part other)
    (h : PartHanded other s) : PartHanded other (s.handPart st) := by
  unfold PartHanded
  rw [active_of_links (LinksOnly.handPart s st)]
  fun_cases State.handPart s st with
  | case1 => simpa [PartHanded, hp] using h
  | case2 => exact h

/-! ### Recomputing (R37) -/

@[simp] theorem recomputeSet_acceptance : s.recomputeSet.cash.acceptance = acceptSet s := by
  simp [State.recomputeSet]

/-- After a recomputation the three stations have their parts. -/
theorem recomputeSet_hands : PartHanded coinMech s.recomputeSet ∧ PartHanded validator s.recomputeSet ∧
    PartHanded reader s.recomputeSet := by
  let a := (s.setCash { s.cash with acceptance := acceptSet s }).handPart coinMech
  have hcoin : PartHanded coinMech a := handPart_hands _ _ fun _ _ => rfl
  have hcoin' : PartHanded coinMech (a.handPart validator) := handPart_keeps _ _ (fun _ _ => rfl) hcoin
  have hbill : PartHanded validator (a.handPart validator) := handPart_hands _ _ fun _ _ => rfl
  exact ⟨handPart_keeps _ _ (fun _ _ => rfl) hcoin', handPart_keeps _ _ (fun _ _ => rfl) hbill,
    handPart_hands _ _ fun _ _ => rfl⟩

/-- A current set whose parts have been handed is left as it stands. -/
theorem recomputeSet_same {s : State} (hs : SetCurrent s)
    (hp : PartHanded coinMech s ∧ PartHanded validator s ∧ PartHanded reader s) : s.recomputeSet = s := by
  obtain ⟨hcoin, hbill, hcard⟩ := hp
  have hset : s.setCash { s.cash with acceptance := acceptSet s } = s := by
    rw [← show s.cash.acceptance = acceptSet s from hs]
    rfl
  rw [State.recomputeSet, hset, handPart_same hcoin, handPart_same hbill, handPart_same hcard]

/-- R37: the set is current again unless its handing has closed the reserve. -/
theorem recomputeSet_current {s : State} (h : s.recomputeSet.reserveOpen = s.reserveOpen) :
    SetCurrent s.recomputeSet := by
  unfold SetCurrent
  rw [recomputeSet_acceptance, acceptSet_of_links (LinksOnly.recomputeSet s) h]

/-- The second recomputation finds the reserve as it was closed by the first, and leaves an open one (log 6). -/
theorem refreshSet_current : SetCurrent s.refreshSet := by
  have first := State.recomputeSet_grows s
  have second := State.recomputeSet_grows s.recomputeSet
  unfold State.refreshSet
  by_cases h : s.recomputeSet.reserveOpen = true
  · have hcur : SetCurrent s.recomputeSet := recomputeSet_current (h.trans (reserveOpen_of_grows first h).symm)
    rw [recomputeSet_same hcur (recomputeSet_hands s)]
    exact hcur
  · apply recomputeSet_current
    exact Bool.eq_iff_iff.mpr (iff_of_false (fun hc => h (reserveOpen_of_grows second hc)) h)

/-! ### How many reports the handing makes -/

/-- A frame handed makes at most one report (R173). -/
theorem hand_length (r : LineRequest) : (s.hand st r).port.reports.length ≤ s.port.reports.length + 1 := by
  have hs : (s.dropStaleAsk st r).port = s.port := by
    unfold State.dropStaleAsk
    split <;> rfl
  unfold State.hand State.handFrame
  split
  · rw [← hs]
    generalize s.dropStaleAsk st r = u
    dsimp only
    split
    · exact Nat.le_succ _
    · unfold State.joinQueue
      split
      · exact Nat.le_succ _
      · split
        · exact report_length (u.setQueue _) _ rfl
        · exact report_length u _ rfl
  · exact Nat.le_succ _

theorem handPart_length : (s.handPart st).port.reports.length ≤ s.port.reports.length + 1 := by
  fun_cases State.handPart s st with
  | case1 => exact hand_length (s.setCash _) st _
  | case2 => exact Nat.le_succ _

theorem recomputeSet_length : s.recomputeSet.port.reports.length ≤ s.port.reports.length + 3 := by
  let a := s.setCash { s.cash with acceptance := acceptSet s }
  have h1 : (a.handPart coinMech).port.reports.length ≤ s.port.reports.length + 1 := handPart_length a _
  have h2 := handPart_length (a.handPart coinMech) validator
  have h3 := handPart_length ((a.handPart coinMech).handPart validator) reader
  show (((a.handPart coinMech).handPart validator).handPart reader).port.reports.length ≤ _
  omega

theorem refreshSet_length : s.refreshSet.port.reports.length ≤ s.port.reports.length + 6 := by
  have h1 := recomputeSet_length s
  have h2 := recomputeSet_length s.recomputeSet
  unfold State.refreshSet
  omega

/-! ### What ends a step (R181, R172) -/

@[simp] theorem transmit_cash : s.transmit.cash = s.cash := by
  fun_cases State.transmit s <;> simp

/-- Beginning a frame leaves an open reserve open, and with it the set. -/
theorem transmit_current {s : State} (hs : SetCurrent s) (h : s.reserveOpen = true) : SetCurrent s.transmit := by
  have hopen : s.transmit.reserveOpen = true := by
    rw [State.reserveOpen_iff] at h ⊢
    fun_cases State.transmit s <;> simp_all
    omega
  unfold SetCurrent
  rw [transmit_cash, acceptSet_of_links (LinksOnly.transmit s) (hopen.trans h.symm)]
  exact hs

/-- The transmitter is busy or held after it was asked, unless no report was waiting. -/
theorem transmit_rests :
    (s.transmit.port.sending.isSome = true ∨ s.transmit.pins.hold = true) ∨ s.transmit.port.reports = [] := by
  fun_cases State.transmit s <;> simp_all

theorem send_cash (r : LineRequest) : (s.send st r).cash = s.cash := by
  unfold State.send
  dsimp only
  split <;> rfl

theorem pollSlot_cash : s.pollSlot.cash = s.cash := by
  fun_cases State.pollSlot s <;> simp +zetaDelta [send_cash]

theorem beginSlot_cash : s.beginSlot.cash = s.cash := by
  fun_cases State.beginSlot s <;> simp [send_cash, pollSlot_cash]

/-- A slot that begins leaves the set current (R172). -/
theorem beginSlot_current {s : State} (hs : SetCurrent s) : SetCurrent s.beginSlot := by
  have hport : s.beginSlot.reserveOpen = s.reserveOpen := by
    unfold State.reserveOpen State.freeReports
    rw [State.beginSlot_port]
  unfold SetCurrent
  rw [beginSlot_cash, acceptSet_of_links (LinksOnly.beginSlot s) hport]
  exact hs

/-- At the end of every step the set is current: the transmitter, asked a second time, stands or leaves the reserve
open. -/
theorem stepEnd_current : SetCurrent s.stepEnd := by
  have hset := refreshSet_current s.transmit
  unfold State.stepEnd
  apply beginSlot_current
  rcases transmit_rests s with hbusy | hnone
  · rw [← (State.refreshSet_grows s.transmit).sending, ← (LinksOnly.refreshSet s.transmit).pins] at hbusy
    rwa [State.transmit, if_pos hbusy]
  · have hlen := refreshSet_length s.transmit
    rw [hnone] at hlen
    exact transmit_current hset ((State.reserveOpen_iff _).mpr (by simp at hlen; omega))
end

/-- R37: every command leaves the set current. -/
theorem Answered.current {s t : State} (h : Answered s t) (hs : SetCurrent s) : SetCurrent t := by
  cases h with
  | power => rfl
  | stands => exact hs
  | ends u => exact stepEnd_current u

theorem step_current {s t : State} (hs : SetCurrent s) (h : step s = .next t) : SetCurrent t := by
  rcases step_cases h with rfl | ⟨rest, h⟩
  · unfold State.tick State.advanceTo
    split
    · exact hs
    · exact hs
  · exact h.current (s := s.setPending rest) hs

end Sys2Proof.Laws
end

section
/-! SUPPORT. The set that R35's table gives, with the assurance test of R36. -/

namespace Sys2Proof.Laws
open Sys2Proof Sys2Proof.Machine

/-! ### Flags as bits (R164) -/

theorem packBits_testBit : ∀ (l : List Bool) (i : Nat), (packBits l).testBit i = l.getD i false
  | [], i => by simp [packBits]
  | b :: bs, 0 => by cases b <;> simp [packBits]
  | b :: bs, i + 1 => by
    have hdiv : packBits (b :: bs) / 2 = packBits bs := by
      simp only [packBits]
      split <;> omega
    rw [Nat.testBit_succ, hdiv, packBits_testBit bs i, List.getD_cons_succ]

/-- Bit `i` of a table's flags is the flag of record `i`. -/
theorem packed_getLsbD {α : Type} {n : Nat} (v : Vector α n) (f : α → Bool) (i : Fin n) :
    (BitVec.ofNat n (packBits (v.toList.map f))).getLsbD i.val = f v[i] := by
  rw [BitVec.getLsbD_ofNat, packBits_testBit]
  simp [List.getD_eq_getElem?_getD]

/-! ### A type while the set is open (R35, R36) -/

theorem typeEnabled_iff (s : State) (p : Nat) (m : MoneyType) :
    typeEnabled s p m = true ↔ m.accept = true ∧ m.value ≠ 0 ∧ (m.assured = false ∨ s.funds + m.value ≤ p ∨
      (makePlan (s.funds + m.value - p) (rankTubes s.cash assuranceAvail)).exact = true) := by
  simp [typeEnabled, assured, assuranceAmount, Nat.sub_eq_zero_iff_le, and_assoc]

theorem assuranceAvail_eq : (fun t : Tube => if t.trust = .exact then t.count - t.low else 0) = assuranceAvail := by
  funext t
  unfold assuranceAvail
  cases t.trust <;> rfl

/-! ### The table (R35) -/

section
variable {s : State}

theorem acceptSet_setup (h : s.mode.effective = .setup) : acceptSet s = .closed := by
  rw [acceptSet, h]

theorem acceptSet_service (h : s.mode.effective = .service) :
    acceptSet s = if s.mode.fill = true then fillSet s else .closed := by
  rw [acceptSet, h]

/-- R35: closed at 20 reports, at a credit of credit_max, and without P_min. -/
theorem acceptSet_vend_closed (h : s.mode.effective = .vend)
    (hc : 20 ≤ s.port.reports.length ∨ s.settings.creditMax ≤ s.ledger.credit ∨ s.map.pMin = none) :
    acceptSet s = .closed := by
  rw [acceptSet, h]
  dsimp only
  split
  · rfl
  · rename_i p hp
    refine if_pos ?_
    rcases hc with hc | hc | hc
    · have hclosed : s.reserveOpen = false := by
        rw [← Bool.not_eq_true, State.reserveOpen_iff]
        omega
      simp [hclosed]
    · simp [hc]
    · rw [hc] at hp
      cases hp

theorem acceptSet_vend_open {p : Nat} (h : s.mode.effective = .vend) (hr : s.port.reports.length < 20)
    (hc : s.ledger.credit < s.settings.creditMax) (hp : s.map.pMin = some p) : acceptSet s = openSet s p := by
  rw [acceptSet, h, hp]
  simp [s.reserveOpen_iff.mpr hr, hc]

theorem isTube_iff (r : Route) : r.isTube = true ↔ ∃ n, r = .tube n := by
  cases r <;> simp [Route.isTube]

end

/-- Settles O7: every step ends with a recomputation that leaves the set current, or changes nothing that R35 reads;
and the set computed is the table's, mode by mode. -/
theorem acceptanceSetCurrent : Obligations.AcceptanceSetCurrent := by
  unfold Obligations.AcceptanceSetCurrent
  refine ⟨fun s t => step_current, fun s => ?_⟩
  rw [assuranceAvail_eq]
  refine ⟨acceptSet_setup, fun h hf => ?_, fun h hf => ?_, fun h => ⟨acceptSet_vend_closed h, fun p hr hc hp => ?_⟩⟩
  · rw [acceptSet_service h, if_neg (by simp [hf])]
    rfl
  · rw [acceptSet_service h, if_pos hf]
    refine ⟨fun c => ?_, rfl, rfl⟩
    rw [fillSet, packed_getLsbD, isTube_iff]
  · rw [acceptSet_vend_open h hr hc hp]
    refine ⟨fun c => ?_, fun b => ?_, rfl⟩
    · rw [openSet, packed_getLsbD, typeEnabled_iff]
      rfl
    · rw [openSet, packed_getLsbD, typeEnabled_iff]
      rfl

end Sys2Proof.Laws
end

section
/-! SUPPORT. The settings WRITE in LOCKOUT with no request waiting (R32, R92, R124, R145). -/

namespace Sys2Proof.Laws
open Sys2Proof Sys2Proof.Machine

/-! ### Reading the record -/

theorem clampNat_kept {lo hi n : Nat} (h : lo ≤ hi) : (clampNat lo hi n).2 = false ↔ (clampNat lo hi n).1 = n := by
  simp [clampNat]
  omega

theorem clampInt_kept {lo hi n : Int} (h : lo ≤ hi) : (clampInt lo hi n).2 = false ↔ (clampInt lo hi n).1 = n := by
  simp [clampInt]
  omega

/-- A settings record is taken as it stands where every number is in its range. -/
theorem readSettings_kept {r : RawSettings} {t : Settings} {budget : Nat} {clamped : Bool}
    (hr : readSettings r = (t, budget, clamped)) :
    takenCode clamped = .ok ↔ budget = r.budget.toNat ∧ t.creditMax = r.creditMax.toNat ∧
      t.columnTries = r.columnTries.toNat ∧ t.minOff = r.minOff.toNat ∧ t.minRun = r.minRun.toNat ∧
      t.defrostInterval = r.defrostInterval.toNat ∧ t.heaterMax = r.heaterMax.toNat ∧
      t.termination = r.termination.toInt ∧ t.drip = r.drip.toNat := by
  have hcode : takenCode clamped = .ok ↔ clamped = false := by cases clamped <;> simp [takenCode]
  obtain ⟨rfl, rfl, rfl⟩ : (readSettings r).1 = t ∧ (readSettings r).2.1 = budget ∧ (readSettings r).2.2 = clamped := by
    simp [hr]
  rw [hcode]
  simp only [readSettings, Bool.or_eq_false_iff, clampNat_kept (by decide : 1 ≤ Config.moneyMax),
    clampNat_kept (by decide : 1 ≤ 4), clampNat_kept (by decide : 4 ≤ 15), clampNat_kept (by decide : 120 ≤ 600),
    clampNat_kept (by decide : 30 ≤ 300), clampNat_kept (by decide : 2 ≤ 24), clampNat_kept (by decide : 10 ≤ 60),
    clampNat_kept (by decide : 60 ≤ 600), clampInt_kept (by decide : (20 : Int) ≤ 150)]
  tauto

/-! ### Taking it -/

/-- `s` with the settings and the budget taken, and defrost due set where the run time has reached the interval (R145,
R141). -/
def settingsTaken (s : State) (t : Settings) (budget : Nat) : State :=
  { s with
    settings := t
    load := { s.load with budget := budget }
    cool := { s.cool with plant := { s.cool.plant with
      due := s.cool.plant.due || decide (3600000 * t.defrostInterval ≤ s.cool.plant.runMs) } } }

/-- R145: with no timer running and the compressor off, the record's due mark alone follows the settings. -/
theorem plantWritten_lockout {p : Plant} (t : Settings) (now : Nat) (hp : p.phase = .lockout)
    (hh : p.heaterTimer = none) (hd : p.dripTimer = none) :
    plantWritten p t now = { p with due := p.due || decide (3600000 * t.defrostInterval ≤ p.runMs) } := by
  obtain ⟨phase, lastStop, runMs, due, startWindow, minRun, heaterTimer, dripTimer, grantedAt, heatedAt, dripAt⟩ := p
  obtain rfl : phase = .lockout := hp
  obtain rfl : heaterTimer = none := hh
  obtain rfl : dripTimer = none := hd
  rfl

/-- R157: with no zone's health flag on no setting conflicts. -/
theorem settingsConflict_noFlag {s : State} (h : ∀ z : ZoneId, s.cool.zones[z].healthFlag = false) (t : Settings) :
    settingsConflict s t = false := by
  simp only [settingsConflict, h, Bool.false_and]
  exact Bool.and_false _

/-- The ANSWER of a request is placed beside the settings taken. -/
theorem settingsTaken_answer (s : State) (h : ReqHeader) (t : Settings) (budget : Nat) (k : ReqKind) (c : ResultCode)
    (d : AnswerData) :
    (settingsTaken (s.noteHeader h) t budget).answer k c d =
      (settingsTaken s t budget).setPort (answeredPort s h k c d) := by
  unfold State.noteHeader
  split
  · simp [State.answer, State.flag, answeredPort, answerTo, State.noteHeader, settingsTaken, *]
    rfl
  · simp [State.answer, answeredPort, answerTo, State.noteHeader, settingsTaken, *]

section
variable {s : State}

/-- R124: a budget below the units granted is refused. -/
theorem writeSettings_inUse {r : RawSettings} {t : Settings} {budget : Nat} {clamped : Bool}
    (hr : readSettings r = (t, budget, clamped)) (hb : budget < s.load.granted) :
    writeSettings 0 [r] s = refuse .write .inUse s := by
  simp only [writeSettings, hr]
  exact if_pos hb

theorem writeSettings_taken {r : RawSettings} {t : Settings} {budget : Nat} {clamped : Bool}
    (hr : readSettings r = (t, budget, clamped)) (hb : s.load.granted ≤ budget)
    (hz : ∀ z : ZoneId, s.cool.zones[z].healthFlag = false) (hp : s.cool.plant.phase = .lockout)
    (hh : s.cool.plant.heaterTimer = none) (hd : s.cool.plant.dripTimer = none) :
    writeSettings 0 [r] s = ((settingsTaken s t budget).answer .write (takenCode clamped) .empty,
      [.load .recount, .heatTest, .heatPast, .dripTest, .lockoutTest, .coolAct]) := by
  have hplant := plantWritten_lockout t s.now hp hh hd
  have hoff : ∀ u : State, u.cool.plant.phase = .lockout → minOffWritten u = (u, []) := fun u hu => by
    simp only [minOffWritten, hu]
    rfl
  simp only [writeSettings, hr, settingsConflict_noFlag hz]
  rw [if_neg (Nat.not_lt.mpr hb), if_neg (by simp), State.setLoad_cool, State.setSettings_cool, hplant, hoff _ (by exact hp)]
  rfl

/-! ### What follows (R125, R145) -/

/-- R125: with no request waiting a recount changes nothing. -/
theorem recount_runs {js : List Job} (hq : s.load.requests = []) (hd : deferTo .recount js = none) :
    Runs 1 (s, .load .recount :: js) (s, js) := by
  intro n
  have hsame : s.load.recounted = s.load := by
    rw [Load.recounted, hq, List.map_nil, ← hq]
  obtain ⟨hmakes, hpass⟩ := pass_noRequests hq
  rw [runJobs_cons, runJob_load _ _ _ hd]
  simp only [loadStep, hsame, State.makePass, State.setLoad_load, hmakes, hpass, State.setLoad_twice]
  rfl

/-- In LOCKOUT before min off has passed, the tests and the record's action do nothing. -/
theorem lockout_runs (hq : s.load.requests = []) (hp : s.cool.plant.phase = .lockout)
    (hh : s.cool.plant.heaterTimer = none) (hd : s.cool.plant.dripTimer = none) (hm : s.minOffPassed = false) :
    Runs 6 (s, [.load .recount, .heatTest, .heatPast, .dripTest, .lockoutTest, .coolAct]) (s, []) := by
  have term : runOne .heatTest s = (s, []) := if_neg (by simp [hp])
  have heated : runOne .heatPast s = (s, []) := by simp only [runOne, heatPast, hh]; rfl
  have dripped : runOne .dripTest s = (s, []) := by simp only [runOne, dripTest, hd]; rfl
  have locked : runOne .lockoutTest s = (s, []) := if_neg (by simp [hm])
  have cooled : runOne .coolAct s = (s, []) := by simp only [runOne, coolAct, hp]; rfl
  exact (recount_runs hq rfl).trans ((Runs.quiet term).trans ((Runs.quiet heated).trans
    ((Runs.quiet dripped).trans ((Runs.quiet locked).trans (Runs.quiet cooled)))))
end

/-- Settles O33: the WRITE's own effect is the settings taken beside the ANSWER, and nothing that follows it acts. -/
theorem settingsWritten : Obligations.SettingsWritten := by
  unfold Obligations.SettingsWritten
  intro s h r ht budget settings
  obtain ⟨clamped, hr⟩ : ∃ clamped, readSettings r = (settings, budget, clamped) := ⟨_, rfl⟩
  refine ⟨fun hb => ?_, fun hb hq hz hp hh hd hm => ?_⟩
  · exact write_refused ht rfl (writeSettings_inUse hr (by simpa using hb))
  · let w := (settingsTaken s settings budget).setPort (answeredPort s h .write (takenCode clamped) .empty)
    have hbody : writeSettings 0 [r] (s.noteHeader h) =
        (w, [.load .recount, .heatTest, .heatPast, .dripTest, .lockoutTest, .coolAct]) := by
      rw [writeSettings_taken hr (by simpa using hb) (by simpa using hz) (by simpa using hp) (by simpa using hh)
        (by simpa using hd), settingsTaken_answer]
    have hoff : w.minOffPassed = false := decide_eq_false (Nat.not_le.mpr hm)
    have hrun : runOut (writeSettings 0 [r] (s.noteHeader h)) = w := by
      rw [hbody]
      exact (lockout_runs (s := w) hq hp hh hd hoff).runOut (by decide)
    have hlinked : LinksOnly w (runOut (writeSettings 0 [r] (s.noteHeader h))) := by
      rw [hrun]
      exact .refl w
    obtain ⟨t, hfin, hlinks, hans⟩ :=
      finish_answered (before := s) hlinked (congrArg (fun u => u.port.slot) hrun)
    refine ⟨t, takenCode clamped, ?_, ?_, readSettings_kept hr, hlinks, hans⟩
    · exact (takeRequest_taken h .write _ s ht).trans hfin
    · cases clamped <;> simp [takenCode]

end Sys2Proof.Laws
end

section
/-! SUPPORT. The ranking of the tubes and the commands of a plan (R39, R42). -/

namespace Sys2Proof.Laws
open Sys2Proof Sys2Proof.Machine

/-! ### The order of the ranking (R39) -/

theorem before_iff {a b : RankedTube} :
    a.before b = true ↔ b.value < a.value ∨ (a.value = b.value ∧ a.tube < b.tube) := by
  simp [RankedTube.before]

theorem before_trans {a b c : RankedTube} (hab : a.before b = true) (hbc : b.before c = true) :
    a.before c = true := by
  simp only [before_iff, Fin.lt_def] at hab hbc ⊢
  omega

/-- Of two different tubes one ranks before the other. -/
theorem before_of_not_before {a b : RankedTube} (hne : a.tube ≠ b.tube) (h : a.before b = false) :
    b.before a = true := by
  have hval := Fin.val_ne_of_ne hne
  simp only [← Bool.not_eq_true, before_iff, Fin.lt_def] at h ⊢
  omega

theorem rankInsert_perm (t : RankedTube) : ∀ l : List RankedTube, (rankInsert t l).Perm (t :: l)
  | [] => .refl _
  | u :: us => by
    unfold rankInsert
    split
    · exact .refl _
    · exact ((rankInsert_perm t us).cons u).trans (.swap t u us)

/-- A tube not yet ranked is put where the order stays. -/
theorem rankInsert_ordered {t : RankedTube} : ∀ {l : List RankedTube}, (∀ u ∈ l, u.tube ≠ t.tube) →
    l.Pairwise (fun a b => a.before b = true) → (rankInsert t l).Pairwise (fun a b => a.before b = true)
  | [], _, _ => List.pairwise_singleton _ _
  | u :: us, hne, hord => by
    obtain ⟨hu, hus⟩ := List.pairwise_cons.mp hord
    unfold rankInsert
    split
    case isTrue htu =>
      refine List.pairwise_cons.mpr ⟨fun w hw => ?_, hord⟩
      rcases List.mem_cons.mp hw with rfl | hw
      · exact htu
      · exact before_trans htu (hu w hw)
    case isFalse htu =>
      have hut : u.before t = true :=
        before_of_not_before (hne u List.mem_cons_self).symm (Bool.eq_false_iff.mpr htu)
      refine List.pairwise_cons.mpr
        ⟨fun w hw => ?_, rankInsert_ordered (fun w hw => hne w (List.mem_cons_of_mem _ hw)) hus⟩
      rcases mem_rankInsert hw with rfl | hw
      · exact hut
      · exact hu w hw

/-! ### The ranking (R39) -/

/-- A tube as it enters the ranking. -/
def rankedTube (cash : Cash) (avail : Tube → Nat) (n : TubeId) : RankedTube :=
  { tube := n, value := (cash.tubes[n]).value cash.coins, avail := avail cash.tubes[n] }

/-- The usable tubes among some, ranked. -/
def rankedAmong (cash : Cash) (avail : Tube → Nat) (l : List TubeId) : List RankedTube :=
  ((l.filter fun n => (cash.tubes[n]).value cash.coins ≠ 0).map (rankedTube cash avail)).foldr rankInsert []

theorem rankTubes_eq (cash : Cash) (avail : Tube → Nat) :
    rankTubes cash avail = rankedAmong cash avail allTubes := by
  rw [rankedAmong, List.foldr_map, List.foldr_filter]
  unfold rankTubes
  congr 1
  funext n l
  simp [rankedTube]

theorem foldr_rankInsert_perm (l : List RankedTube) : (l.foldr rankInsert []).Perm l := by
  induction l with
  | nil => exact .refl _
  | cons t ts ih => exact (rankInsert_perm t _).trans (ih.cons t)

/-- Tubes that are all different come out in order. -/
theorem foldr_rankInsert_ordered {l : List RankedTube} (h : (l.map RankedTube.tube).Nodup) :
    (l.foldr rankInsert []).Pairwise (fun a b => a.before b = true) := by
  induction l with
  | nil => exact .nil
  | cons t ts ih =>
    obtain ⟨hnew, hts⟩ := List.nodup_cons.mp h
    refine rankInsert_ordered (fun u hu heq => hnew ?_) (ih hts)
    rw [← heq]
    exact List.mem_map_of_mem ((foldr_rankInsert_perm ts).mem_iff.mp hu)

theorem rankTubes_ordered (cash : Cash) (avail : Tube → Nat) :
    (rankTubes cash avail).Pairwise (fun a b => a.before b = true) := by
  rw [rankTubes_eq]
  refine foldr_rankInsert_ordered ?_
  have hid : RankedTube.tube ∘ rankedTube cash avail = id := rfl
  rw [List.map_map, hid, List.map_id]
  exact (by decide : allTubes.Nodup).filter _

/-- R39: the usable tubes, each with its value and available count, and no others. -/
theorem mem_rankTubes {cash : Cash} {avail : Tube → Nat} {r : RankedTube} :
    r ∈ rankTubes cash avail ↔
      r.value = (cash.tubes[r.tube]).value cash.coins ∧ r.value ≠ 0 ∧ r.avail = avail cash.tubes[r.tube] := by
  refine ⟨rankTubes_mem, fun ⟨hvalue, hne, havail⟩ => ?_⟩
  rw [rankTubes_eq, rankedAmong, (foldr_rankInsert_perm _).mem_iff]
  have hall : ∀ n : TubeId, n ∈ allTubes := by decide
  refine List.mem_map.mpr ⟨r.tube, List.mem_filter.mpr ⟨hall _, decide_eq_true (hvalue ▸ hne)⟩, ?_⟩
  rw [rankedTube, ← hvalue, ← havail]

/-! ### The commands of one tube (R42) -/

/-- R42: the command of the rest, where there is one. -/
def restCommand (tube : TubeId) (value coins : Nat) : List PayCmd :=
  if coins % 15 = 0 then [] else [{ tube := tube, coins := coins % 15, value := value }]

theorem splitCoins_eq (tube : TubeId) (value coins : Nat) :
    splitCoins tube value coins =
      List.replicate (coins / 15) { tube := tube, coins := 15, value := value } ++ restCommand tube value coins := rfl

theorem splitCoins_sum (tube : TubeId) (value coins : Nat) :
    ((splitCoins tube value coins).map PayCmd.coins).sum = coins := by
  rw [splitCoins_eq, restCommand]
  split <;> simp <;> omega

theorem splitCoins_length (tube : TubeId) (value coins : Nat) :
    (splitCoins tube value coins).length = (coins + 14) / 15 := by
  rw [splitCoins_eq, restCommand]
  split <;> simp <;> omega

/-- R42: no command asks for 0 coins or for more than 15. -/
theorem splitCoins_coins {tube : TubeId} {value coins : Nat} {c : PayCmd} (h : c ∈ splitCoins tube value coins) :
    1 ≤ c.coins ∧ c.coins ≤ 15 := by
  rw [splitCoins_eq, restCommand] at h
  rcases List.mem_append.mp h with h | h
  · rw [List.eq_of_mem_replicate h]
    show 1 ≤ 15 ∧ 15 ≤ 15
    decide
  · split at h
    · cases h
    · obtain rfl := List.mem_singleton.mp h
      dsimp only
      omega

/-- R42: every command but the last asks for 15 coins. -/
theorem splitCoins_dropLast {tube : TubeId} {value coins : Nat} {c : PayCmd}
    (h : c ∈ (splitCoins tube value coins).dropLast) : c.coins = 15 := by
  have hrep : c ∈ List.replicate (coins / 15) ({ tube := tube, coins := 15, value := value } : PayCmd) := by
    rw [splitCoins_eq, restCommand] at h
    split at h
    · rw [List.append_nil] at h
      exact List.mem_of_mem_dropLast h
    · rwa [List.dropLast_concat] at h
  rw [List.eq_of_mem_replicate hrep]

/-- Settles O14: the ranking is an insertion sort of the usable tubes, and a split is its 15s and its rest. -/
theorem tubesRankedAndPlansSplit : Obligations.TubesRankedAndPlansSplit := by
  unfold Obligations.TubesRankedAndPlansSplit
  refine ⟨fun cash avail => ⟨(rankTubes_ordered cash avail).imp before_iff.mp, fun r => mem_rankTubes⟩,
    fun plan => List.flatMap_def, fun tube value coins => ⟨splitCoins_sum tube value coins,
      splitCoins_length tube value coins, fun c hc => ?_, fun c hc => splitCoins_dropLast hc⟩⟩
  obtain ⟨htube, hvalue, -⟩ := splitCoins_mem hc
  exact ⟨htube, hvalue, splitCoins_coins hc⟩

end Sys2Proof.Laws
end

section
/-! SUPPORT. The planner: the totals that plans reach, and the greatest plan of a total (R39 to R41). -/

namespace Sys2Proof.Laws
open Sys2Proof Sys2Proof.Machine

/-! ### The totals that plans reach -/

/-- Some plan within the available counts has this total (R39). -/
def Reaches (tubes : List RankedTube) (n : Nat) : Prop :=
  ∃ counts : List Nat, planFits counts tubes ∧ countsTotal counts tubes = n

theorem planFits_cons {k : Nat} {ks : List Nat} {t : RankedTube} {ts : List RankedTube} :
    planFits (k :: ks) (t :: ts) ↔ k ≤ t.avail ∧ planFits ks ts := List.forall₂_cons

theorem countsTotal_cons (k : Nat) (ks : List Nat) (t : RankedTube) (ts : List RankedTube) :
    countsTotal (k :: ks) (t :: ts) = k * t.value + countsTotal ks ts := by
  simp [countsTotal]

theorem reaches_nil {n : Nat} : Reaches [] n ↔ n = 0 := by
  constructor
  · rintro ⟨counts, hfits, rfl⟩
    cases hfits
    rfl
  · rintro rfl
    exact ⟨[], .nil, rfl⟩

/-- A total is reached with some number of the first tube's coins and the others for the rest. -/
theorem reaches_cons {t : RankedTube} {ts : List RankedTube} {n : Nat} :
    Reaches (t :: ts) n ↔ ∃ k, k ≤ t.avail ∧ k * t.value ≤ n ∧ Reaches ts (n - k * t.value) := by
  constructor
  · rintro ⟨counts, hfits, rfl⟩
    cases hfits with
    | @cons k _ ks _ hk hks =>
      rw [countsTotal_cons]
      exact ⟨k, hk, Nat.le_add_right _ _, ks, hks, (Nat.add_sub_cancel_left ..).symm⟩
  · rintro ⟨k, hk, hle, ks, hks, htotal⟩
    exact ⟨k :: ks, planFits_cons.mpr ⟨hk, hks⟩, by rw [countsTotal_cons, htotal, Nat.add_sub_cancel' hle]⟩

/-- No coins at all is a plan. -/
theorem reaches_zero : ∀ tubes : List RankedTube, Reaches tubes 0
  | [] => reaches_nil.mpr rfl
  | t :: ts => reaches_cons.mpr ⟨0, Nat.zero_le _, by simp, by simpa using reaches_zero ts⟩

/-- Bit n of the spread stands where bit n less some of the coins stood. -/
theorem spread_testBit (v : Nat) : ∀ (k m n : Nat),
    (spread v k m).testBit n = true ↔ ∃ j, j ≤ k ∧ j * v ≤ n ∧ m.testBit (n - j * v) = true
  | 0, m, n => by simp [spread]
  | k + 1, m, n => by
    rw [spread, Nat.testBit_or, Nat.testBit_shiftLeft, Bool.or_eq_true, Bool.and_eq_true, decide_eq_true_eq,
      spread_testBit v k m]
    constructor
    · rintro (h | ⟨hv, j, hj, hjv, h⟩)
      · exact ⟨0, Nat.zero_le _, by simp, by simpa using h⟩
      · refine ⟨j + 1, Nat.succ_le_succ hj, ?_, ?_⟩
        · rw [Nat.succ_mul]
          omega
        · rwa [Nat.succ_mul, Nat.add_comm, Nat.sub_add_eq]
    · rintro ⟨j, hj, hjv, h⟩
      cases j with
      | zero => exact .inl (by simpa using h)
      | succ j =>
        rw [Nat.succ_mul] at hjv h
        refine .inr ⟨by omega, j, Nat.le_of_succ_le_succ hj, by omega, ?_⟩
        rwa [Nat.add_comm, Nat.sub_add_eq] at h

/-- The bits of `reach` are the totals up to the amount that plans reach. -/
theorem reach_testBit {a : Nat} : ∀ {tubes : List RankedTube}, (∀ t ∈ tubes, 0 < t.value) → ∀ n : Nat,
    (reach a tubes).testBit n = true ↔ n ≤ a ∧ Reaches tubes n
  | [], _, n => by
    rw [reach, reaches_nil, Nat.testBit_one_eq_true_iff_self_eq_zero]
    exact ⟨fun h => ⟨h ▸ Nat.zero_le a, h⟩, And.right⟩
  | t :: ts, hpos, n => by
    have htv : 0 < t.value := hpos t List.mem_cons_self
    rw [reach, Nat.testBit_mod_two_pow, Bool.and_eq_true, decide_eq_true_eq, Nat.lt_succ_iff, spread_testBit,
      reaches_cons]
    refine and_congr_right fun hn => exists_congr fun k => ?_
    rw [reach_testBit (fun u hu => hpos u (List.mem_cons_of_mem _ hu)), le_min_iff]
    constructor
    · rintro ⟨⟨hk, -⟩, hkn, -, hrest⟩
      exact ⟨hk, hkn, hrest⟩
    · rintro ⟨hk, hkn, hrest⟩
      exact ⟨⟨hk, (Nat.le_div_iff_mul_le htv).mpr (hkn.trans hn)⟩, hkn, (Nat.sub_le _ _).trans hn, hrest⟩

theorem reach_ne_zero {a : Nat} {tubes : List RankedTube} (hpos : ∀ t ∈ tubes, 0 < t.value) :
    reach a tubes ≠ 0 := by
  have hbit := (reach_testBit hpos 0).mpr ⟨Nat.zero_le a, reaches_zero tubes⟩
  intro hzero
  rw [hzero, Nat.zero_testBit] at hbit
  cases hbit

/-- R41: the highest bit is the largest total that a plan reaches without passing the amount. -/
theorem reach_log2 {a : Nat} {tubes : List RankedTube} (hpos : ∀ t ∈ tubes, 0 < t.value) :
    (reach a tubes).log2 ≤ a ∧ Reaches tubes (reach a tubes).log2 ∧
      ∀ n, n ≤ a → Reaches tubes n → n ≤ (reach a tubes).log2 := by
  have hne := reach_ne_zero (a := a) hpos
  obtain ⟨hle, hr⟩ := (reach_testBit hpos _).mp (Nat.testBit_log2 hne)
  refine ⟨hle, hr, fun n hn h => (Nat.le_log2 hne).mpr ?_⟩
  exact Nat.ge_two_pow_of_testBit ((reach_testBit hpos n).mpr ⟨hn, h⟩)

/-! ### The greatest plan of a total (R40) -/

/-- The count picked leaves a remainder of the set where any count does, and is the largest that does. -/
theorem pickCount_greatest {v rest m : Nat} : ∀ {k j : Nat}, j ≤ k → m.testBit (rest - j * v) = true →
    j ≤ pickCount v rest m k ∧ m.testBit (rest - pickCount v rest m k * v) = true
  | 0, j, hj, h => by
    obtain rfl := Nat.le_zero.mp hj
    exact ⟨le_rfl, h⟩
  | k + 1, j, hj, h => by
    unfold pickCount
    split
    case isTrue hk => exact ⟨hj, hk⟩
    case isFalse hk =>
      have hne : j ≠ k + 1 := fun he => hk (he ▸ h)
      exact pickCount_greatest (by omega) h

/-- R40: the first tube's number is the largest that leaves a total the others reach. -/
theorem firstCount_greatest {t : RankedTube} {ts : List RankedTube} (hpos : ∀ u ∈ t :: ts, 0 < u.value)
    {rest j : Nat} (hj : j ≤ t.avail) (hjv : j * t.value ≤ rest) (h : Reaches ts (rest - j * t.value)) :
    let k := pickCount t.value rest (reach rest ts) (min t.avail (rest / t.value))
    j ≤ k ∧ k ≤ t.avail ∧ k * t.value ≤ rest ∧ Reaches ts (rest - k * t.value) := by
  obtain ⟨htv, hts⟩ := List.forall_mem_cons.mp hpos
  have hbound : j ≤ min t.avail (rest / t.value) := le_min hj ((Nat.le_div_iff_mul_le htv).mpr hjv)
  obtain ⟨hle, hbit⟩ := pickCount_greatest hbound ((reach_testBit hts _).mpr ⟨Nat.sub_le _ _, h⟩)
  obtain ⟨havail, hdiv⟩ := le_min_iff.mp (pickCount_le t.value rest (reach rest ts) (min t.avail (rest / t.value)))
  exact ⟨hle, havail, (Nat.le_div_iff_mul_le htv).mp hdiv, ((reach_testBit hts _).mp hbit).2⟩

/-- R40: for a total that a plan reaches, the plan made fits and has that total. -/
theorem planFor_reaches : ∀ {tubes : List RankedTube} {rest : Nat}, (∀ t ∈ tubes, 0 < t.value) →
    Reaches tubes rest → planFits (planFor rest tubes) tubes ∧ countsTotal (planFor rest tubes) tubes = rest
  | [], rest, _, h => by
    obtain rfl := reaches_nil.mp h
    exact ⟨.nil, rfl⟩
  | t :: ts, rest, hpos, h => by
    obtain ⟨j, hj, hjv, hrest⟩ := reaches_cons.mp h
    obtain ⟨-, hk, hkv, hleft⟩ := firstCount_greatest hpos hj hjv hrest
    obtain ⟨hfits, htotal⟩ := planFor_reaches (fun u hu => hpos u (List.mem_cons_of_mem _ hu)) hleft
    rw [planFor]
    exact ⟨planFits_cons.mpr ⟨hk, hfits⟩, by rw [countsTotal_cons, htotal, Nat.add_sub_cancel' hkv]⟩

/-- R40: every other plan of that total is smaller. -/
theorem planFor_greatest : ∀ {tubes : List RankedTube} {rest : Nat} {other : List Nat},
    (∀ t ∈ tubes, 0 < t.value) → planFits other tubes → countsTotal other tubes = rest →
    other = planFor rest tubes ∨ List.Lex (· < ·) other (planFor rest tubes)
  | [], rest, other, _, hfits, _ => by
    cases hfits
    exact .inl rfl
  | t :: ts, rest, other, hpos, hfits, htotal => by
    cases hfits with
    | @cons j _ js _ hj hjs =>
      rw [countsTotal_cons] at htotal
      have hjv : j * t.value ≤ rest := htotal ▸ Nat.le_add_right _ _
      have hleft : countsTotal js ts = rest - j * t.value := by omega
      obtain ⟨hle, -⟩ := firstCount_greatest hpos hj hjv ⟨js, hjs, hleft⟩
      rw [planFor]
      rcases hle.lt_or_eq with hlt | heq
      · exact .inr (.rel hlt)
      · rw [← heq]
        rcases planFor_greatest (fun u hu => hpos u (List.mem_cons_of_mem _ hu)) hjs hleft with hsame | hless
        · exact .inl (congrArg _ hsame)
        · exact .inr (.cons hless)

/-! ### The result (R41) -/

theorem planTotal_zip (tubes : List RankedTube) (counts : List Nat) :
    planTotal (tubes.zip counts) = countsTotal counts tubes := by
  rw [planTotal, countsTotal, List.zip, List.map_zipWith, List.zipWith_comm]

/-- R41: the plan is that of the largest total reached. -/
theorem makePlan_plan (amount : Nat) (tubes : List RankedTube) :
    (makePlan amount tubes).plan = tubes.zip (planFor (reach amount tubes).log2 tubes) := rfl

/-- R41: the total is the largest that a plan reaches without passing the amount. -/
theorem makePlan_total {amount : Nat} {tubes : List RankedTube} (hpos : ∀ t ∈ tubes, 0 < t.value) :
    (makePlan amount tubes).total = (reach amount tubes).log2 := by
  obtain ⟨-, hreach, -⟩ := reach_log2 (a := amount) hpos
  exact (planTotal_zip _ _).trans (planFor_reaches hpos hreach).2

theorem makePlan_shortfall (amount : Nat) (tubes : List RankedTube) :
    (makePlan amount tubes).shortfall = amount - (makePlan amount tubes).total := rfl

theorem makePlan_exact (amount : Nat) (tubes : List RankedTube) :
    (makePlan amount tubes).exact = true ↔ amount = (makePlan amount tubes).total := decide_eq_true_iff

/-- Settles O15: the highest bit of the totals reached gives the total, and tube by tube the largest count that leaves
a total the others reach gives the greatest plan of it. -/
theorem plannerGivesGreatestPlan : Obligations.PlannerGivesGreatestPlan := by
  unfold Obligations.PlannerGivesGreatestPlan
  intro amount tubes hpos
  obtain ⟨hle, hreach, hmost⟩ := reach_log2 (a := amount) hpos
  obtain ⟨hfits, hcounts⟩ := planFor_reaches hpos hreach
  refine ⟨planFor (reach amount tubes).log2 tubes, makePlan_plan amount tubes, hfits, ?_, ?_, ?_, ?_⟩
  · rw [makePlan_total hpos, hcounts]
  · rw [makePlan_shortfall, makePlan_total hpos, Nat.add_sub_cancel' hle]
  · rw [makePlan_exact, makePlan_shortfall, makePlan_total hpos]
    omega
  · intro other hother hamount
    rw [makePlan_total hpos]
    exact ⟨hmost _ hamount ⟨other, hother, rfl⟩, planFor_greatest hpos hother⟩

end Sys2Proof.Laws
end

section
/-! SUPPORT. TUBE_OUT (R53): its checks in their order, and the first PAY of a manual operation (R45). -/

namespace Sys2Proof.Laws
open Sys2Proof Sys2Proof.Machine

/-! ### A request and its ANSWER (R180) -/

/-- What a request answers whose own effect runs to `w`, which is `u` but for the port and holds the ANSWER. -/
theorem request_runs {s u w : State} {h : ReqHeader} {c : Instr} {kind : ReqKind} {body : State → Out} {k : Nat}
    {a : Answer} (ht : s.takes h) (hc : exec c s = takeRequest h kind body s)
    (hruns : Runs k (body (s.noteHeader h)) (w, [])) (hk : k ≤ 8192) (hu : PortAside u w)
    (hslot : w.port.slot = some a) :
    ∃ t, exec c s = .next t ∧ LinksOnly (u.setPort w.port) t ∧ t.newestAnswer = some a := by
  have hw := hruns.runOut hk
  have hu' : LinksOnly (u.setPort w.port) (runOut (body (s.noteHeader h))) := by rwa [hw]
  rw [hc, takeRequest_taken h kind body s ht]
  exact finish_answered hu' (by rwa [hw])

/-- A refused request: its ANSWER, and nothing taken. -/
theorem request_refused {s : State} {h : ReqHeader} {c : Instr} {kind : ReqKind} {body : State → Out}
    {code : ResultCode} (ht : s.takes h) (hc : exec c s = takeRequest h kind body s)
    (hb : body (s.noteHeader h) = refuse kind code (s.noteHeader h)) :
    ∃ t : State, exec c s = .next t ∧ LinksOnly { s with port := answeredPort s h kind code .empty } t ∧
      t.newestAnswer = some (answerTo s h kind code .empty) := by
  rw [hc, takeRequest_taken h kind body s ht, hb, refuse_noteHeader]
  exact request_answered s _ _ rfl

/-! ### The checks of a TUBE_OUT (R53, R114) -/

section
variable {s : State} {n : Nat} (count : Nat)

theorem tubeOutRequest_badIndex (hn : 6 ≤ n) : tubeOutRequest n count s = refuse .tubeOut .badIndex s :=
  dif_neg (Nat.not_lt.mpr hn)

theorem tubeOutRequest_closed (hn : n < 6) (hm : s.mode.effective ≠ .service) :
    tubeOutRequest n count s = refuse .tubeOut .closed s :=
  (dif_pos hn).trans (if_pos hm)

theorem tubeOutRequest_busy (hn : n < 6) (hm : s.mode.effective = .service) (hb : tubeOutBusy s = true) :
    tubeOutRequest n count s = refuse .tubeOut .busy s :=
  (dif_pos hn).trans ((if_neg (not_not.mpr hm)).trans (if_pos hb))

theorem tubeOutRequest_absent (hn : n < 6) (hm : s.mode.effective = .service) (hb : tubeOutBusy s = false)
    (ha : s.active coinMech = false) : tubeOutRequest n count s = refuse .tubeOut .absent s := by
  rw [tubeOutRequest, dif_pos hn, if_neg (not_not.mpr hm), hb, ha]
  rfl

theorem tubeOutRequest_pays (tube : TubeId) (hm : s.mode.effective = .service) (hb : tubeOutBusy s = false)
    (ha : s.active coinMech = true) :
    tubeOutRequest tube.val count s = payManual tube (max 1 (min 250 count))
      (s.answer .tubeOut (takenCode (clampNat 1 250 count).2) .empty) := by
  rw [tubeOutRequest, dif_pos tube.isLt, if_neg (not_not.mpr hm), hb, ha]
  rfl
end

theorem noteHeader_tubeOutBusy (s : State) (h : ReqHeader) : tubeOutBusy (s.noteHeader h) = tubeOutBusy s := by
  simp [tubeOutBusy, State.payIdle, State.saleIdle]

theorem noteHeader_active (s : State) (h : ReqHeader) (st : StationId) :
    (s.noteHeader h).active st = s.line.stations[st].active := by
  rw [State.active, State.noteHeader_line]

/-- R53, R114: neither ground of BUSY. -/
theorem tubeOutBusy_free {s : State} (hp : s.payout.phase = .idle)
    (hs : s.sale.current = none ∨ Config.tubeOutWaitsForSale = false) : tubeOutBusy s = false := by
  rw [← Bool.not_eq_true, tubeOutBusy_iff]
  rintro (h | ⟨h, hwait⟩)
  · simp [State.payIdle, hp] at h
  · rcases hs with hs | hs
    · simp [State.saleIdle, hs] at h
    · rw [hs] at hwait
      cases hwait

/-- R183: the code says whether the count was clamped to 1 to 250. -/
theorem takenCode_count (n : Nat) :
    takenCode (clampNat 1 250 n).2 = if n = 0 ∨ 250 < n then ResultCode.clamped else .ok := by
  simp only [takenCode, clampNat_snd, Nat.lt_one_iff]

/-! ### A command paid at once (R45) -/

/-- R45: the record with a command's PAY handed at `now`. -/
def commandPaying (p : Payout) (now : Nat) (c : PayCmd) (more : List PayCmd) (joined : Bool) : Payout :=
  { p with phase := .paying, inFlight := some c, remaining := more, limit := some (now + 30000)
           entries := askEntry p.entries c.tube c.coins, payJoined := joined }

/-- R45: the state with a command's unit granted and its PAY handed. -/
def commandPaid (g : State) (c : PayCmd) (more : List PayCmd) (joined : Bool) : State :=
  ((g.setLoad { g.load with grants := g.load.grants ++ [{ holder := .payout, units := 1 }] }).setLine
    (g.hand coinMech (payRequest c)).line).setPayout (commandPaying g.payout g.now c more joined)

/-- R45: the next command of a record takes its step to LOAD_WAIT. -/
theorem payNext_asks {g : State} {c : PayCmd} {more : List PayCmd} (hr : g.payout.remaining = c :: more)
    (hh : g.payout.manual = true ∨ commandHolds g c = true) :
    runOne .payNext g = (g.setPayout { g.payout with phase := .loadWait, inFlight := some c, remaining := more },
      [.load (.ask .payout)]) := by
  show payNext g = _
  rw [payNext, hr]
  exact if_pos hh

/-- R45: granted in LOAD_WAIT, the unit is PAYING. -/
theorem payGiven_pays {g : State} {c : PayCmd} (hp : g.payout.phase = .loadWait) (hc : g.payout.inFlight = some c) :
    ∃ joined, runOne (.give .payout 1) g = ((g.hand coinMech (payRequest c)).setPayout
      (commandPaying g.payout g.now c g.payout.remaining joined), []) := by
  have hpay : (g.hand coinMech (payRequest c)).payout = g.payout := by
    rw [g.hand_eq coinMech (payRequest c)]
    rfl
  refine ⟨(g.handFrame coinMech (payRequest c)).2, ?_⟩
  show payGiven g = _
  rw [payGiven, hp, hc]
  dsimp only
  rw [handFrame_fst, hpay, commandPaying, ← hc]
  rfl

/-- R45, R119: with a unit free, the next command is asked for, granted and paid. -/
theorem payNext_pays {g : State} {c : PayCmd} {more : List PayCmd} (hr : g.payout.remaining = c :: more)
    (hh : g.payout.manual = true ∨ commandHolds g c = true) (hq : g.load.requests = [])
    (hg : ∀ x ∈ g.load.grants, x.holder ≠ .payout) (hf : 1 ≤ g.load.free) :
    ∃ (w : State) (joined : Bool), Runs 4 (g, [.payNext]) (w, []) ∧ PortAside (commandPaid g c more joined) w ∧
      w.port.slot = g.port.slot := by
  let waiting := g.setPayout { g.payout with phase := .loadWait, inFlight := some c, remaining := more }
  let granted := waiting.setLoad { g.load with grants := g.load.grants ++ [{ holder := .payout, units := 1 }] }
  have hask := ask_runs (s := waiting) (who := .payout) (js := []) hq hg hf rfl
  obtain ⟨joined, hgive⟩ := payGiven_pays (g := granted) rfl rfl
  let w := (granted.hand coinMech (payRequest c)).setPayout (commandPaying g.payout g.now c more joined)
  refine ⟨w, joined, (((Runs.step (payNext_asks hr hh)).trans hask).trans (Runs.quiet hgive)).trans
    (handDone_runs w []), ?_, (granted.hand_grows coinMech (payRequest c)).slot⟩
  have hline : (granted.hand coinMech (payRequest c)).line = (g.hand coinMech (payRequest c)).line := by
    rw [State.hand_line, State.hand_line]
    rfl
  have l := (LinksOnly.hand_line granted coinMech (payRequest c)).setPayout
    (commandPaying g.payout g.now c more joined)
  rw [hline] at l
  exact l.aside

/-! ### A TUBE_OUT taken (R53) -/

/-- R53: the manual operation begun, with the ANSWER beside it. -/
def manualBegun (s : State) (port : Port) (commands : List PayCmd) : State :=
  (s.setPort port).setPayout { Payout.powerOn with phase := .plan, manual := true, remaining := commands }

/-- R53, R54: a manual operation pays its first command without a check against the tube table. -/
theorem manualBegun_pays {s : State} {port : Port} {first : PayCmd} {more : List PayCmd}
    (hq : s.load.requests = []) (hg : ∀ g ∈ s.load.grants, g.holder ≠ .payout) (hf : 1 ≤ s.load.free) :
    ∃ (w : State) (joined : Bool), Runs 4 (manualBegun s port (first :: more), [.payNext]) (w, []) ∧
      PortAside { s with
        payout := { phase := .paying, manual := true, remaining := more, inFlight := some first, typesAtPlan := []
                    limit := some (s.now + 30000), paid := 0, owed := 0
                    entries := [{ tube := first.tube, asked := first.coins, paid := 0, ending := none }]
                    payJoined := joined }
        load := { s.load with grants := s.load.grants ++ [{ holder := .payout, units := 1 }] }
        line := (s.hand coinMech (payRequest first)).line } w ∧
      w.port.slot = port.slot := by
  let g := manualBegun s port (first :: more)
  obtain ⟨w, joined, hruns, haside, hslot⟩ := payNext_pays (g := g) rfl (.inl rfl) hq hg hf
  have hline : (g.hand coinMech (payRequest first)).line = (s.hand coinMech (payRequest first)).line := by
    rw [State.hand_line, State.hand_line]
    rfl
  rw [commandPaid, hline] at haside
  exact ⟨w, joined, hruns, haside, hslot⟩

/-- Settles O41: each check refuses in its turn, and an operation that passes them all pays its first command. -/
theorem tubeOutPays : Obligations.TubeOutPays := by
  unfold Obligations.TubeOutPays
  intro s h n k ht
  have refused {code : ResultCode} (hb : tubeOutRequest n.toNat k.toNat (s.noteHeader h) = refuse .tubeOut code _) :=
    request_refused (c := .tubeOut h n k) ht rfl hb
  refine ⟨fun hn => ?_, fun hn hm => ?_, fun hn hm hp => ?_, fun hn hm hs hwait => ?_, fun hn hm hp hs ha => ?_, ?_⟩
  · exact refused (tubeOutRequest_badIndex _ hn)
  · exact refused (tubeOutRequest_closed _ hn (by simpa using hm))
  · refine refused (tubeOutRequest_busy _ hn (by simpa using hm) ?_)
    rw [noteHeader_tubeOutBusy, tubeOutBusy_iff]
    exact .inl (decide_eq_false hp)
  · refine refused (tubeOutRequest_busy _ hn (by simpa using hm) ?_)
    rw [noteHeader_tubeOutBusy, tubeOutBusy_iff]
    exact .inr ⟨by simpa [State.saleIdle, Option.isSome_iff_ne_none] using hs, hwait⟩
  · refine refused (tubeOutRequest_absent _ hn (by simpa using hm) ?_ ?_)
    · rw [noteHeader_tubeOutBusy, tubeOutBusy_free hp hs]
    · rw [noteHeader_active, ha]
  · intro tube first more hn hm hp hs ha hq hg hf hcmd
    obtain rfl : first.tube = tube := (splitCoins_mem (hcmd ▸ List.mem_cons_self)).1
    let code := takenCode (clampNat 1 250 k.toNat).2
    have hbody : tubeOutRequest n.toNat k.toNat (s.noteHeader h) =
        (manualBegun s (answeredPort s h .tubeOut code .empty) (first :: more), [.payNext]) := by
      rw [hn, tubeOutRequest_pays _ _ (by simpa using hm) (by rw [noteHeader_tubeOutBusy, tubeOutBusy_free hp hs])
        (by rw [noteHeader_active, ha]), State.noteHeader_answer, payManual, ← hcmd]
      rfl
    obtain ⟨w, joined, hruns, haside, hslot⟩ :=
      manualBegun_pays (port := answeredPort s h .tubeOut code .empty) (first := first) (more := more) hq hg hf
    obtain ⟨t, hexec, hlinks, hans⟩ :=
      request_runs (c := .tubeOut h n k) ht rfl (hbody ▸ hruns) (by decide) haside hslot
    rw [← takenCode_count]
    exact ⟨t, w.port, joined, hexec, hlinks, hans⟩

end Sys2Proof.Laws
end

section
/-! SUPPORT. What can happen to the selection map, and that each of it keeps the shape of the links and every cursor in
its own list (R58, R61, R69). -/

namespace Sys2Proof.Laws
open Sys2Proof Sys2Proof.Machine

/-! ### What the shape reads -/

/-- R58, R61, of a map. -/
def MapShaped (m : SelMap) : Prop :=
  m.linksKept = true ∧ ∀ (i : SelectionId) (c : ColumnId), (m.selections[i]).cursor = some c → c ∈ m.list i

theorem linksShaped_iff (s : State) : LinksShaped s ↔ MapShaped s.map := Iff.rfl

/-- The part of a map that the shape reads: the selection records and the columns' nexts. -/
def linkTable (m : SelMap) : Vector Selection 100 × Vector (Option ColumnId) 64 :=
  (m.selections, m.columns.map Column.next)

@[simp] theorem linkTable_recompute (m : SelMap) : linkTable m.recompute = linkTable m := rfl

@[simp] theorem linkTable_zoneHealth (m : SelMap) (v : Vector HealthState 3) :
    linkTable { m with zoneHealth := v } = linkTable m := rfl

/-- A column record of the same next leaves the table. -/
theorem linkTable_setColumn {m : SelMap} {c : ColumnId} {r : Column} (h : r.next = (m.columns[c]).next) :
    linkTable { m with columns := m.columns.set c r } = linkTable m := by
  refine Prod.ext rfl (Vector.ext fun i hi => ?_)
  simp only [linkTable, Vector.getElem_map, Vector.getElem_set]
  split
  · rename_i hc
    subst hc
    exact h
  · rfl

section
variable {a b : SelMap}

theorem next_of_linkTable (h : linkTable a = linkTable b) (c : ColumnId) :
    (a.columns[c]).next = (b.columns[c]).next := by
  have hc := congrArg (fun t => t.2[c]) h
  simpa [linkTable] using hc

theorem list_of_linkTable (h : linkTable a = linkTable b) (i : SelectionId) : a.list i = b.list i := by
  have hs : a.selections = b.selections := congrArg Prod.fst h
  unfold SelMap.list SelMap.chain
  rw [hs]
  exact chainFrom_congr (next_of_linkTable h) 64 _

theorem links_eq (m : SelMap) : m.links =
    ((linkTable m).1.toList.filterMap Selection.head) ++ ((linkTable m).2.toList.filterMap id) := by
  simp [SelMap.links, linkTable, Vector.toList_map, List.filterMap_map]

theorem linksKept_of_linkTable (h : linkTable a = linkTable b) : a.linksKept = b.linksKept := by
  simp only [SelMap.linksKept, links_eq, h, chainEnds_congr (next_of_linkTable h)]

/-- Maps of one link table have the shape together. -/
theorem MapShaped.of_linkTable (ha : MapShaped a) (h : linkTable b = linkTable a) : MapShaped b := by
  obtain ⟨hk, hc⟩ := ha
  have hs : b.selections = a.selections := congrArg Prod.fst h
  refine ⟨(linksKept_of_linkTable h).trans hk, fun i c hi => ?_⟩
  rw [list_of_linkTable h]
  exact hc i c (hs ▸ hi)

theorem MapShaped.of_eq (ha : MapShaped a) (h : b = a) : MapShaped b := h ▸ ha
end

/-- R58: without a link the links have their one shape, and no cursor is set. -/
theorem powerOn_mapShaped : MapShaped SelMap.powerOn := reset_linksShaped

/-! ### A selection of the same head -/

section
variable (m : SelMap) (i : SelectionId)

/-- A selection record of the same head leaves the links. -/
theorem linksKept_setSelection {r : Selection} (h : r.head = (m.selections[i]).head) :
    SelMap.linksKept { m with selections := m.selections.set i r } = m.linksKept := by
  rw [linksKept_selection m i h]
  congr 1
  simp

/-- A selection record of the same head leaves every list. -/
theorem list_setSelection {r : Selection} (h : r.head = (m.selections[i]).head) (j : SelectionId) :
    SelMap.list { m with selections := m.selections.set i r } j = m.list j := by
  unfold SelMap.list SelMap.chain
  congr 1
  simp only [Fin.getElem_fin, Vector.getElem_set]
  split
  · rename_i hij
    simp only [← hij]
    exact h
  · rfl
end

/-! ### The cursor moved by a sale (R69) -/

/-- A chain that ends is closed under next. -/
theorem next_mem_chainFrom {cols : Vector Column 64} {c d : ColumnId} (hd : (cols[c]).next = some d) :
    ∀ {n : Nat} {h : Option ColumnId}, chainEnds cols n h = true → c ∈ chainFrom cols n h →
      d ∈ chainFrom cols n h
  | 0, none, _, hc => by simp [chainFrom] at hc
  | 0, some _, _, hc => by simp [chainFrom] at hc
  | n + 1, none, _, hc => by simp [chainFrom] at hc
  | n + 1, some x, he, hc => by
    rw [chainEnds] at he
    rw [chainFrom, List.mem_cons] at hc ⊢
    rcases hc with rfl | hc
    · rw [hd] at he ⊢
      cases n with
      | zero => cases he
      | succ n => exact .inr List.mem_cons_self
    · exact .inr (next_mem_chainFrom hd he hc)

theorem chainEnds_of_linksKept {m : SelMap} (h : m.linksKept = true) (c : Option ColumnId) :
    chainEnds m.columns 64 c = true := by
  cases c with
  | none => rfl
  | some c => exact List.all_eq_true.mp (Bool.and_eq_true_iff.mp h).2 c (List.mem_finRange c)

/-- R69: the moved cursor is a column of the list. -/
theorem movedCursor_mem {m : SelMap} {i : SelectionId} {c d : ColumnId} (hk : m.linksKept = true)
    (h : m.movedCursor i c = some d) : d ∈ m.list i := by
  unfold SelMap.movedCursor at h
  split at h
  · rename_i hc
    split at h
    · rename_i n hn
      obtain rfl : n = d := Option.some.inj h
      exact next_mem_chainFrom hn (chainEnds_of_linksKept hk _) hc
    · rw [SelMap.list, SelMap.chain, h]
      exact List.mem_cons_self
  · cases h

/-- R69. -/
theorem moveCursor_shaped {m : SelMap} (i : SelectionId) (c : ColumnId) (h : MapShaped m) :
    MapShaped (m.moveCursor i c) := by
  obtain ⟨hk, hcur⟩ := h
  fun_cases SelMap.moveCursor m i c with
  | case1 => exact ⟨hk, hcur⟩
  | case2 r _ =>
    refine ⟨(linksKept_setSelection m i (by rfl)).trans hk, fun j d hj => ?_⟩
    rw [list_setSelection m i (by rfl)]
    simp only [Fin.getElem_fin, Vector.getElem_set] at hj
    split at hj
    · rename_i hij
      obtain rfl : i = j := Fin.ext hij
      exact movedCursor_mem hk hj
    · exact hcur j d hj

/-! ### The cursors cleaned by a WRITE (R61) -/

section
variable (m : SelMap) (i : SelectionId)

/-- R61: a cleaned record is the record with its cursor kept where the column is in the list. -/
theorem cleanCursor_eq (r : Selection) :
    m.cleanCursor r = { r with cursor := r.cursor.filter fun c => decide (c ∈ m.chain r) } := by
  obtain ⟨price, head, search, cursor, approval⟩ := r
  cases cursor with
  | none => rfl
  | some c =>
    by_cases hc : c ∈ m.chain ⟨price, head, search, some c, approval⟩ <;>
      simp [SelMap.cleanCursor, Option.filter, hc]

theorem cleanCursors_selection :
    (m.cleanCursors.selections)[i] =
      { m.selections[i] with cursor := ((m.selections[i]).cursor).filter fun c => decide (c ∈ m.list i) } := by
  simp only [SelMap.cleanCursors, Fin.getElem_fin, Vector.getElem_ofFn]
  exact cleanCursor_eq m m.selections[i]

@[simp] theorem cleanCursors_columns : m.cleanCursors.columns = m.columns := by
  rw [SelMap.cleanCursors]

theorem cleanCursors_head : ((m.cleanCursors.selections)[i]).head = (m.selections[i]).head := by
  rw [cleanCursors_selection]

theorem cleanCursors_list : m.cleanCursors.list i = m.list i := by
  simp only [SelMap.list, SelMap.chain, cleanCursors_head, cleanCursors_columns]

theorem cleanCursors_linksKept : m.cleanCursors.linksKept = m.linksKept := by
  have hh : m.cleanCursors.selections.map Selection.head = m.selections.map Selection.head :=
    Vector.ext fun i hi => by simpa using cleanCursors_head m ⟨i, hi⟩
  have hl : m.cleanCursors.links = m.links := by
    have heads := congrArg (fun v => v.toList.filterMap id) hh
    simp only [Vector.toList_map, List.filterMap_map, Function.id_comp] at heads
    rw [SelMap.links, SelMap.links, heads, cleanCursors_columns]
  simp only [SelMap.linksKept, hl, cleanCursors_columns]

/-- R58, R61: links that were checked, and the cursors cleaned. -/
theorem cleanCursors_shaped {m : SelMap} (h : m.linksKept = true) : MapShaped m.cleanCursors := by
  refine ⟨(cleanCursors_linksKept m).trans h, fun i c hc => ?_⟩
  rw [cleanCursors_selection, Option.filter_eq_some_iff] at hc
  rw [cleanCursors_list]
  exact of_decide_eq_true hc.2
end

end Sys2Proof.Laws
end

section
/-! SUPPORT. The selection map: which inner steps and requests leave it as it is, and which leave its links (R58). -/

namespace Sys2Proof.Laws
open Sys2Proof Sys2Proof.Machine

section
variable (s : State)

/-! ### Inner steps that leave the map alone -/

@[simp] theorem loadStep_map (op : LoadOp) : (loadStep op s).1.map = s.map := by
  obtain ⟨l, hl, -⟩ := loadStep_eq op s
  rw [hl, State.setLoad_map]
@[simp] theorem reroute_map : s.reroute.map = s.map := (reroute_links s).map
@[simp] theorem tubeResult_map (n : TubeId) (f : Tube → Tube) : (s.tubeResult n f).map = s.map := by
  simp [State.tubeResult]
@[simp] theorem zoneReport_map (z : ZoneId) (c : ZoneCause) : (s.zoneReport z c).map = s.map := by
  simp [State.zoneReport]

@[simp] theorem coolAct_map : (coolAct s).1.map = s.map := by
  fun_cases coolAct s <;> simp
@[simp] theorem lockoutTest_map : (lockoutTest s).1.map = s.map := by
  fun_cases lockoutTest s <;> simp
@[simp] theorem endHeating_map : (endHeating s).1.map = s.map := rfl
@[simp] theorem heatTest_map : (heatTest s).1.map = s.map := by
  fun_cases heatTest s <;> simp
@[simp] theorem heatPast_map : (heatPast s).1.map = s.map := by
  fun_cases heatPast s <;> simp
@[simp] theorem endDrip_map : (endDrip s).1.map = s.map := rfl
@[simp] theorem dripTest_map : (dripTest s).1.map = s.map := by
  fun_cases dripTest s <;> simp
@[simp] theorem compressorGiven_map : (compressorGiven s).1.map = s.map := by
  fun_cases compressorGiven s <;> simp
@[simp] theorem heaterGiven_map : (heaterGiven s).1.map = s.map := by
  fun_cases heaterGiven s <;> simp

@[simp] theorem deposit_map (v : Nat) : (s.deposit v).map = s.map := by simp [State.deposit]
@[simp] theorem returnHold_map : s.returnHold.map = s.map := by simp [State.returnHold]
@[simp] theorem releaseAll_map : s.releaseAll.map = s.map := by simp [State.releaseAll]
@[simp] theorem oweWhole_map : s.oweWhole.map = s.map := rfl
@[simp] theorem payoutDone_map (o : Occasion) (m : Bool) (p w : Nat) (e : List TubeEntry) :
    (s.payoutDone o m p w e).map = s.map := by simp [State.payoutDone]
@[simp] theorem commandEnded_map (n : TubeId) (p v : Nat) (e : PayEnding) :
    (s.commandEnded n p v e).map = s.map := rfl
@[simp] theorem payStart_map : (payStart s).1.map = s.map := by
  fun_cases payStart s <;> simp +zetaDelta
@[simp] theorem payTell_map : (payTell s).1.map = s.map := by
  fun_cases payTell s <;> simp
@[simp] theorem payPlan_map : (payPlan s).1.map = s.map := by
  fun_cases payPlan s <;> simp +zetaDelta
@[simp] theorem payNext_map : (payNext s).1.map = s.map := by
  fun_cases payNext s <;> simp
@[simp] theorem payGiven_map : (payGiven s).1.map = s.map := by
  fun_cases payGiven s <;> simp +zetaDelta
@[simp] theorem payOweEnd_map : (payOweEnd s).1.map = s.map := by
  unfold payOweEnd
  split <;> simp
@[simp] theorem payLost_map : (payLost s).1.map = s.map := by
  fun_cases payLost s <;> simp
@[simp] theorem payEnd_map : (payEnd s).1.map = s.map := by simp [payEnd]
@[simp] theorem payCut_map : (payCut s).1.map = s.map := by
  fun_cases payCut s <;> simp

@[simp] theorem giveBack_map (b : BillId) (v : Nat) : (s.giveBack b v).map = s.map := by
  fun_cases State.giveBack s b v <;> simp
@[simp] theorem billEscrowed_map (b : BillId) : (billEscrowed b s).1.map = s.map := by
  fun_cases billEscrowed b s <;> simp
@[simp] theorem stackAsk_map : (stackAsk s).1.map = s.map := by
  fun_cases stackAsk s <;> simp
@[simp] theorem stackGiven_map : (stackGiven s).1.map = s.map := by
  fun_cases stackGiven s <;> simp
@[simp] theorem billStackedTail_map (b : BillId) (v : Nat) : (billStackedTail b v s).1.map = s.map := by
  fun_cases billStackedTail b v s <;> simp +zetaDelta
@[simp] theorem dropBillFrames_map : s.dropBillFrames.map = s.map := rfl
@[simp] theorem billReturned_map : (billReturned s).1.map = s.map := by
  fun_cases billReturned s <;> simp +zetaDelta
@[simp] theorem stackGaveUp_map : (stackGaveUp s).1.map = s.map := by
  unfold stackGaveUp
  split
  · split <;> simp
  · simp
@[simp] theorem stackUncertain_map : (stackUncertain s).1.map = s.map := by
  fun_cases stackUncertain s <;> simp
@[simp] theorem returnEscrow_map : s.returnEscrow.map = s.map := by
  fun_cases State.returnEscrow s <;> simp
@[simp] theorem escrowLost_map : (escrowLost s).1.map = s.map := by
  fun_cases escrowLost s <;> simp
@[simp] theorem cardOn_map (f : Option Nat) : (cardOn f s).1.map = s.map := rfl
@[simp] theorem cardClose_map : (cardClose s).1.map = s.map := by
  fun_cases cardClose s <;> simp

@[simp] theorem testGiven_map : (testGiven s).1.map = s.map := by
  fun_cases testGiven s <;> simp
@[simp] theorem testLeave_map : (testLeave s).1.map = s.map := by
  fun_cases testLeave s <;> simp
@[simp] theorem serviceLeft_map : (serviceLeft s).1.map = s.map := by simp [serviceLeft]
@[simp] theorem testResult_map (c : ColumnId) (o : TestOutcome) (d : DropField) (b : ColState) :
    (s.testResult c o d b).map = s.map := by simp [State.testResult]
@[simp] theorem testNever_map (c : ColumnId) (o : TestOutcome) : (s.testNever c o).map = s.map := by
  simp [State.testNever]

@[simp] theorem enterHost_map (x : Sale) : (enterHost x s).1.map = s.map := by simp [enterHost]
@[simp] theorem enterReader_map (x : Sale) : (enterReader x s).1.map = s.map := by simp [enterReader]
@[simp] theorem enterReaderOrTry_map (x : Sale) : (enterReaderOrTry x s).1.map = s.map := by
  fun_cases enterReaderOrTry x s <;> simp
@[simp] theorem enterStage_map (x : Sale) : (enterStage x s).1.map = s.map := by
  fun_cases enterStage x s <;> simp
@[simp] theorem acceptSale_map (o : Origin) (i : SelectionId) (c : Source) : (acceptSale o i c s).1.map = s.map := by
  fun_cases acceptSale o i c s <;> simp +zetaDelta
@[simp] theorem showStacking_map : s.showStacking.map = s.map := by
  fun_cases State.showStacking s <;> simp
@[simp] theorem stackOutcome_map (b : Bool) : (stackOutcome b s).1.map = s.map := by
  fun_cases stackOutcome b s <;> simp
@[simp] theorem saleTry_map : (saleTry s).1.map = s.map := by
  fun_cases saleTry s <;> simp +zetaDelta
@[simp] theorem refusedTry_map (x : Sale) (c : ColumnId) (r : TryResult) :
    (refusedTry x c r s).1.map = s.map := rfl
@[simp] theorem saleGiven_map : (saleGiven s).1.map = s.map := by
  fun_cases saleGiven s <;> simp [State.startSale]
@[simp] theorem saleDriven_map (c : ColumnId) (r : DriveResult) (n : Nat) (b : Bool) :
    (saleDriven c r n b s).1.map = s.map := by
  fun_cases saleDriven c r n b s <;> simp
@[simp] theorem tellReader_map (x : Sale) (o : SaleOutcome) : (tellReader x o s).map = s.map := by
  fun_cases tellReader x o s <;> simp +zetaDelta
@[simp] theorem saleEnd_map (o : SaleOutcome) : (saleEnd o s).1.map = s.map := by
  fun_cases saleEnd o s <;> simp +zetaDelta
@[simp] theorem saleReport_map (x : Sale) (o : SaleOutcome) (n : Nat) :
    (s.saleReport x o n).map = s.map := by simp [State.saleReport]
@[simp] theorem returnTest_map : (returnTest s).1.map = s.map := by
  fun_cases returnTest s <;> simp
@[simp] theorem returnAct_map : (returnAct s).1.map = s.map := by simp [returnAct]
@[simp] theorem leverPulled_map : (leverPulled s).1.map = s.map := by
  fun_cases leverPulled s <;> simp
@[simp] theorem saleNotice_map (c : ColumnId) (k : NoticeCause) : (saleNotice c k s).1.map = s.map := by
  fun_cases saleNotice c k s <;> simp
@[simp] theorem chargeAnswer_map (n : Nat) (b : Bool) : (chargeAnswer n b s).1.map = s.map := by
  fun_cases chargeAnswer n b s <;> simp +zetaDelta
@[simp] theorem cardLost_map : (cardLost s).1.map = s.map := by
  fun_cases cardLost s <;> simp
@[simp] theorem giveGrant_map (who : Requester) : (giveGrant who s).1.map = s.map := by
  cases who <;> simp [giveGrant]

theorem foldl_map {α : Type} (f : State → α → State) (h : ∀ s a, (f s a).map = s.map) :
    ∀ (l : List α) (s : State), (l.foldl f s).map = s.map
  | [], _ => rfl
  | a :: l, s => by rw [List.foldl_cons, foldl_map f h l, h]
@[simp] theorem leaveActive_map (st : StationId) (c : StationCause) :
    (leaveActive st c s).1.map = s.map := by
  unfold leaveActive
  dsimp only
  split
  · split <;> simp [foldl_map]
  · simp [foldl_map]
@[simp] theorem lineRestart_map : (lineRestart s).1.map = s.map := by
  fun_cases lineRestart s <;> simp
@[simp] theorem holdBreak_map : s.holdBreak.map = s.map := rfl
@[simp] theorem refreshSet_map : s.refreshSet.map = s.map := (LinksOnly.refreshSet s).map
@[simp] theorem modeNote_map (m : Mode) (c : ModeCause) : (s.modeNote m c).map = s.map := by
  simp [State.modeNote]
@[simp] theorem modeTail_map (b : Mode) (c : ModeCause) : (s.modeTail b c).map = s.map := by
  unfold State.modeTail
  fun_cases State.modePanel s.refreshSet b <;> simp
theorem modeChange_map {c : ModeCause} {o : Out} (h : modeChange c s = some o) : o.1.map = s.map := by
  simp only [modeChange] at h
  split at h
  · cases h
  · injection h with h
    subst h
    simp
@[simp] theorem modeRestart_map : (modeRestart s).1.map = s.map := by
  unfold modeRestart
  dsimp only
  split
  · rename_i o h
    rw [modeChange_map _ h]
    rfl
  · simp

/-! ### The items of a REPLY and the exchange -/

@[simp] theorem coinMoney_map (v : Nat) : (s.coinMoney v).1.map = s.map := by
  fun_cases State.coinMoney s v <;> simp
@[simp] theorem coinValueFault_map (v : Nat) (i : Item) : (s.coinValueFault v i).map = s.map := by
  fun_cases State.coinValueFault s v i <;> simp
@[simp] theorem coinSeen_map (c : CoinId) (d : CoinDest) : (coinSeen c d s).1.map = s.map := by
  fun_cases coinSeen c d s <;> simp +zetaDelta
@[simp] theorem billStackedItem_map (b : BillId) : (billStackedItem b s).1.map = s.map := by
  fun_cases billStackedItem b s <;> simp
@[simp] theorem billSeen_map (b : BillId) (e : BillEvent) : (billSeen b e s).1.map = s.map := by
  fun_cases billSeen b e s <;> simp
@[simp] theorem tubeSense_map (n : Fin 64) (e : Sense) : (tubeSense n e s).1.map = s.map := by
  fun_cases tubeSense n e s <;> simp
@[simp] theorem bookPaid_map (x : Nat) : (s.bookPaid x).map = s.map := by
  fun_cases State.bookPaid s x <;> simp
@[simp] theorem overpaidReport_map (n : Fin 64) (k a : Nat) : (s.overpaidReport n k a).map = s.map := by
  fun_cases State.overpaidReport s n k a <;> simp
@[simp] theorem paidItem_map (n : Fin 64) (k : Nat) : (paidItem n k s).1.map = s.map := by
  fun_cases paidItem n k s <;> simp [paidFull, paidShort, paidUnasked]
@[simp] theorem keyItem_map (n : Nat) : (keyItem n s).1.map = s.map := by
  fun_cases keyItem n s <;> simp

/-- An item's own effect, whichever block owns it (R165). -/
@[simp] theorem itemOut_map (st : StationId) (i : Item) : (itemOut st i s).1.map = s.map := by
  unfold itemOut
  split
  · cases i <;> simp
  · simp

@[simp] theorem endExchange_map : (endExchange s).1.map = s.map := by
  fun_cases endExchange s <;> simp +zetaDelta
@[simp] theorem probeLater_map (st : StationId) : (s.probeLater st).map = s.map := rfl
@[simp] theorem waitTaken_map (x : Exchange) : (waitTaken x s).1.map = s.map := by
  fun_cases waitTaken x s <;> simp +zetaDelta
@[simp] theorem missTaken_map (x : Exchange) : (missTaken x s).1.map = s.map := by
  fun_cases missTaken x s <;> simp +zetaDelta
@[simp] theorem mirror_map (x : Exchange) (p : List Byte) : (s.mirror x p).map = s.map := by
  fun_cases State.mirror s x p <;> simp +zetaDelta
@[simp] theorem flagUnknown_map (b : Bool) : (s.flagUnknown b).map = s.map := by
  fun_cases State.flagUnknown s b <;> simp
@[simp] theorem replyTaken_map (x : Exchange) (p : List Byte) (b : Bool) :
    (s.replyTaken x p b).map = s.map := by simp [State.replyTaken]
@[simp] theorem firstFrames_map (st : StationId) : (s.firstFrames st).map = s.map := by
  fun_cases State.firstFrames s st <;> simp +zetaDelta
@[simp] theorem joinReply_map (st : StationId) (r l : Byte) : (joinReply st r l s).map = s.map := by
  fun_cases joinReply st r l s <;> simp +zetaDelta
@[simp] theorem joinTaken_map (x : Exchange) (p : List Byte) : (joinTaken x p s).map = s.map := by
  fun_cases joinTaken x p s <;> simp

/-! ### Requests that leave the map alone -/

@[simp] theorem refuse_map (k : ReqKind) (c : ResultCode) : (refuse k c s).1.map = s.map := rfl
@[simp] theorem takenWrite_map (b : Bool) (l : List Job) : (takenWrite b s l).1.map = s.map := rfl
@[simp] theorem writeCoins_map (n : Nat) (l : List RawValue) : (writeCoins n l s).1.map = s.map := by
  fun_cases writeCoins n l s <;> simp
@[simp] theorem writeBills_map (n : Nat) (l : List RawValue) : (writeBills n l s).1.map = s.map := by
  fun_cases writeBills n l s <;> simp
@[simp] theorem writeTubes_map (n : Nat) (l : List RawTube) : (writeTubes n l s).1.map = s.map := by
  fun_cases writeTubes n l s <;> simp +zetaDelta
@[simp] theorem columnChanged_map (c : ColumnId) (b : ColState) (k : ColCause) :
    (s.columnChanged c b k).map = s.map := by
  fun_cases State.columnChanged s c b k <;> simp [State.columnReport]
@[simp] theorem writtenReports_map (m : SelMap) : (s.writtenReports m).map = s.map := by
  simp [State.writtenReports, foldl_map]
@[simp] theorem writeCalibration_map (n : Nat) (l : List RawBreakpoint) :
    (writeCalibration n l s).1.map = s.map := by
  fun_cases writeCalibration n l s <;> simp
@[simp] theorem writeChannels_map (n : Nat) (l : List Byte) : (writeChannels n l s).1.map = s.map := by
  fun_cases writeChannels n l s <;> simp
@[simp] theorem writeZones_map (n : Nat) (l : List RawZone) : (writeZones n l s).1.map = s.map := by
  fun_cases writeZones n l s <;> simp +zetaDelta
@[simp] theorem minOffWritten_map : (minOffWritten s).1.map = s.map := by
  fun_cases minOffWritten s <;> simp
@[simp] theorem writeSettings_map (n : Nat) (l : List RawSettings) :
    (writeSettings n l s).1.map = s.map := by
  fun_cases writeSettings n l s <;> simp +zetaDelta
@[simp] theorem writeRelays_map (n : Nat) (l : List Byte) : (writeRelays n l s).1.map = s.map := by
  fun_cases writeRelays n l s <;> simp +zetaDelta
@[simp] theorem readTable_map (t f c : Nat) : (readTable t f c s).1.map = s.map := by
  fun_cases readTable t f c s <;> simp
theorem modeChange_getD_map (c : ModeCause) : ((modeChange c s).getD s.only).1.map = s.map := by
  cases h : modeChange c s with
  | none => rfl
  | some o => exact modeChange_map s h
@[simp] theorem modeRequest_map (v : Byte) : (modeRequest v s).1.map = s.map := by
  fun_cases modeRequest v s with
  | case1 m _ => simp [setRequested, modeChange_getD_map]
  | case2 => simp
@[simp] theorem doorMoved_map (d : Door) : (doorMoved d s).1.map = s.map :=
  modeChange_getD_map (s.setMode { s.mode with door := d }) .door
@[simp] theorem fillRequest_map (b : Bool) : (fillRequest b s).1.map = s.map := by
  fun_cases fillRequest b s <;> simp +zetaDelta
@[simp] theorem selectRequest_map (n : Nat) : (selectRequest n s).1.map = s.map := by
  fun_cases selectRequest n s <;> simp +zetaDelta
@[simp] theorem approveRequest_map (n : Nat) (b : Bool) : (approveRequest n b s).1.map = s.map := by
  fun_cases approveRequest n b s <;> simp +zetaDelta
@[simp] theorem leverRequest_map : (leverRequest s).1.map = s.map := by simp [leverRequest]
@[simp] theorem testRequest_map (n : Nat) : (testRequest n s).1.map = s.map := by
  fun_cases testRequest n s <;> simp
@[simp] theorem tubeOutRequest_map (n c : Nat) : (tubeOutRequest n c s).1.map = s.map := by
  fun_cases tubeOutRequest n c s <;> simp +zetaDelta [payManual]
@[simp] theorem setDue_map : s.setDue.map = s.map := rfl
@[simp] theorem defrostRequest_map : (defrostRequest s).1.map = s.map := by
  fun_cases defrostRequest s <;> simp +zetaDelta
@[simp] theorem statusRequest_map (n : Nat) : (statusRequest n s).1.map = s.map := by
  fun_cases statusRequest n s <;> simp
@[simp] theorem restartRequest_map : (restartRequest s).1.map = s.map := by
  fun_cases restartRequest s <;> simp
@[simp] theorem relayRequest_map (st : Fin 8) (k : Byte) (p : List Byte) :
    (relayRequest st k p s).1.map = s.map := by
  have target : ∀ i, (relayTo i k p s).1.map = s.map := fun i => by
    fun_cases relayTo i k p s <;> simp +zetaDelta
  fun_cases relayRequest st k p s with
  | case1 => exact target _
  | case2 => rfl

/-! ### The wires' events that leave the map alone -/

@[simp] theorem strayDrop_map : s.strayDrop.map = s.map := by simp [State.strayDrop]
@[simp] theorem beamClears_map : s.beamClears.map = s.map := by
  fun_cases State.beamClears s <;> simp
@[simp] theorem senseCurrent_map (a : Attempt) (n : Nat) : (s.senseCurrent a n).map = s.map := by
  fun_cases State.senseCurrent s a n <;> simp
@[simp] theorem setHome_map (c : ColumnId) (b : Bool) : (s.setHome c b).map = s.map := rfl
@[simp] theorem homeOpens_map (a : Attempt) (n : Nat) : (homeOpens a n s).1.map = s.map := by
  fun_cases homeOpens a n s <;> simp +zetaDelta
@[simp] theorem currentChanges_map (a : Attempt) (n : Nat) : (currentChanges a n s).1.map = s.map := by
  fun_cases currentChanges a n s <;> simp +zetaDelta
@[simp] theorem takeSample_map (c : ChannelId) (n : Nat) : (takeSample c n s).1.map = s.map := by
  fun_cases takeSample c n s <;> simp +zetaDelta
@[simp] theorem payLimitEnds_map (c : PayCmd) : (payLimitEnds c s).1.map = s.map := by
  simp [payLimitEnds]

/-! ### A zone's health handed to the map (R63): the links stand -/

@[simp] theorem takeMap_map (m : SelMap) : (s.takeMap m).1.map = m.recompute := rfl
@[simp] theorem handHealth_linkTable (z : ZoneId) (h : Health) :
    linkTable (s.handHealth z h).1.map = linkTable s.map := by
  fun_cases State.handHealth s z h <;> simp +zetaDelta
@[simp] theorem healthSample_linkTable (z : ZoneId) (b : Bool) (c : Option ZoneCause) :
    linkTable (healthSample z b c s).1.map = linkTable s.map := by
  fun_cases healthSample z b c s <;> simp +zetaDelta
@[simp] theorem healthWrite_linkTable (l : List (ZoneId × Health × ZoneCause)) :
    linkTable (healthWrite l s).1.map = linkTable s.map := rfl
@[simp] theorem releaseRequest_linkTable (n : Nat) : linkTable (releaseRequest n s).1.map = linkTable s.map := by
  fun_cases releaseRequest n s <;> simp +zetaDelta

/-! ### A column after an attempt (R81, R88): the links stand -/

theorem afterSale_next (c : Column) (r : DriveResult) : (c.afterSale r).next = c.next := by
  fun_cases Column.afterSale c r <;> rfl
theorem afterTest_next (c : Column) (r : DriveResult) : (c.afterTest r).next = c.next := by
  fun_cases Column.afterTest c r <;> rfl
theorem columnAfter_linkTable {c : ColumnId} {r : Column} (k : ColCause) (h : r.next = (s.map.columns[c]).next) :
    linkTable (s.columnAfter c r k).map = linkTable s.map := by
  simp [State.columnAfter, State.driveColumn, linkTable_setColumn h]
@[simp] theorem handResult_linkTable (b : Bool) : linkTable (handResult b s).1.map = linkTable s.map := by
  fun_cases handResult b s with
  | case2 a _ c r => exact columnAfter_linkTable s _ (afterSale_next _ r)
  | case3 a _ c r => exact columnAfter_linkTable s _ (afterTest_next _ r)
  | _ => rfl
@[simp] theorem endAttempt_linkTable (a : Attempt) (r : DriveResult) (b : Bool) :
    linkTable (endAttempt a r b s).1.map = linkTable s.map := by simp [endAttempt]
@[simp] theorem stopEarly_linkTable (a : Attempt) (r : DriveResult) :
    linkTable (stopEarly a r s).1.map = linkTable s.map := by
  fun_cases stopEarly a r s <;> simp
@[simp] theorem turnDone_linkTable (a : Attempt) : linkTable (turnDone a s).1.map = linkTable s.map := by
  fun_cases turnDone a s <;> simp
@[simp] theorem windowEnds_linkTable (a : Attempt) : linkTable (windowEnds a s).1.map = linkTable s.map := by
  fun_cases windowEnds a s <;> simp
@[simp] theorem dropCounted_linkTable : linkTable (dropCounted s).1.map = linkTable s.map := by
  fun_cases dropCounted s <;> simp
@[simp] theorem beamBreaks_linkTable : linkTable (beamBreaks s).1.map = linkTable s.map := by
  fun_cases beamBreaks s <;> simp
@[simp] theorem homeCloses_linkTable (a : Attempt) : linkTable (homeCloses a s).1.map = linkTable s.map := by
  fun_cases homeCloses a s <;> simp +zetaDelta
@[simp] theorem openChecked_linkTable (a : Attempt) (n : Nat) :
    linkTable (openChecked a n s).1.map = linkTable s.map := by
  fun_cases openChecked a n s <;> simp
@[simp] theorem leaveHomeEnds_linkTable (a : Attempt) (n : Nat) :
    linkTable (leaveHomeEnds a n s).1.map = linkTable s.map :=
  endAttempt_linkTable _ _ _ _
end

end Sys2Proof.Laws
end
section
/-! SUPPORT. The shape of the links and the cursors in their lists, kept by every command (R58, R61). -/

namespace Sys2Proof.Laws
open Sys2Proof Sys2Proof.Machine

/-! ### Inner steps -/

/-- R69: the sale's end moves the cursor within its list. -/
theorem vendedCursor_shaped {s : State} (x : Sale) (o : SaleOutcome) (hs : LinksShaped s) :
    MapShaped (s.vendedCursor x o).map := by
  fun_cases State.vendedCursor s x o with
  | case1 t => exact moveCursor_shaped _ _ hs
  | case2 => exact hs

theorem saleFinish_shaped {s : State} (n : Nat) (hs : LinksShaped s) : MapShaped (saleFinish n s).1.map := by
  fun_cases saleFinish n s with
  | case3 x _ o => exact (vendedCursor_shaped x o hs).of_eq (by simp +zetaDelta)
  | _ => exact hs

/-- Every inner step but a sale's end leaves the links and the cursors. -/
theorem runOne_shaped (j : Job) (s : State) (hs : LinksShaped s) : MapShaped (runOne j s).1.map := by
  cases j with
  | saleFinish n => exact saleFinish_shaped n hs
  | _ => exact MapShaped.of_linkTable hs (by simp [runOne, State.saleRestart, State.showRestart])

theorem shaped_eventKept : EventKept LinksShaped where
  one := runOne_shaped
  cut _ h := h
  links _ _ l h := MapShaped.of_eq h l.map
  port _ _ h := h

/-! ### The exchange -/

theorem takeReply_shaped {s : State} (x : Exchange) (p : List Byte) (l : List Item) (b : Bool) (hs : LinksShaped s) :
    MapShaped (takeReply x p l b s).map := by
  fun_cases takeReply x p l b s with
  | case1 => exact MapShaped.of_eq hs (joinTaken_map s x p)
  | case2 =>
    exact shaped_eventKept.takeItems (fun i u hu => MapShaped.of_eq hu (itemOut_map u x.station i)) l _
      (MapShaped.of_eq hs (replyTaken_map s x p b))

theorem exchangeEnds_shaped {s : State} (x : Exchange) (j : ReplyJudgement) (hs : LinksShaped s) :
    MapShaped (Machine.exchangeEnds x j s).map := by
  fun_cases Machine.exchangeEnds x j s with
  | case1 p l b s1 =>
    exact shaped_eventKept.event ((takeReply_shaped x p l b hs).of_eq (endExchange_map _))
  | case2 => exact shaped_eventKept.event (MapShaped.of_eq hs (waitTaken_map s x))
  | case3 => exact shaped_eventKept.event (MapShaped.of_eq hs (by simp))

/-! ### The requests -/

/-- R58, R61: a selection WRITE is refused, or its links were checked and the cursors cleaned. -/
theorem writeSelections_shaped {s : State} (n : Nat) (l : List RawSelection) (hs : LinksShaped s) :
    MapShaped (writeSelections n l s).1.map := by
  fun_cases writeSelections n l s with
  | case2 _ rs clamped _ m hm o => exact (cleanCursors_shaped hm).of_linkTable (by simp +zetaDelta)
  | _ => exact hs

/-- R58, R61: so is a column WRITE; its reports leave the map. -/
theorem writeColumns_shaped {s : State} (n : Nat) (l : List RawColumn) (hs : LinksShaped s) :
    MapShaped (writeColumns n l s).1.map := by
  fun_cases writeColumns n l s with
  | case3 _ cs clamped _ _ m hm o => exact (cleanCursors_shaped hm).of_linkTable (by simp +zetaDelta)
  | _ => exact hs

section
variable {s : State}

theorem finish_shaped {before : State} {o : Out} (hs : LinksShaped s) (h : linkTable o.1.map = linkTable s.map) :
    NextHas LinksShaped (finish before o) :=
  shaped_eventKept.finish (MapShaped.of_linkTable hs h)

theorem takeRequest_shaped {h : ReqHeader} {k : ReqKind} {body : State → Out} (hs : LinksShaped s)
    (hb : ∀ u, linkTable (body u).1.map = linkTable u.map) : NextHas LinksShaped (takeRequest h k body s) :=
  shaped_eventKept.takeRequest (fun u hu => MapShaped.of_linkTable hu (hb u)) hs

theorem execRelay_shaped (h : ReqHeader) (k : Byte) (p : List Byte) (hs : LinksShaped s) :
    NextHas LinksShaped (execRelay h k p s) := by
  have hn := shaped_eventKept.noteHeader h hs
  fun_cases execRelay h k p s with
  | case1 => exact nextHas_next.mpr hn
  | case2 => exact finish_shaped hn (by simp +zetaDelta)

theorem takeCommand_shaped (c : Instr) (hs : LinksShaped s) : NextHas LinksShaped (takeCommand c s) := by
  cases c with
  | writeSelectionTable h i l => exact shaped_eventKept.takeRequest (fun u hu => writeSelections_shaped _ l hu) hs
  | writeColumnTable h i l => exact shaped_eventKept.takeRequest (fun u hu => writeColumns_shaped _ l hu) hs
  | relay h k p => exact execRelay_shaped h k p hs
  | read | writeCoinTable | writeBillTable | writeTubeTable | writeCalibrationTable | writeChannelTable
  | writeZoneTable | writeSettings | writeRelayTable | mode | select | approve | lever | testDrive | tubeOut | fill
  | release | defrost | status | restart =>
    exact takeRequest_shaped hs fun u => by simp
  | _ => exact nextHas_next.mpr hs

theorem takeJudged_shaped (j : FrameJudgement) (hs : LinksShaped s) : NextHas LinksShaped (takeJudged j s) := by
  fun_cases takeJudged j s with
  | case1 => exact nextHas_next.mpr hs
  | case2 => exact nextHas_next.mpr (MapShaped.of_eq hs (by unfold State.discardFrame; split <;> simp))
  | case3 c => exact takeCommand_shaped c hs
  | case4 h => exact takeRequest_shaped hs fun u => by simp

/-! ### Every command -/

/-- Every command keeps the shape: power-on leaves no link, the two WRITEs check theirs, a sale's end moves a cursor
within its list, and nothing else reaches the links. -/
theorem exec_shaped (c : Instr) (hs : LinksShaped s) : NextHas LinksShaped (exec c s) := by
  have quiet : ∀ {before : State} {o : Out}, linkTable o.1.map = linkTable s.map →
      NextHas LinksShaped (finish before o) := finish_shaped hs
  have ends : ∀ x j (u : State), u.map = s.map → LinksShaped (Machine.exchangeEnds x j u).stepEnd := fun x j u e =>
    shaped_eventKept.links _ _ (.stepEnd _) (exchangeEnds_shaped x j (MapShaped.of_eq hs e))
  cases c with
  | powerOn => exact nextHas_next.mpr powerOn_mapShaped
  | serviceFrameDiscarded l => exact takeJudged_shaped _ hs
  | serviceByteGap l => exact takeJudged_shaped _ hs
  | relay h k p => exact execRelay_shaped h k p hs
  | writeSelectionTable h i l => exact takeCommand_shaped (.writeSelectionTable h i l) hs
  | writeColumnTable h i l => exact takeCommand_shaped (.writeColumnTable h i l) hs
  | read | writeCoinTable | writeBillTable | writeTubeTable | writeCalibrationTable | writeChannelTable
  | writeZoneTable | writeSettings | writeRelayTable | mode | select | approve | lever | testDrive | tubeOut | fill
  | release | defrost | status | restart =>
    exact takeRequest_shaped hs fun u => by simp
  | holdAsserted => exact nextHas_next.mpr hs
  | doorSwitch | holdReleased | beamBroken | beamUnbroken | sample | temps => exact quiet (by simp)
  | replyReceived | replyWindowExpiry | replyGap =>
    simp only [exec, execReplyReceived, execReplyWindowExpiry, execReplyGap]
    split <;> simp [ends, hs]
  | frameTransmitted =>
    simp only [exec, execFrameTransmitted]
    split
    · exact nextHas_next.mpr hs
    · exact quiet rfl
  | lineBreakEnd | probeDue | retryAt | stackingLimitExpiry | payLimitExpiry
  | hostApprovalLimitExpiry | readerApprovalLimitExpiry | loadLimitExpiry =>
    simp only [exec, execLineBreakEnd, execProbeDue, execRetryAt, execStackingLimitExpiry,
      execPayLimitExpiry, execHostApprovalLimitExpiry, execReaderApprovalLimitExpiry, execLoadLimitExpiry]
    split <;> simp [quiet, hs]
  | homeSwitchOpens | homeSwitchCloses | motorCurrentChange | clearTimerExpiry | blockTimerExpiry
  | testLoadLimitExpiry | promotionTimerExpiry =>
    simp only [exec, execHomeSwitchOpens, execHomeSwitchCloses, execMotorCurrentChange, execClearTimerExpiry,
      execBlockTimerExpiry, execTestLoadLimitExpiry, execPromotionTimerExpiry]
    split <;> simp [quiet, hs]
  | openCheckExpiry | leaveHomeLimitExpiry | turnLimitExpiry | jamRunExpiry | dropWindowExpiry =>
    simp only [exec, execOpenCheckExpiry, execLeaveHomeLimitExpiry, execTurnLimitExpiry, execJamRunExpiry,
      execDropWindowExpiry]
    split
    · split <;> simp [quiet, hs]
    · simp [hs]
  | dutyPhaseExpiry | minOffPassed | startWindowExpiry | minRunExpiry | defrostIntervalReached | heaterTimerExpiry
  | dripTimerExpiry | excursionTimerExpiry =>
    simp only [exec, execDutyPhaseExpiry, execMinOffPassed, execStartWindowExpiry, execMinRunExpiry,
      execDefrostIntervalReached, execHeaterTimerExpiry, execDripTimerExpiry, execExcursionTimerExpiry]
    split <;> simp [quiet, hs]
end

/-- Settles O11: every command keeps the shape of the links and every cursor in its list, and a millisecond leaves the
map. -/
theorem linksShapedByStep : Obligations.LinksShapedByStep := by
  unfold Obligations.LinksShapedByStep
  intro s t hs ht
  rw [linksShaped_iff] at hs ⊢
  unfold step at ht
  split at ht
  · injection ht with ht
    exact ht ▸ MapShaped.of_eq hs (State.advanceTo_map s _)
  · rename_i c rest _
    exact exec_shaped c (s := s.setPending rest) hs t ht

end Sys2Proof.Laws
end

section
/-! SUPPORT. A form of the map taken by a request while no sale is in flight, and the WRITE of a selection record (R56,
R61, R64). -/

namespace Sys2Proof.Laws
open Sys2Proof Sys2Proof.Machine

/-! ### The map takes a form (R63, R64, R66) -/

/-- R66: while the sale unit is IDLE no notice is made. -/
theorem takeMap_idle {s : State} (m : SelMap) (h : s.sale.current = none) :
    s.takeMap m = (s.setMap m.recompute, []) := by
  rw [State.takeMap, h]
  rfl

/-- The ANSWER of a request is placed beside a change of the map. -/
theorem setMap_answer (s : State) (h : ReqHeader) (m : SelMap) (k : ReqKind) (c : ResultCode) (d : AnswerData) :
    ((s.noteHeader h).setMap m).answer k c d = (s.setMap m).setPort (answeredPort s h k c d) := by
  have apart : ((s.noteHeader h).setMap m).answer k c d = ((s.noteHeader h).answer k c d).setMap m := rfl
  rw [apart, State.noteHeader_answer]
  rfl

/-- R64: P_min is no part of what it is computed from. -/
theorem recompute_lowest (m : SelMap) : m.recompute.lowest = m.lowest := rfl

/-- R61, R64: cleaned and recomputed, a map is its tables with the cleaned records and their lowest price. -/
theorem cleaned_recompute (m : SelMap) : m.cleanCursors.recompute =
    { m with selections := m.cleanCursors.selections, pMin := m.cleanCursors.recompute.lowest } := by
  unfold SelMap.cleanCursors
  generalize (Vector.ofFn fun i : SelectionId => m.cleanCursor m.selections[i]) = cleaned
  rfl

theorem recompute_list (m : SelMap) (i : SelectionId) : m.recompute.list i = m.list i := rfl

/-! ### A single record put in place -/

theorem putRecords_single {α β : Type} {n : Nat} (v : Vector α n) (i : Fin n) (b : β) (f : α → β → α) :
    putRecords v i.val [b] f = v.set i (f v[i] b) := by
  refine Vector.ext fun k hk => ?_
  by_cases hik : i.val = k
  · have hat := putRecords_at v i.val [b] f ⟨k, hk⟩ b hik.le (by simp [hik])
    subst hik
    simpa using hat
  · have hout := putRecords_outside v i.val [b] f ⟨k, hk⟩ (by simp; omega)
    simpa [Vector.getElem_set, hik] using hout

/-! ### Reading the record (R177) -/

/-- R177: a link byte names a column, or is 0xFF. -/
theorem readLink_eq {b : Byte} {l : Option ColumnId}
    (h : (∃ c : ColumnId, b.toNat = c.val ∧ l = some c) ∨ (b = 0xFF#8 ∧ l = none)) : readLink b = some l := by
  rcases h with ⟨c, hc, rfl⟩ | ⟨rfl, rfl⟩
  · simp [readLink, hc]
  · rfl

/-- R56, R177: the fields of a selection record. -/
def selectionOf (r : RawSelection) (head : Option ColumnId) : Selection where
  price := min 9999 r.price.toNat
  head := head
  search := if r.modes.getLsbD 0 then .rotate else .first
  cursor := none
  approval := if r.modes.getLsbD 1 then .host else .none

theorem readSelection_eq {r : RawSelection} {head : Option ColumnId} (hh : readLink r.head = some head)
    (hm : r.modes.toNat < 4) : readSelection r = some (selectionOf r head, decide (9999 < r.price.toNat)) := by
  simp [readSelection, selectionOf, hh, hm, clampNat, Config.moneyMax]
  rfl

/-! ### The WRITE (R56, R61) -/

/-- R56: the map with the record put in place and the cursors cleaned. -/
def selectionPut (m : SelMap) (i : SelectionId) (new : Selection) : SelMap :=
  SelMap.cleanCursors { m with selections := m.selections.set i ((m.selections[i]).written new) }

/-- A selection WRITE that is taken while no sale is in flight. -/
theorem writeSelections_taken {s : State} {h : ReqHeader} {i : SelectionId} {r : RawSelection}
    {head : Option ColumnId} (hs : s.sale.current = none) (hh : readLink r.head = some head)
    (hm : r.modes.toNat < 4)
    (hk : SelMap.linksKept { s.map with
      selections := s.map.selections.set i { s.map.selections[i] with head := head } } = true) :
    writeSelections i.val [r] (s.noteHeader h) =
      ((s.setMap (selectionPut s.map i (selectionOf r head)).recompute).setPort
        (answeredPort s h .write (if 9999 < r.price.toNat then .clamped else .ok) .empty), []) := by
  have hkept : SelMap.linksKept { s.map with
      selections := s.map.selections.set i ((s.map.selections[i]).written (selectionOf r head)) } = true :=
    (linksKept_selection s.map i (by rfl)).trans hk
  have hcode : takenCode (decide (9999 < r.price.toNat)) = if 9999 < r.price.toNat then .clamped else .ok := by
    simp [takenCode]
  unfold writeSelections
  rw [if_pos (by simp [indexFits]), readAll_singleton (readSelection_eq hh hm)]
  simp only [putRecords_single, State.noteHeader_map, hkept, if_true]
  rw [takeMap_idle _ (by simpa using hs), takenWrite, setMap_answer, hcode, selectionPut]

/-- R61: the written selection's record. -/
theorem selectionPut_at (m : SelMap) (i : SelectionId) (new : Selection) :
    ((selectionPut m i new).selections)[i] = { new with
      cursor := (if (m.selections[i]).search = new.search then (m.selections[i]).cursor else none).filter
        fun c => decide (c ∈ (selectionPut m i new).list i) } := by
  rw [selectionPut, cleanCursors_selection, cleanCursors_list]
  simp [Selection.written]

/-- R64: recomputed, the map is another in its selection records and its lowest price alone. -/
theorem selectionPut_recompute (m : SelMap) (i : SelectionId) (new : Selection) :
    (selectionPut m i new).recompute = { m with
      selections := (selectionPut m i new).selections, pMin := (selectionPut m i new).recompute.lowest } :=
  cleaned_recompute _

/-- R61: every other selection's record stands, its list being the same. -/
theorem selectionPut_other {m : SelMap} {i j : SelectionId} (new : Selection) (hj : j ≠ i) (hm : MapShaped m) :
    ((selectionPut m i new).selections)[j] = m.selections[j] := by
  obtain ⟨-, hcur⟩ := hm
  have hrec : (m.selections.set i ((m.selections[i]).written new))[j] = m.selections[j] := by
    simp only [Fin.getElem_fin]
    exact Vector.getElem_set_ne _ _ fun hij => hj (Fin.ext hij.symm)
  have hlist : SelMap.list { m with selections := m.selections.set i ((m.selections[i]).written new) } j =
      m.list j := by
    rw [SelMap.list, hrec]
    rfl
  rw [selectionPut, cleanCursors_selection, hlist]
  simp only [hrec]
  have hkeep : ((m.selections[j]).cursor).filter (fun c => decide (c ∈ m.list j)) = (m.selections[j]).cursor := by
    cases hc : (m.selections[j]).cursor with
    | none => rfl
    | some c => simp [Option.filter, hcur j c hc]
  rw [hkeep]

/-- Settles O29: the WRITE's own effect is the record put in place with the cursors cleaned, beside the ANSWER; the
links alone follow it. -/
theorem selectionWritten : Obligations.SelectionWritten := by
  unfold Obligations.SelectionWritten
  intro s h i index r head ht hi hs hshape hhead hm hk
  have hbody := hi ▸ writeSelections_taken (h := h) hs (readLink_eq hhead) hm hk
  obtain ⟨t, hexec, hlinks, hans⟩ := write_answered (c := .writeSelectionTable h index [r]) ht rfl hbody
  have hat := selectionPut_at s.map i (selectionOf r head)
  have hother : ∀ j : SelectionId, j ≠ i → _ := fun j hj => selectionPut_other (selectionOf r head) hj hshape
  have hparts := selectionPut_recompute s.map i (selectionOf r head)
  generalize selectionPut s.map i (selectionOf r head) = m at hat hother hparts hexec hlinks hans
  have hmap : t.map = m.recompute := hlinks.map
  have hsel : t.map.selections = m.selections := by rw [hmap, SelMap.recompute]
  have hlist : t.map.list i = m.list i := (congrArg (SelMap.list · i) hmap).trans (recompute_list m i)
  refine ⟨t, hexec, fun j hj => hsel ▸ hother j hj, ?_⟩
  rw [hlist, hsel, hat]
  refine ⟨rfl, rfl, ?_, ?_, fun c => ?_, ?_, hans⟩
  · simp [selectionOf]
  · simp [selectionOf]
  · rw [Option.filter_eq_some_iff, Option.ite_none_right_eq_some, decide_eq_true_eq,
      eq_comm (a := (selectionOf r head).search)]
    tauto
  · rw [hmap, ← hparts]
    exact hlinks

end Sys2Proof.Laws
end

section
/-! SUPPORT. The WRITE of a column record (R57, R60 to R64, R70). -/

namespace Sys2Proof.Laws
open Sys2Proof Sys2Proof.Machine

/-! ### Reading the record (R57, R177) -/

/-- R177: the number of a column state. -/
def stateCode : ColState → Nat
  | .available => 0
  | .empty => 1
  | .jammed => 2
  | .fault => 3
  | .disabled => 4

theorem stateCode_lt (st : ColState) : stateCode st < 5 := by cases st <;> decide

theorem readColState_stateCode (st : ColState) : readColState (stateCode st) = some st := by cases st <;> rfl

/-- R57: 0xFF is UNCOUNTED, and every other count is clamped to 99. -/
theorem readCount_eq (b : Byte) :
    readCount b = (if b = 0xFF#8 then none else some (min 99 b.toNat), decide (99 < b.toNat ∧ b ≠ 0xFF#8)) := by
  unfold readCount
  split <;> simp [clampNat, *]

/-- R57: a column is counted empty by the byte 0 alone. -/
theorem readCount_zero (b : Byte) : (readCount b).1 = some 0 ↔ b = 0#8 := by
  have hz : b = 0#8 ↔ b.toNat = 0 := ⟨fun h => by rw [h]; rfl, fun h => BitVec.eq_of_toNat_eq h⟩
  rw [readCount_eq, Option.ite_none_left_eq_some, Option.some_inj, hz]
  constructor
  · rintro ⟨-, h⟩
    omega
  · intro h
    exact ⟨fun hb => by rw [hb] at h; exact absurd h (by decide), by omega⟩

/-- R57: a record written AVAILABLE with count 0 is stored EMPTY. -/
theorem storedState_readCount (st : ColState) (b : Byte) :
    storedState st (readCount b).1 =
      (if st = .available ∧ b = 0#8 then .empty else st, decide (st = .available ∧ b = 0#8)) := by
  simp only [storedState, readCount_zero]
  split <;> simp [*]

/-- R57: the column record a WRITE makes. -/
def columnOf (r : RawColumn) (st : ColState) (z : ZoneId) (next : Option ColumnId) : Column where
  state := if st = .available ∧ r.count = 0#8 then .empty else st
  zone := z
  turns := max 1 (min 3 r.turns.toNat)
  count := if r.count = 0xFF#8 then none else some (min 99 r.count.toNat)
  next := next

theorem readColumn_eq {r : RawColumn} {st : ColState} {z : ZoneId} {next : Option ColumnId}
    (hz : r.stateZone.toNat = 16 * z.val + stateCode st) (hn : readLink r.next = some next) :
    ∃ clamped, readColumn r = some (columnOf r st z next, clamped) ∧
      (clamped = true ↔ r.turns.toNat = 0 ∨ 3 < r.turns.toNat ∨ (99 < r.count.toNat ∧ r.count ≠ 0xFF#8) ∨
        (st = .available ∧ r.count = 0#8)) := by
  have hst := stateCode_lt st
  have hzone := z.isLt
  have hlow : r.stateZone.toNat % 16 = stateCode st := by omega
  have hhigh : r.stateZone.toNat / 16 = z.val := by omega
  have hread : readZoneId z.val = some z := dif_pos z.isLt
  simp only [readColumn, hlow, hhigh, readColState_stateCode, hread, hn, if_pos (show r.stateZone.toNat < 64 by omega),
    storedState_readCount]
  refine ⟨_, by rw [readCount_eq]; rfl, ?_⟩
  simp only [Bool.or_eq_true, clampNat_snd, decide_eq_true_eq, Nat.lt_one_iff]
  tauto

/-! ### The COLUMN reports (R70) -/

theorem columnChanged_grows (s : State) (c : ColumnId) (b : ColState) (k : ColCause) :
    LinksOnly s (s.columnChanged c b k) ∧ PortGrows s.port (s.columnChanged c b k).port := by
  fun_cases State.columnChanged s c b k with
  | case1 => exact ⟨.refl s, .refl _⟩
  | case2 => exact ⟨.report s _ rfl, State.report_grows s _ rfl⟩

/-- The reports of a WRITE join the queue, and no more. -/
theorem writtenReports_grows (s : State) (m : SelMap) :
    LinksOnly s (s.writtenReports m) ∧ PortGrows s.port (s.writtenReports m).port := by
  unfold State.writtenReports
  induction allColumns generalizing s with
  | nil => exact ⟨.refl s, .refl _⟩
  | cons c l ih =>
    obtain ⟨hlinks, hgrows⟩ := columnChanged_grows s c (m.columns[c]).state .write
    obtain ⟨hlinks', hgrows'⟩ := ih (s.columnChanged c (m.columns[c]).state .write)
    exact ⟨hlinks.trans hlinks', hgrows.trans hgrows'⟩

/-- A WRITE whose COLUMN reports follow its ANSWER (log 9). -/
theorem write_reported {s w : State} {h : ReqHeader} {c : Instr} {body : State → Out} {m : SelMap} {code : ResultCode}
    (ht : s.takes h) (hc : exec c s = takeRequest h .write body s)
    (hb : body (s.noteHeader h) = ((w.setPort (answeredPort s h .write code .empty)).writtenReports m, [])) :
    ∃ t : State, exec c s = .next t ∧ LinksOnly (w.setPort (answeredPort s h .write code .empty)) t ∧
      t.newestAnswer = some (answerTo s h .write code .empty) := by
  obtain ⟨hlinks, hgrows⟩ := writtenReports_grows (w.setPort (answeredPort s h .write code .empty)) m
  rw [hc, takeRequest_taken h .write body s ht, hb]
  refine finish_answered ?_ ?_
  · rwa [runOut_nil]
  · rw [runOut_nil]
    exact hgrows.slot

/-! ### The WRITE (R57, R60 to R62) -/

/-- R60: no attempt holds the column. -/
theorem columnsHeld_free {s : State} {c : ColumnId} (h : ∀ a, s.drive.attempt = some a → a.column ≠ c) :
    columnsHeld s c.val 1 = false := by
  unfold columnsHeld
  split
  · rename_i a ha
    have hne : a.column.val ≠ c.val := fun he => h a ha (Fin.ext he)
    simp
    omega
  · rfl

/-- R57, R61: the map with the record put in place and the cursors cleaned. -/
def columnPut (m : SelMap) (c : ColumnId) (new : Column) : SelMap :=
  SelMap.cleanCursors { m with columns := m.columns.set c new }

section
variable (m : SelMap) (c : ColumnId) (new : Column)

@[simp] theorem columnPut_columns : (columnPut m c new).columns = m.columns.set c new := cleanCursors_columns _

/-- R61: the cursors a column WRITE leaves. -/
theorem columnPut_selection (i : SelectionId) :
    ((columnPut m c new).selections)[i] = { m.selections[i] with
      cursor := ((m.selections[i]).cursor).filter fun d => decide (d ∈ (columnPut m c new).list i) } := by
  rw [columnPut, cleanCursors_selection, cleanCursors_list]

/-- R64: recomputed, the map is another in its two tables and its lowest price alone. -/
theorem columnPut_recompute : (columnPut m c new).recompute = { m with
    columns := (columnPut m c new).columns, selections := (columnPut m c new).selections
    pMin := (columnPut m c new).recompute.lowest } := by
  rw [columnPut_columns]
  exact cleaned_recompute _
end

/-- A column WRITE that is taken while no sale is in flight: the ANSWER, then the COLUMN reports (log 9). -/
theorem writeColumns_taken {s : State} {h : ReqHeader} {c : ColumnId} {r : RawColumn} {new : Column} {clamped : Bool}
    (hs : s.sale.current = none) (ha : ∀ a, s.drive.attempt = some a → a.column ≠ c)
    (hr : readColumn r = some (new, clamped))
    (hk : SelMap.linksKept { s.map with
      columns := s.map.columns.set c { s.map.columns[c] with next := new.next } } = true) :
    writeColumns c.val [r] (s.noteHeader h) =
      (((s.setMap (columnPut s.map c new).recompute).setPort
        (answeredPort s h .write (takenCode clamped) .empty)).writtenReports s.map, []) := by
  have hkept : SelMap.linksKept { s.map with columns := s.map.columns.set c new } = true :=
    (linksKept_column s.map c (by rfl)).trans hk
  have hfree : columnsHeld (s.noteHeader h) c.val 1 = false := columnsHeld_free (by simpa using ha)
  unfold writeColumns
  rw [if_pos (by simp [indexFits]), readAll_singleton hr]
  simp only [List.length_singleton, hfree, putRecords_single, State.noteHeader_map, hkept, if_true]
  rw [if_neg (by simp), takeMap_idle _ (by simpa using hs), takenWrite, setMap_answer, columnPut]

/-- Settles O30: the WRITE's own effect is the record put in place with the cursors cleaned, beside the ANSWER; its
COLUMN reports and the links alone follow it. -/
theorem columnWritten : Obligations.ColumnWritten := by
  unfold Obligations.ColumnWritten
  intro s h c index st z r next ht hi hs ha hz hnext hk
  have hcode : r.stateZone.toNat = 16 * z.val + stateCode st := by cases st <;> exact hz
  obtain ⟨clamped, hr, hclamped⟩ := readColumn_eq hcode (readLink_eq hnext)
  have hbody := hi ▸ writeColumns_taken (h := h) hs ha hr hk
  obtain ⟨t, hexec, hlinks, hans⟩ := write_reported (c := .writeColumnTable h index [r]) ht rfl hbody
  have hcols := columnPut_columns s.map c (columnOf r st z next)
  have hsels := columnPut_selection s.map c (columnOf r st z next)
  have hparts := columnPut_recompute s.map c (columnOf r st z next)
  generalize columnPut s.map c (columnOf r st z next) = m at hcols hsels hparts hlinks
  have hmap : t.map = m.recompute := hlinks.map
  have hsel : t.map.selections = m.selections := by rw [hmap, SelMap.recompute]
  have hcol : t.map.columns = s.map.columns.set c (columnOf r st z next) := by rw [hmap, SelMap.recompute, hcols]
  have hlist : ∀ i, t.map.list i = m.list i := fun i => (congrArg (SelMap.list · i) hmap).trans (recompute_list m i)
  refine ⟨t, takenCode clamped, hexec, ?_, ?_, ?_, fun d hd => ?_, fun i => ?_, ?_, hans⟩
  · cases clamped <;> simp [takenCode]
  · rw [← hclamped]
    cases clamped <;> simp [takenCode]
  · rw [hcol]
    simp [columnOf]
  · rw [hcol, Fin.getElem_fin]
    exact Vector.getElem_set_ne _ _ fun hcd => hd (Fin.ext hcd.symm)
  · rw [hlist, hsel]
    exact hsels i
  · have hcol' : t.map.columns = m.columns := hcol.trans hcols.symm
    rw [hsel, hcol', hmap, ← hparts]
    exact hlinks

end Sys2Proof.Laws
end

section
/-! SUPPORT. RELEASE (R155, R158): its checks in their order, and a zone's health handed to the map (R63). -/

namespace Sys2Proof.Laws
open Sys2Proof Sys2Proof.Machine

/-! ### The checks (R155) -/

/-- R155: a channel that shows a temperature at or below the limit is cold. -/
theorem zoneCold_iff (s : State) (z : ZoneId) : zoneCold s z = true ↔
    (s.cool.channels[zoneChannel z]).status = .valid ∧
      ∃ t, (s.cool.channels[zoneChannel z]).temperature = some t ∧ t ≤ (s.cool.zones[z]).healthLimit := by
  unfold zoneCold Channel.reading
  cases (s.cool.channels[zoneChannel z]).status with
  | valid => cases (s.cool.channels[zoneChannel z]).temperature <;> simp
  | noData => simp
  | fault => simp

theorem noteHeader_zoneCold (s : State) (h : ReqHeader) (z : ZoneId) : zoneCold (s.noteHeader h) z = zoneCold s z := by
  simp only [zoneCold, State.noteHeader_cool]

theorem state_held_iff (h : Health) : h.state = .held ↔ ∃ cause, h = .held cause := by
  cases h <;> simp [Health.state]

section
variable {s : State} {z : ZoneId}

theorem releaseRequest_badIndex {n : Nat} (hn : 3 ≤ n) : releaseRequest n s = refuse .release .badIndex s := by
  have hz : readZoneId n = none := dif_neg (Nat.not_lt.mpr hn)
  rw [releaseRequest, hz]

/-- R155: what a RELEASE of a named zone goes through. -/
theorem releaseRequest_zone (s : State) (z : ZoneId) : releaseRequest z.val s =
    if s.mode.effective ≠ .service then refuse .release .closed s
    else if (s.health[z]).state ≠ .held then refuse .release .notHeld s
    else if !zoneCold s z then refuse .release .notCold s
    else ((((s.answer .release .ok .empty).handHealth z .normal).1),
      ((s.answer .release .ok .empty).handHealth z .normal).2 ++ [.zoneReport z .released]) := by
  have hz : readZoneId z.val = some z := dif_pos z.isLt
  rw [releaseRequest, hz]

theorem releaseRequest_closed (hm : s.mode.effective ≠ .service) :
    releaseRequest z.val s = refuse .release .closed s :=
  (releaseRequest_zone s z).trans (if_pos hm)

theorem releaseRequest_notHeld (hm : s.mode.effective = .service) (hh : ∀ cause, s.health[z] ≠ .held cause) :
    releaseRequest z.val s = refuse .release .notHeld s := by
  have hstate : (s.health[z]).state ≠ .held := fun hc => by
    obtain ⟨cause, he⟩ := (state_held_iff _).mp hc
    exact hh cause he
  rw [releaseRequest_zone, if_neg (not_not.mpr hm), if_pos hstate]

theorem releaseRequest_notCold {cause : HoldCause} (hm : s.mode.effective = .service)
    (hh : s.health[z] = .held cause) (hc : zoneCold s z = false) :
    releaseRequest z.val s = refuse .release .notCold s := by
  have hstate : (s.health[z]).state = .held := (state_held_iff _).mpr ⟨cause, hh⟩
  rw [releaseRequest_zone, if_neg (not_not.mpr hm), if_neg (not_not.mpr hstate), hc]
  rfl

theorem releaseRequest_passes {cause : HoldCause} (hm : s.mode.effective = .service)
    (hh : s.health[z] = .held cause) (hc : zoneCold s z = true) :
    releaseRequest z.val s = (((s.answer .release .ok .empty).handHealth z .normal).1,
      ((s.answer .release .ok .empty).handHealth z .normal).2 ++ [.zoneReport z .released]) := by
  have hstate : (s.health[z]).state = .held := (state_held_iff _).mpr ⟨cause, hh⟩
  rw [releaseRequest_zone, if_neg (not_not.mpr hm), if_neg (not_not.mpr hstate), hc]
  rfl
end

/-! ### The zone freed (R63, R64, R158) -/

/-- R63: the map with a zone's health as it was handed. -/
def zoneHanded (m : SelMap) (z : ZoneId) (h : HealthState) : SelMap := { m with zoneHealth := m.zoneHealth.set z h }

/-- R158, R66: a zone's new health handed to the map while the sale unit is IDLE. -/
theorem handHealth_idle {s : State} {z : ZoneId} {h : Health} (hs : s.sale.current = none)
    (hz : h.state ≠ s.map.zoneHealth[z]) :
    s.handHealth z h = ((s.setHealth (s.health.set z h)).setMap (zoneHanded s.map z h.state).recompute, []) := by
  rw [State.handHealth, if_neg hz]
  exact takeMap_idle (s := s.setHealth (s.health.set z h)) _ hs

/-- R158: a ZONE report joins the queue, and no more. -/
theorem zoneReport_grows (s : State) (z : ZoneId) (k : ZoneCause) :
    LinksOnly s (s.zoneReport z k) ∧ PortGrows s.port (s.zoneReport z k).port :=
  ⟨.report s _ rfl, State.report_grows s _ rfl⟩

/-- Settles O42: each check refuses in its turn, and past them all the zone's health is handed to the map with P_min
computed anew, before the ZONE report. -/
theorem releaseFreesHeldZone : Obligations.ReleaseFreesHeldZone := by
  unfold Obligations.ReleaseFreesHeldZone
  intro s h n ht refused
  have refusal {code : ResultCode} (hb : releaseRequest n.toNat (s.noteHeader h) = refuse .release code _) :
      ∃ t, refused t code := request_refused (c := .release h n) ht rfl hb
  refine ⟨fun hn => refusal (releaseRequest_badIndex hn), fun hn hm => ?_, fun z hn hm => ⟨fun hh => ?_, fun cause hh =>
    ⟨fun hc => ?_, fun temp hst htemp hle hz hs => ?_⟩⟩⟩
  · exact refusal (releaseRequest_closed (z := ⟨n.toNat, hn⟩) (by simpa using hm))
  · exact refusal (hn ▸ releaseRequest_notHeld (by simpa using hm) (by simpa using hh))
  · refine refusal (hn ▸ releaseRequest_notCold (cause := cause) (by simpa using hm) (by simpa using hh) ?_)
    rw [noteHeader_zoneCold, ← Bool.not_eq_true, zoneCold_iff]
    rintro ⟨hvalid, t, htemp, hle⟩
    rcases hc with hc | ⟨u, hu, hlt⟩
    · exact hc hvalid
    · obtain rfl : u = t := Option.some.inj (hu.symm.trans htemp)
      omega
  · have hcold : zoneCold (s.noteHeader h) z = true := by
      rw [noteHeader_zoneCold, zoneCold_iff]
      exact ⟨hst, temp, htemp, hle⟩
    let port := answeredPort s h .release .ok .empty
    let w := ((s.setPort port).setHealth (s.health.set z .normal)).setMap (zoneHanded s.map z .normal).recompute
    have hbody : releaseRequest n.toNat (s.noteHeader h) = (w, [.zoneReport z .released]) := by
      rw [hn, releaseRequest_passes (cause := cause) (by simpa using hm) (by simpa using hh) hcold,
        State.noteHeader_answer, handHealth_idle (s := s.setPort port) hs (by simp [Health.state, hz])]
      rfl
    have hrun : runOut (releaseRequest n.toNat (s.noteHeader h)) = w.zoneReport z .released := by
      rw [hbody]
      exact (Runs.quiet (js := []) rfl).runOut (by decide)
    obtain ⟨hlinked, hgrown⟩ := zoneReport_grows w z .released
    obtain ⟨t, hfin, hlinks, hans⟩ := finish_answered (before := s)
      (o := releaseRequest n.toNat (s.noteHeader h)) (hrun ▸ hlinked) (hrun ▸ hgrown.slot)
    have hmap : t.map = (zoneHanded s.map z .normal).recompute := hlinks.map
    refine ⟨t, (takeRequest_taken h .release (releaseRequest n.toNat) s ht).trans hfin, ?_, hans⟩
    rw [hmap]
    exact hlinks

end Sys2Proof.Laws
end

section
/-! SUPPORT. The drop sensor's states and timers (R83), and the limit of a waiting test request (R86). -/

namespace Sys2Proof.Laws
open Sys2Proof Sys2Proof.Machine

/-- A command whose own effect hands nothing on: the links alone follow it. -/
theorem finish_only (before w : State) : ∃ t, finish before w.only = .next t ∧ LinksOnly w t := by
  obtain ⟨t, ht, l⟩ := finish_links before w.only
  exact ⟨t, ht, runOut_only w ▸ l⟩

/-- R191: where the reserve is open every report joins. -/
theorem report_has {s : State} (r : Report) (h : s.port.reports.length < 20) :
    (s.report r).port = { s.port with reports := s.port.reports ++ [r] } := by
  cases hr : r.removable with
  | true => exact State.report_open hr h
  | false => exact State.report_joins hr (by omega)

/-! ### The sensor (R83) -/

section
variable {s : State}

theorem beamBreaks_notClear (h : s.drive.sensor ≠ .clear) :
    beamBreaks s = (s.setDrive { s.drive with clearTimer := none }).only := by
  unfold beamBreaks
  split
  · rfl
  · rfl
  · exact absurd ‹_› h

theorem beamClears_notClear (h : s.drive.sensor ≠ .clear) :
    s.beamClears = s.setDrive { s.drive with clearTimer := some (s.now + 2000) } := by
  unfold State.beamClears
  split
  · rfl
  · rfl
  · exact absurd ‹_› h

theorem beamClears_clear (h : s.drive.sensor = .clear) :
    s.beamClears = s.setDrive { s.drive with blockTimer := none } := by
  rw [State.beamClears, h]

/-! ### A request withdrawn (R122), and a test that never ran (R86) -/

/-- R122: a withdrawal that leaves no request waiting. -/
theorem withdraw_runs {who : Requester} {js : List Job} (hq : ∀ q ∈ s.load.requests, q.requester = who)
    (hd : deferTo (.withdraw who) js = none) :
    Runs 1 (s, .load (.withdraw who) :: js) (s.setLoad { s.load with requests := [] }, js) := by
  intro n
  have hleft : s.load.withdrawn who = { s.load with requests := [] } := by
    have : s.load.requests.filter (fun r => !decide (r.requester = who)) = [] :=
      List.filter_eq_nil_iff.mpr fun q hm => by simp [hq q hm]
    rw [Load.withdrawn, this]
  rw [runJobs_cons, runJob_load _ _ _ hd]
  cases hr : s.load.requests with
  | nil =>
    have hsame : s.setLoad { s.load with requests := [] } = s := by rw [← hr]; rfl
    simp [loadStep, hr, State.only, hsame]
  | cons q qs =>
    have hany : (s.load.requests.any fun r => decide (r.requester = who)) = true := by
      rw [hr]
      simp [hq q (hr ▸ List.mem_cons_self)]
    obtain ⟨hmakes, hpass⟩ := pass_noRequests (l := { s.load with requests := [] }) rfl
    simp only [loadStep, if_pos hany, State.makePass, State.setLoad_load, hleft, hmakes, hpass, State.setLoad_twice]
    rfl

/-- R86, R88: a test request withdrawn, with the report of the test that never ran. -/
theorem testNever_runs {c : ColumnId} {o : TestOutcome} (hq : ∀ q ∈ s.load.requests, q.requester = .testDrive)
    (hlen : s.port.reports.length < 20) :
    ∃ w, runOut (s, [.load (.withdraw .testDrive), .testNever c o]) = w ∧
      PortAside (s.setLoad { s.load with requests := [] }) w ∧
      .testResult { column := c, outcome := o, drop := .notJudged, before := (s.map.columns[c]).state
                    after := (s.map.columns[c]).state } ∈ w.port.reports := by
  let s1 := s.setLoad { s.load with requests := [] }
  have hnever : runOne (.testNever c o) s1 = (s1.testNever c o, []) := rfl
  refine ⟨_, ((withdraw_runs (js := [.testNever c o]) hq rfl).trans (Runs.quiet hnever)).runOut (by decide),
    .report _ _, ?_⟩
  rw [State.testNever, State.testResult, report_has (s := s1) _ hlen]
  exact List.mem_append_right _ List.mem_cons_self

end

/-- Settles O55: each event's own effect on the drive record, from the moment of its expiry where it is one. -/
theorem dropSensorAndTestLimit : Obligations.DropSensorAndTestLimit := by
  unfold Obligations.DropSensorAndTestLimit
  intro s
  refine ⟨fun hs => ?_, fun hs => ?_, fun hs => ?_, fun due hd => ?_, fun due hd => ?_, fun r hr hq hlen => ?_⟩
  · show ∃ t, execBeamBroken s = .next t ∧ _
    rw [execBeamBroken, beamBreaks_notClear (s := s.setPins { s.pins with beamBroken := true }) hs]
    exact finish_only s _
  · show ∃ t, execBeamUnbroken s = .next t ∧ _
    rw [execBeamUnbroken, beamClears_notClear (s := s.setPins { s.pins with beamBroken := false }) hs]
    exact finish_only s _
  · show ∃ t, execBeamUnbroken s = .next t ∧ _
    rw [execBeamUnbroken, beamClears_clear (s := s.setPins { s.pins with beamBroken := false }) hs]
    exact finish_only s _
  · show ∃ t, execClearTimerExpiry s = .next t ∧ _
    rw [execClearTimerExpiry, hd]
    exact finish_only s _
  · show ∃ t, execBlockTimerExpiry s = .next t ∧ _
    rw [execBlockTimerExpiry, hd]
    exact finish_only s _
  · let u := (s.advanceTo r.limit).setDrive { s.drive with testRequest := none }
    obtain ⟨w, hw, hu, hmem⟩ := testNever_runs (s := u) (c := r.column) (o := .noPower) (by simpa [u] using hq)
      (by simpa [u] using hlen)
    obtain ⟨t, ht, l, lw⟩ := finish_aside (before := s) hw hu
    refine ⟨t, w.port, ?_, ?_, lw.mem_outLine ?_⟩
    · show execTestLoadLimitExpiry s = _
      rw [execTestLoadLimitExpiry, hr]
      exact ht
    · rw [← s.advanceTo_load r.limit]
      exact l
    · simpa only [u, State.setDrive_map, State.advanceTo_map] using hmem

end Sys2Proof.Laws
end

section
/-! SUPPORT. The events that leave a drive attempt running (R74 to R78, R80). -/

namespace Sys2Proof.Laws
open Sys2Proof Sys2Proof.Machine

section
variable {s : State} {a : Attempt}

/-! ### The senses of the matrix (R71) -/

theorem senseCurrent_eq (s : State) (a : Attempt) (mA : Nat) :
    s.senseCurrent a mA = s.setCurrent (if a.motor then mA else s.pins.motorCurrent) := by
  unfold State.senseCurrent
  split <;> rfl

/-! ### What each event makes of the attempt -/

/-- R75, R77, R78: the switch's opening ends LEAVING_HOME. -/
theorem homeOpens_leavingHome (mA : Nat) (hp : a.phase = .leavingHome) :
    homeOpens a mA s = (((s.setHome a.column false).senseCurrent a mA).setAttempt
      (some (a.enterTurning s.now mA))).only := by
  rw [homeOpens, hp]

/-- R77, R80: the switch's closing in TURNING opens the drop window of a judged attempt without a drop. -/
theorem homeCloses_turning (hp : a.phase = .turning) (hd : a.dropSeen = false) (hj : a.judging = true) :
    homeCloses a s = (((s.setHome a.column true).setAttempt (some
      { a with motor := false, turnsDone := a.turnsDone + 1, phase := .dropWait, openCheck := none, leaveHome := none
               turnLimit := none, jamRun := none, dropWindow := some (s.now + 1200) })).setCurrent 0).only := by
  rw [homeCloses, hp]
  dsimp only
  rw [turnDone]
  dsimp only
  rw [hd, hj]
  rfl

/-- R78: a rise starts the jam run where none runs, and a fall stops it. -/
theorem jamAfter_eq (a : Attempt) (now mA : Nat) :
    a.jamAfter now mA = if mA ≤ 900 then none else some (a.jamRun.getD (now + 150)) := by
  unfold Attempt.jamAfter
  by_cases h : mA ≤ 900
  · exact (if_neg (Nat.not_lt.mpr h)).trans (if_pos h).symm
  · rw [if_neg h]
    refine (if_pos (Nat.lt_of_not_le h)).trans ?_
    cases a.jamRun <;> rfl

theorem currentChanges_turning (mA : Nat) (hp : a.phase = .turning) :
    currentChanges a mA s = ((s.senseCurrent a mA).setAttempt
      (some { a with jamRun := if mA ≤ 900 then none else some (a.jamRun.getD (s.now + 150)) })).only := by
  rw [← jamAfter_eq, currentChanges, hp]

/-- R76: an open check that passes. -/
theorem openChecked_passes {mA : Nat} (h : 40 ≤ mA) :
    openChecked a mA s = ((s.setAttempt (some { a with openCheck := none })).setCurrent mA).only :=
  if_neg (Nat.not_lt.mpr h)

/-- R80, R74: a drop window that ends with turns left begins the next turn. -/
theorem windowEnds_turnsLeft (h : a.turnsDone < a.turnsAllowed) :
    windowEnds a s =
      (s.setAttempt (some (a.energise s.now s.pins.motorCurrent s.pins.homeClosed[a.column]))).only :=
  if_pos h

/-- R74: the turn that begins, by the switch as it reads. -/
theorem energise_eq (a : Attempt) (now current : Nat) (closed : Bool) :
    a.energise now current closed =
      if closed then
        { a with motor := true, phase := .leavingHome, openCheck := some (now + 200)
                 leaveHome := some (now + 600), dropWindow := none }
      else
        { a with motor := true, phase := .turning, openCheck := some (now + 200), leaveHome := none
                 turnLimit := some (now + 5000), dropWindow := none
                 jamRun := if 900 < current then some (now + 150) else none } := by
  cases closed <;> rfl

end

/-- Settles O52: each event's own effect on the attempt and the pins, from the moment of its expiry where it is one. -/
theorem turnEventsTaken : Obligations.TurnEventsTaken := by
  unfold Obligations.TurnEventsTaken
  intro s a ha
  refine ⟨fun mA hp => ?_, fun hp hd hj => ?_, fun mA hp => ?_, fun mA due hdue h => ?_, fun due hdue hturns => ?_⟩
  · show ∃ t, execHomeSwitchOpens mA s = .next t ∧ _
    rw [execHomeSwitchOpens, ha]
    dsimp only
    rw [homeOpens_leavingHome mA hp, senseCurrent_eq]
    exact finish_only s _
  · show ∃ t, execHomeSwitchCloses s = .next t ∧ _
    rw [execHomeSwitchCloses, ha]
    dsimp only
    rw [homeCloses_turning hp hd hj]
    exact finish_only s _
  · show ∃ t, execMotorCurrentChange mA s = .next t ∧ _
    rw [execMotorCurrentChange, ha]
    dsimp only
    rw [currentChanges_turning mA hp, senseCurrent_eq]
    exact finish_only s _
  · show ∃ t, execOpenCheckExpiry mA s = .next t ∧ _
    rw [execOpenCheckExpiry, ha]
    dsimp only
    rw [hdue]
    dsimp only
    rw [openChecked_passes h, ← s.advanceTo_drive due, ← s.advanceTo_pins due]
    exact finish_only s _
  · show ∃ t, execDropWindowExpiry s = .next t ∧ _
    rw [execDropWindowExpiry, ha]
    dsimp only
    rw [hdue]
    dsimp only
    rw [windowEnds_turnsLeft hturns, energise_eq, ← s.advanceTo_now due, ← s.advanceTo_drive due,
      ← s.advanceTo_pins due]
    exact finish_only s _

end Sys2Proof.Laws
end

section
/-! SUPPORT. TEST_DRIVE (R86, R87): its checks in their order, its attempt started at once, and its request waiting. -/

namespace Sys2Proof.Laws
open Sys2Proof Sys2Proof.Machine

/-! ### The checks (R86) -/

section
variable {s : State} {n : Nat}

theorem testRequest_badIndex (hn : 64 ≤ n) : testRequest n s = refuse .testDrive .badIndex s :=
  dif_neg (Nat.not_lt.mpr hn)

theorem testRequest_closed (hn : n < 64) (hm : s.mode.effective ≠ .service) :
    testRequest n s = refuse .testDrive .closed s :=
  (dif_pos hn).trans (if_pos hm)

theorem testRequest_busy (hn : n < 64) (hm : s.mode.effective = .service)
    (hb : s.sale.current ≠ none ∨ s.drive.attempt ≠ none ∨ s.drive.testRequest ≠ none) :
    testRequest n s = refuse .testDrive .busy s := by
  rw [testRequest, dif_pos hn, if_neg (not_not.mpr hm)]
  by_cases hsale : s.sale.current = none
  · have hdrive : (s.drive.attempt.isSome || s.drive.testRequest.isSome) = true := by
      simpa [Option.isSome_iff_ne_none] using hb.resolve_left (not_not.mpr hsale)
    rw [if_pos hdrive, ite_self]
  · rw [if_pos (by simpa [State.saleIdle, Option.isSome_iff_ne_none] using hsale)]

/-- R86: past its checks the request is recorded with its limit, and two units are asked for. -/
theorem testRequest_asks {c : ColumnId} (hm : s.mode.effective = .service) (hs : s.sale.current = none)
    (ha : s.drive.attempt = none) (ht : s.drive.testRequest = none) :
    testRequest c.val s = ((s.answer .testDrive .ok .empty).setDrive
      { s.drive with testRequest := some { column := c, limit := s.now + 30000 } }, [.load (.ask .testDrive)]) := by
  rw [testRequest, dif_pos c.isLt, if_neg (not_not.mpr hm), ha, ht, State.saleIdle, hs]
  rfl

end

/-! ### The two units asked for (R117) -/

/-- R117, R119: a request with no other waiting, that counts in full and does not fit, waits. -/
theorem ask_waits {s : State} {who : Requester} {js : List Job} (hq : s.load.requests = [])
    (hg : ∀ g ∈ s.load.grants, g.holder ≠ who) (hf : s.load.free < who.units) (hb : who.units ≤ s.load.budget)
    (hd : deferTo (.ask who) js = none) :
    Runs 1 (s, .load (.ask who) :: js)
      (s.setLoad { s.load with requests := [{ requester := who, asked := who.units, counted := who.units
                                              time := s.now, promoted := false }] }, js) := by
  intro n
  have hlisted : s.load.listed who = false := by
    simp only [Load.listed, hq, List.any_nil, Bool.or_false]
    simpa using hg
  have hcount : countedUnits s.load.budget who.units = who.units := Nat.min_eq_left hb
  have hmakes : (s.load.asked who s.now).passMakes = [] := by
    have hfit : ¬ who.units ≤ s.load.budget - (s.load.grants.map Grant.units).sum := Nat.not_le.mpr hf
    cases hc : who.cooling <;>
      simp [Load.passMakes, Load.ranked, Load.asked, hq, hc, passGrants, hcount, Load.granted, hfit]
  have hpass : (s.load.asked who s.now).pass =
      { s.load with requests := [{ requester := who, asked := who.units, counted := who.units, time := s.now
                                   promoted := false }] } := by
    rw [Load.pass, hmakes]
    simp [Load.asked, hq, hcount]
  rw [runJobs_cons, runJob_load _ _ _ hd]
  simp only [loadStep, hlisted, State.makePass, State.setLoad_load, hmakes, hpass, State.setLoad_twice]
  rfl

/-! ### The request taken -/

/-- R86: the request recorded, with its ANSWER beside it. -/
def testAsked (s : State) (port : Port) (c : ColumnId) : State :=
  (s.setPort port).setDrive { s.drive with testRequest := some { column := c, limit := s.now + 30000 } }

/-- R86, R87: the attempt of a request that was granted. -/
def testStarted (s : State) (c : ColumnId) : State :=
  (s.setLoad { s.load with grants := s.load.grants ++ [{ holder := .testDrive, units := 2 }] }).setDrive
    { s.drive with attempt := some (startedAttempt s .test c 1 (decide (s.drive.sensor = .clear))) }

theorem testAsked_starts {s : State} {port : Port} {c : ColumnId} (ht : s.drive.testRequest = none)
    (hq : s.load.requests = []) (hg : ∀ g ∈ s.load.grants, g.holder ≠ .testDrive) (hf : 2 ≤ s.load.free) :
    Runs 3 (testAsked s port c, [.load (.ask .testDrive)]) ((testStarted s c).setPort port, []) := by
  have hask := ask_runs (s := testAsked s port c) (who := .testDrive) (js := []) hq hg hf rfl
  let g := (testAsked s port c).setLoad
    { s.load with grants := s.load.grants ++ [{ holder := .testDrive, units := 2 }] }
  have hgive : runOne (.give .testDrive 2) g = ((testStarted s c).setPort port, []) := by
    show testGiven g = _
    rw [testGiven, show g.drive.testRequest = some { column := c, limit := s.now + 30000 } from rfl]
    dsimp only
    rw [newAttempt_eq, testStarted, ← ht]
    rfl
  exact (hask.trans (Runs.quiet hgive)).trans (handDone_runs _ [])

/-- Settles O40: each check refuses in its turn, and past them all the request is granted at once or waits. -/
theorem testDriveStarts : Obligations.TestDriveStarts := by
  unfold Obligations.TestDriveStarts
  intro s h n ht
  have refused {code : ResultCode} (hb : testRequest n.toNat (s.noteHeader h) = refuse .testDrive code _) :=
    request_refused (c := .testDrive h n) ht rfl hb
  refine ⟨fun hn => ?_, fun hn hm => ?_, fun hn hm hb => ?_, fun c hn hm hs ha hr _ hg => ?_⟩
  · exact refused (testRequest_badIndex hn)
  · exact refused (testRequest_closed hn (by simpa using hm))
  · exact refused (testRequest_busy hn (by simpa using hm) (by simpa using hb))
  · have hbody : testRequest n.toNat (s.noteHeader h) =
        (testAsked s (answeredPort s h .testDrive .ok .empty) c, [.load (.ask .testDrive)]) := by
      rw [hn, testRequest_asks (by simpa using hm) (by simpa using hs) (by simpa using ha) (by simpa using hr),
        State.noteHeader_answer, State.noteHeader_drive, State.noteHeader_now]
      rfl
    refine ⟨fun hq hf => ?_, fun hq hf hb => ?_⟩
    · have hruns := testAsked_starts (port := answeredPort s h .testDrive .ok .empty) (c := c) hr hq hg hf
      exact request_runs (c := .testDrive h n) ht rfl (hbody ▸ hruns) (by decide) (.refl _) rfl
    · have hruns := ask_waits (s := testAsked s (answeredPort s h .testDrive .ok .empty) c) (who := .testDrive)
        (js := []) hq hg hf hb rfl
      exact request_runs (c := .testDrive h n) ht rfl (hbody ▸ hruns) (by decide) (.refl _) rfl

end Sys2Proof.Laws
end

section
/-! SUPPORT. The end of a drive attempt (R81): what becomes of its column, its grant and the sale that made it (R107,
R108), and the report of a test (R88). -/

namespace Sys2Proof.Laws
open Sys2Proof Sys2Proof.Machine

/-! ### A unit given back (R121) -/

/-- R121: no grant of the requester stands any more. -/
def unitBack (s : State) (who : Requester) : State :=
  s.setLoad { s.load with grants := s.load.grants.filter fun g => !decide (g.holder = who) }

theorem unitBack_links {s t : State} (l : LinksOnly s t) (who : Requester) :
    LinksOnly (unitBack s who) (unitBack t who) := by
  unfold unitBack
  rw [l.load]
  exact l.setLoad _

theorem settlesAlone_of_links {s t : State} (l : LinksOnly s t) (h : SettlesAlone s) : SettlesAlone t := by
  unfold SettlesAlone
  rw [l.ledger, l.payout, l.pendingReturn]
  exact h

/-! ### The attempt over (R81, steps 1 to 3) -/

/-- R81: no attempt, the motor off, and the map `m` with P_min computed again. -/
def attemptOver (s : State) (m : SelMap) : State := ((s.setMap m.recompute).setAttempt none).setCurrent 0

/-- R81: the map with a column's new record. -/
def columnTaken (m : SelMap) (c : ColumnId) (r : Column) : SelMap := { m with columns := m.columns.set c r }

/-- R81, R121: an attempt of a sale over, its column changed by the result and its grant given back. -/
def saleAttemptOver (s : State) (a : Attempt) (r : DriveResult) : State :=
  unitBack (attemptOver s (columnTaken s.map a.column ((s.map.columns[a.column]).afterSale r))) .spiral

section
variable {s : State} {a : Attempt} {r : DriveResult}

/-- R70, R81: the column's new record, and the COLUMN report of its change. -/
theorem columnAfter_ended (s : State) (b : Option Attempt) (c : ColumnId) (r : Column) (k : ColCause) :
    LinksOnly (attemptOver s (columnTaken s.map c r))
        (((s.setAttempt b).setCurrent 0).columnAfter c r k) ∧
      PortCalm s.port (((s.setAttempt b).setCurrent 0).columnAfter c r k).port := by
  let u := ((s.setAttempt b).setCurrent 0).setMap (columnTaken s.map c r).recompute
  have hcalm : PortCalm u.port (u.columnChanged c (s.map.columns[c]).state k).port := by
    fun_cases State.columnChanged u c (s.map.columns[c]).state k with
    | case1 => exact .refl _
    | case2 => exact State.report_calm u _ rfl
  obtain ⟨hlinks, -⟩ := columnChanged_grows u c (s.map.columns[c]).state k
  refine ⟨?_, hcalm⟩
  show LinksOnly _ ((u.columnChanged c (s.map.columns[c]).state k).setDrive
    { (u.columnChanged c (s.map.columns[c]).state k).drive with attempt := none })
  rw [hlinks.drive]
  exact hlinks.setDrive _

/-- R70: a column whose record stands makes no report. -/
theorem columnAfter_same (s : State) (b : Option Attempt) (c : ColumnId) (k : ColCause) :
    ((s.setAttempt b).setCurrent 0).columnAfter c s.map.columns[c] k = attemptOver s s.map := by
  have hcols : s.map.columns.set c s.map.columns[c] = s.map.columns := Vector.set_getElem_self _
  unfold State.columnAfter State.driveColumn State.columnChanged attemptOver
  rw [if_pos (by simp [SelMap.recompute]), State.setCurrent_map, State.setAttempt_map, hcols]
  rfl

theorem endAttempt_sale (hreq : a.requester = .sale) (stop : Bool) :
    endAttempt a r stop s =
      (((s.setAttempt (some (a.ended r))).setCurrent 0).columnAfter a.column
          ((s.map.columns[a.column]).afterSale r) r.cause,
        [.load (.release .spiral), .saleDriven a.column r a.turnsDone stop]) := by
  show handResult stop _ = _
  simp [handResult, Attempt.ended, hreq]

theorem endAttempt_test (hreq : a.requester = .test) (stop : Bool) :
    endAttempt a r stop s =
      (((s.setAttempt (some (a.ended r))).setCurrent 0).columnAfter a.column
          ((s.map.columns[a.column]).afterTest r) .test,
        [.load (.release .testDrive), .testReport a.column r.testOutcome a.dropField a.before]) := by
  show handResult stop _ = _
  simp [handResult, Attempt.ended, hreq, Attempt.dropField]

/-! ### A test's end (R88) -/

/-- R88: where no drop was seen, the field says whether drops were judged. -/
theorem dropField_unseen (h : a.dropSeen = false) : a.dropField = if a.judging then .notSeen else .notJudged := by
  unfold Attempt.dropField
  rw [h]
  cases a.judging <;> rfl

/-- R88: a test that did not turn leaves its column, gives its grant back and reports. -/
theorem testAttempt_ends (hreq : a.requester = .test) (hr : r ≠ .turned) (hd : a.dropSeen = false)
    (hq : s.load.requests = []) (hlen : s.port.reports.length < 20) :
    ∃ w, runOut (endAttempt a r false s) = w ∧ PortAside (unitBack (attemptOver s s.map) .testDrive) w ∧
      .testResult { column := a.column, outcome := r.testOutcome
                    drop := if a.judging then .notSeen else .notJudged
                    before := a.before, after := (s.map.columns[a.column]).state } ∈ w.port.reports := by
  have hcol : (s.map.columns[a.column]).afterTest r = s.map.columns[a.column] := if_neg fun h => hr h.1
  let v := unitBack (attemptOver s s.map) .testDrive
  have hrel := release_runs (s := attemptOver s s.map) (who := .testDrive)
    (js := [.testReport a.column r.testOutcome a.dropField a.before]) hq rfl
  have hrep : runOne (.testReport a.column r.testOutcome a.dropField a.before) v =
      (v.testResult a.column r.testOutcome a.dropField a.before, []) := rfl
  rw [endAttempt_test hreq, hcol, columnAfter_same]
  refine ⟨_, (hrel.trans (Runs.quiet hrep)).runOut (by decide), .report _ _, ?_⟩
  rw [State.testResult, report_has (s := v) _ hlen, dropField_unseen hd]
  exact List.mem_append_right _ List.mem_cons_self

end

/-! ### The sale that made the attempt (R107, R108) -/

/-- R107, step 2: the sale with a column's try recorded. -/
def triedSale (x : Sale) (c : ColumnId) (r : DriveResult) (turns : Nat) : Sale :=
  { x with tried := x.tried ++ [{ column := c, result := .drive r, turns := turns, stopMark := false }]
           chosen := none }

/-- R108: the sale's outcome set, and the ledger settled. -/
def saleSettled (v : State) (y : Sale) (o : SaleOutcome) (l : Ledger) : State :=
  (v.setCurrentSale (some (settledSale y o))).setLedger l

section
variable {v : State} {x y : Sale} {c : ColumnId} {r : DriveResult} {turns n k : Nat} {l : Ledger} {o : SaleOutcome}

theorem saleEnd_failed (hx : v.sale.current = some x) (hsrc : x.source = .cash) :
    saleEnd .failed v =
      ((v.setCurrentSale (some (settledSale x .failed))).returnHold, [.payTell, .saleFinish 0]) := by
  unfold saleEnd settledSale
  rw [hx]
  dsimp only
  rw [hsrc]

/-- R108, R27: a CASH sale that sold settles its hold; with multi-vend off the credit left is released. -/
theorem saleEnd_vended (hx : v.sale.current = some x) (hsrc : x.source = .cash) :
    saleEnd .vended v =
      if saleMultiVend x v then (saleSettled v x .vended v.ledger.settle, [.saleFinish 0])
      else ((saleSettled v x .vended v.ledger.settle).releaseAll, [.payTell, .saleFinish v.ledger.credit]) := by
  unfold saleEnd saleSettled settledSale
  rw [hx]
  dsimp only
  rw [hsrc]
  rfl

/-- R107, R108: no try is left, so the CASH sale has failed and its hold is back in credit. -/
theorem saleDriven_fails (hx : v.sale.current = some x) (hsrc : x.source = .cash) (hr : r ≠ .vended)
    (htries : x.triesAllowed ≤ x.tried.length + 1) (hs : SettlesAlone v) :
    Runs 3 (v, [.saleDriven c r turns false])
      (saleSettled v (triedSale x c r turns) .failed (heldBack v.ledger), [.saleFinish 0]) := by
  obtain ⟨hfit, hpend, hidle, -⟩ := hs
  let v1 := v.setCurrentSale (some (triedSale x c r turns))
  have h1 : runOne (.saleDriven c r turns false) v = (v1, [.saleEnd .failed]) := by
    show saleDriven c r turns false v = _
    rw [saleDriven, hx]
    dsimp only
    rw [if_neg hr, if_neg (by simpa using htries)]
    rfl
  have h2 : runOne (.saleEnd .failed) v1 =
      (saleSettled v (triedSale x c r turns) .failed (heldBack v.ledger), [.payTell, .saleFinish 0]) := by
    have hback := returnHold_fits (s := v1.setCurrentSale (some (settledSale (triedSale x c r turns) .failed))) hfit
      hpend
    exact (saleEnd_failed (v := v1) (x := triedSale x c r turns) rfl hsrc).trans
      (congrArg (·, [Job.payTell, Job.saleFinish 0]) hback)
  exact ((Runs.step h1).trans (Runs.step h2)).trans (payTell_runs hidle)

/-- R107, R108, R27: the product is sold, and the hold settled; no credit is left to return where multi-vend is off. -/
theorem saleDriven_vends (hx : v.sale.current = some x) (hsrc : x.source = .cash)
    (hm : saleMultiVend x v = true ∨ (v.ledger.credit = 0 ∧ v.ledger.pending ≤ 65535 ∧
      (v.payout.phase = .idle → v.ledger.pending = 0))) :
    ∃ k, k ≤ 3 ∧ Runs k (v, [.saleDriven c .vended turns false])
      (saleSettled v (triedSale x c .vended turns) .vended v.ledger.settle, [.saleFinish 0]) := by
  let y := triedSale x c .vended turns
  let v1 := v.setCurrentSale (some y)
  let f := saleSettled v y .vended v.ledger.settle
  have h1 : runOne (.saleDriven c .vended turns false) v = (v1, [.saleEnd .vended]) := by
    show saleDriven c .vended turns false v = _
    rw [saleDriven, hx]
    rfl
  have hend : saleEnd .vended v1 =
      if saleMultiVend x v then (f, [.saleFinish 0]) else (f.releaseAll, [.payTell, .saleFinish v.ledger.credit]) :=
    saleEnd_vended (v := v1) (x := y) rfl hsrc
  by_cases hmulti : saleMultiVend x v = true
  · have h2 : runOne (.saleEnd .vended) v1 = (f, [.saleFinish 0]) := hend.trans (if_pos hmulti)
    exact ⟨2, by decide, (Runs.step h1).trans (Runs.step h2)⟩
  · obtain ⟨hcredit, hpend, hidle⟩ := hm.resolve_left hmulti
    have hrelease : f.releaseAll = f := by
      have hf : f.ledger.credit = 0 := hcredit
      rw [releaseAll_fits (s := f) (by rw [hf]; exact hpend), hf, Nat.add_zero, ← hf]
      rfl
    have h2 : runOne (.saleEnd .vended) v1 = (f, [.payTell, .saleFinish 0]) := by
      rw [← hcredit]
      exact (hend.trans (if_neg hmulti)).trans (by rw [hrelease])
    exact ⟨3, by decide, ((Runs.step h1).trans (Runs.step h2)).trans (payTell_runs hidle)⟩

/-! ### The settlement's last steps (R108, steps 2 to 6) -/

/-- R108, steps 3 to 5: the sale reported, the panel told, and the sale unit IDLE. -/
def saleClosed (s : State) (x : Sale) (o : SaleOutcome) (n : Nat) : State :=
  ((s.saleReport x o n).show (outcomeShow o) (s.saleReport x o n).funds).setCurrentSale none

/-- R69: only a VENDED sale of a ROTATE selection moves a cursor. -/
theorem vendedCursor_stays {s : State} (h : o = .vended → (s.map.selections[x.selection]).search = .first) :
    s.vendedCursor x o = s := by
  unfold State.vendedCursor
  split
  · rw [SelMap.moveCursor, h rfl]
    rfl
  · rfl

theorem saleFinish_closes {s : State} (hx : s.sale.current = some x) (ho : x.outcome = some o)
    (hsearch : o = .vended → (s.map.selections[x.selection]).search = .first) (hret : s.sale.pendingReturn = false) :
    Runs 2 (s, [.saleFinish n]) (saleClosed s x o n, []) := by
  have h1 : runOne (.saleFinish n) s = (saleClosed s x o n, [.returnTest]) := by
    show saleFinish n s = _
    rw [saleFinish, hx]
    dsimp only
    rw [ho]
    dsimp only
    rw [vendedCursor_stays hsearch]
    rfl
  refine (Runs.step h1).trans (returnTest_runs ?_)
  simp [saleClosed, State.saleReport, hret]

theorem saleClosed_aside (s : State) (x : Sale) (o : SaleOutcome) (n : Nat) :
    PortAside (s.setCurrentSale none) (saleClosed s x o n) :=
  LinksOnly.setCurrentSale ((PortAside.report s _).trans (LinksOnly.show (s.saleReport x o n) _ _).aside) none

theorem saleClosed_reports {s : State} (h : s.port.reports.length < 32) :
    ∃ q : SaleReport, .sale q ∈ (saleClosed s x o n).port.reports ∧ q.number = x.number ∧ q.outcome = o ∧
      q.tries = x.tried := by
  have hjoin : (s.saleReport x o n).port = _ := State.report_joins rfl h
  have hmem : ∀ r ∈ (s.saleReport x o n).port.reports, r ∈ (saleClosed s x o n).port.reports := fun r hr =>
    ((s.saleReport x o n).show_grows (outcomeShow o) _).mem hr
  rw [hjoin] at hmem
  exact ⟨_, hmem _ (List.mem_append_right _ List.mem_cons_self), rfl, rfl, rfl⟩

/-- R81, step 4, R107, R108: from the grant given back to the sale unit IDLE, however the sale settles. -/
theorem driven_closes (hq : v.load.requests = []) (hret : v.sale.pendingReturn = false)
    (hlen : v.port.reports.length < 32)
    (hsearch : o = .vended → (v.map.selections[y.selection]).search = .first)
    (hsettle : Runs k (unitBack v .spiral, [.saleDriven c r turns false])
      (saleSettled (unitBack v .spiral) y o l, [.saleFinish n])) (hk : k ≤ 3) :
    ∃ w, runOut (v, [.load (.release .spiral), .saleDriven c r turns false]) = w ∧
      PortAside (((unitBack v .spiral).setLedger l).setCurrentSale none) w ∧
      ∃ q : SaleReport, .sale q ∈ w.port.reports ∧ q.number = y.number ∧ q.outcome = o ∧ q.tries = y.tried := by
  let f := saleSettled (unitBack v .spiral) y o l
  have hrel := release_runs (s := v) (who := .spiral) (js := [.saleDriven c r turns false]) hq rfl
  have hfin := saleFinish_closes (s := f) (x := settledSale y o) (n := n) rfl rfl hsearch hret
  exact ⟨_, ((Runs.trans hrel hsettle).trans hfin).runOut (by omega), saleClosed_aside f _ o n,
    saleClosed_reports (s := f) (x := settledSale y o) hlen⟩

end

end Sys2Proof.Laws
end

section
/-! SUPPORT. The claims of an attempt that ends without a drop (R75 to R80) and of a drop that sells (R84). -/

namespace Sys2Proof.Laws
open Sys2Proof Sys2Proof.Machine

/-! ### The events that end an attempt -/

section
variable {s : State} {a : Attempt} {r : DriveResult} {due mA : Nat}

/-- R79: without a drop seen a turn that stops early ends the attempt as it is. -/
theorem stopEarly_unseen (hd : a.dropSeen = false) : stopEarly a r s = endAttempt a r false s :=
  if_neg fun h => by simp [hd] at h

theorem leaveHomeLimit_ends (ha : s.drive.attempt = some a) (ht : a.leaveHome = some due) :
    exec (.leaveHomeLimitExpiry mA) s =
      finish s (endAttempt a (if mA < 40 then .openMotor else .noStart) false (s.advanceTo due)) := by
  show execLeaveHomeLimitExpiry mA s = _
  rw [execLeaveHomeLimitExpiry, ha]
  dsimp only
  rw [ht]
  rfl

theorem turnLimit_ends (ha : s.drive.attempt = some a) (hd : a.dropSeen = false) (ht : a.turnLimit = some due) :
    exec .turnLimitExpiry s = finish s (endAttempt a .jam false (s.advanceTo due)) := by
  show execTurnLimitExpiry s = _
  rw [execTurnLimitExpiry, ha]
  dsimp only
  rw [ht]
  dsimp only
  rw [stopEarly_unseen hd]

theorem jamRun_ends (ha : s.drive.attempt = some a) (hd : a.dropSeen = false) (ht : a.jamRun = some due) :
    exec .jamRunExpiry s = finish s (endAttempt a .jam false (s.advanceTo due)) := by
  show execJamRunExpiry s = _
  rw [execJamRunExpiry, ha]
  dsimp only
  rw [ht]
  dsimp only
  rw [stopEarly_unseen hd]

theorem openCheck_ends (ha : s.drive.attempt = some a) (hd : a.dropSeen = false) (ht : a.openCheck = some due)
    (hm : mA < 40) :
    exec (.openCheckExpiry mA) s = finish s (endAttempt a .openMotor false (s.advanceTo due)) := by
  show execOpenCheckExpiry mA s = _
  rw [execOpenCheckExpiry, ha]
  dsimp only
  rw [ht]
  have hchecked : openChecked a mA (s.advanceTo due) =
      stopEarly { a with openCheck := none } .openMotor (s.advanceTo due) := if_pos hm
  dsimp only
  rw [hchecked, stopEarly_unseen (a := { a with openCheck := none }) hd]
  rfl

/-- R80: the last drop window ends without a drop. -/
theorem dropWindow_ends (ha : s.drive.attempt = some a) (ht : a.dropWindow = some due)
    (hturns : a.turnsAllowed ≤ a.turnsDone) :
    exec .dropWindowExpiry s =
      finish s (endAttempt a (if a.requester = .sale then .noDrop else .turned) false (s.advanceTo due)) := by
  have hresult : windowResult a false = if a.requester = .sale then .noDrop else .turned := by
    unfold windowResult
    cases a.requester <;> rfl
  show execDropWindowExpiry s = _
  rw [execDropWindowExpiry, ha]
  dsimp only
  rw [ht, ← hresult]
  exact congrArg (finish s) (if_neg (Nat.not_lt.mpr hturns))

/-- R80, R84: a counted drop in the drop window. -/
theorem dropCounted_dropWait (ha : s.drive.attempt = some a) (hp : a.phase = .dropWait) :
    dropCounted s = endAttempt { a with dropSeen := true, dropWindow := none }
      (windowResult { a with dropSeen := true, dropWindow := none } true) false s := by
  rw [dropCounted, ha]
  cases a
  subst hp
  rfl

/-- R80, R83, R84: a drop in the drop window ends the attempt of a sale as VENDED. -/
theorem drop_ends (hs : s.drive.sensor = .clear) (ha : s.drive.attempt = some a) (hp : a.phase = .dropWait)
    (hreq : a.requester = .sale) :
    exec .beamBroken s = finish s (endAttempt { a with dropSeen := true, dropWindow := none } .vended false
      ((s.setPins { s.pins with beamBroken := true }).setDrive
        { s.drive with blockTimer := some (s.now + 2000) })) := by
  let u := (s.setPins { s.pins with beamBroken := true }).setDrive
    { s.drive with blockTimer := some (s.now + 2000) }
  have hbreaks : beamBreaks (s.setPins { s.pins with beamBroken := true }) = dropCounted u := by
    rw [beamBreaks, show (s.setPins { s.pins with beamBroken := true }).drive.sensor = .clear from hs]
    rfl
  have hresult : windowResult { a with dropSeen := true, dropWindow := none } true = .vended := by
    rw [windowResult, hreq]
    rfl
  show finish s (beamBreaks (s.setPins { s.pins with beamBroken := true })) = _
  rw [hbreaks, dropCounted_dropWait (s := u) ha hp, hresult]

/-! ### A sale's attempt, to the sale's end -/

/-- R81, R107, R108: an attempt of a sale that ends with its sale settled. -/
theorem saleAttempt_closes {y : Sale} {o : SaleOutcome} {l : Ledger} (hreq : a.requester = .sale)
    (hq : s.load.requests = []) (hret : s.sale.pendingReturn = false) (hlen : s.port.reports.length < 20)
    (hsearch : o = .vended → (s.map.selections[y.selection]).search = .first)
    (hsettle : ∀ v, LinksOnly (saleAttemptOver s a r) v → ∃ k, k ≤ 3 ∧
      Runs k (v, [.saleDriven a.column r a.turnsDone false]) (saleSettled v y o l, [.saleFinish 0])) :
    ∃ w, runOut (endAttempt a r false s) = w ∧
      PortAside (((saleAttemptOver s a r).setLedger l).setCurrentSale none) w ∧
      ∃ q : SaleReport, .sale q ∈ w.port.reports ∧ q.number = y.number ∧ q.outcome = o ∧ q.tries = y.tried := by
  obtain ⟨hlinks, hcalm⟩ := columnAfter_ended s (some (a.ended r)) a.column ((s.map.columns[a.column]).afterSale r)
    r.cause
  rw [endAttempt_sale hreq]
  generalize ((s.setAttempt (some (a.ended r))).setCurrent 0).columnAfter a.column
    ((s.map.columns[a.column]).afterSale r) r.cause = v at hlinks hcalm
  have hshort := hcalm.short
  obtain ⟨k, hk, hruns⟩ := hsettle _ (unitBack_links hlinks .spiral)
  obtain ⟨w, hw, haside, hreport⟩ := driven_closes (v := v) (hlinks.load ▸ hq) (hlinks.pendingReturn.trans hret)
    (by omega) (by rw [hlinks.map]; exact hsearch) hruns hk
  exact ⟨w, hw, (((unitBack_links hlinks .spiral).setLedger l).setCurrentSale none).aside.trans haside, hreport⟩

end

/-- Settles O53: each expiry ends the attempt, which reports a test and settles a sale with no try left. -/
theorem attemptEndsWithoutDrop : Obligations.AttemptEndsWithoutDrop := by
  unfold Obligations.AttemptEndsWithoutDrop
  intro s a c due result mA ha hd hq hlen hc
  have hexec : exec c s = finish s (endAttempt a result false (s.advanceTo due)) := by
    rcases hc with ⟨rfl, ht, rfl⟩ | ⟨rfl, ht, rfl⟩ | ⟨rfl, ht, rfl⟩ | ⟨rfl, ht, hm, rfl⟩ | ⟨rfl, ht, hturns, rfl⟩
    · exact leaveHomeLimit_ends ha ht
    · exact turnLimit_ends ha hd ht
    · exact jamRun_ends ha hd ht
    · exact openCheck_ends ha hd ht hm
    · exact dropWindow_ends ha ht hturns
  have hunsold : result ≠ .vended := by
    rcases hc with ⟨-, -, rfl⟩ | ⟨-, -, rfl⟩ | ⟨-, -, rfl⟩ | ⟨-, -, -, rfl⟩ | ⟨-, -, -, rfl⟩
    · split <;> nofun
    · nofun
    · nofun
    · nofun
    · split <;> nofun
  have hq' : (s.advanceTo due).load.requests = [] := by simpa using hq
  have hlen' : (s.advanceTo due).port.reports.length < 20 := by simpa using hlen
  refine ⟨fun hreq hr => ?_, fun x hreq hx hsrc htries hs => ?_⟩
  · obtain ⟨w, hw, haside, hmem⟩ := testAttempt_ends hreq hr hd hq' hlen'
    obtain ⟨t, ht, l, lw⟩ := finish_aside (before := s) hw haside
    refine ⟨t, w.port, hexec.trans ht, ?_, lw.mem_outLine ?_⟩
    · rw [← s.advanceTo_drive due, ← s.advanceTo_pins due, ← s.advanceTo_load due, ← s.advanceTo_map due]
      exact l
    · rw [← s.advanceTo_map due]
      cases result <;> exact hmem
  · let y := triedSale x a.column result a.turnsDone
    have hcur : (s.advanceTo due).sale.current = some x := by simpa using hx
    have hsettles : SettlesAlone (s.advanceTo due) := by simpa [SettlesAlone] using hs
    have ⟨_, _, _, hret⟩ := hsettles
    obtain ⟨w, hw, haside, q, hmem, hsale⟩ := saleAttempt_closes (s := s.advanceTo due) (a := a) (r := result) (y := y)
      (o := .failed) (l := heldBack (s.advanceTo due).ledger) hreq hq' hret hlen' nofun fun v hv =>
        ⟨3, le_rfl, hv.ledger ▸ saleDriven_fails (hv.sale.trans hcur) hsrc hunsold htries
          (settlesAlone_of_links hv hsettles)⟩
    obtain ⟨t, ht, l, lw⟩ := finish_aside (before := s) hw haside
    have hmap : t.map = (columnTaken s.map a.column ((s.map.columns[a.column]).afterSale result)).recompute := by
      rw [← s.advanceTo_map due]
      exact l.map
    refine ⟨t, w.port, hexec.trans ht, ?_, q, lw.mem_outLine hmem, hsale⟩
    rw [hmap, recompute_lowest, ← s.advanceTo_drive due, ← s.advanceTo_pins due, ← s.advanceTo_load due,
      ← s.advanceTo_map due, ← s.advanceTo_ledger due, ← s.advanceTo_sale due]
    clear hmap
    generalize s.advanceTo due = u at l ⊢
    cases result with
    | vended => exact absurd rfl hunsold
    | noDrop => exact l
    | jam => exact l
    | noStart => exact l
    | openMotor => exact l
    | turned => exact l

/-- Settles O54: the drop ends the attempt as VENDED, and the sale settles and is reported. -/
theorem dropSellsProduct : Obligations.DropSellsProduct := by
  unfold Obligations.DropSellsProduct
  intro s a x hs ha hp hreq hx hsrc hmulti hfirst hq hret hlen
  let u := (s.setPins { s.pins with beamBroken := true }).setDrive { s.drive with blockTimer := some (s.now + 2000) }
  let b : Attempt := { a with dropSeen := true, dropWindow := none }
  let y := triedSale x a.column .vended a.turnsDone
  obtain ⟨w, hw, haside, q, hmem, hsale⟩ := saleAttempt_closes (s := u) (a := b) (r := .vended) (y := y) (o := .vended)
    (l := s.ledger.settle) hreq hq hret hlen (fun _ => hfirst) fun v hv => by
      have hledger : v.ledger = s.ledger := hv.ledger
      have hpayout : v.payout = s.payout := hv.payout
      have hsetting : saleMultiVend x v = saleMultiVend x s := by
        rw [saleMultiVend_eq, saleMultiVend_eq, show v.settings = s.settings from hv.settings]
      rw [← hledger]
      refine saleDriven_vends (hv.sale.trans hx) hsrc ?_
      rw [hsetting, hledger, hpayout]
      exact hmulti
  obtain ⟨t, ht, l, lw⟩ := finish_aside (before := s) hw haside
  have hmap : t.map = (columnTaken s.map a.column ((s.map.columns[a.column]).afterSale .vended)).recompute := l.map
  refine ⟨t, w.port, (drop_ends hs ha hp hreq).trans ht, ?_, q, lw.mem_outLine hmem, hsale⟩
  rw [hmap, recompute_lowest]
  exact l

end Sys2Proof.Laws
end

section
/-! SUPPORT. A refused selection (R94, R95): its checks in their order, its ANSWER and the panel's message. -/

namespace Sys2Proof.Laws
open Sys2Proof Sys2Proof.Machine

/-! ### The checks (R94) -/

section
variable {s : State} {i : SelectionId}

theorem checkSale_closed (hm : s.mode.effective ≠ .vend) : checkSale s i = .refused .closed .closed 0 := if_pos hm

/-- R94: with both units IDLE the BUSY check passes. -/
theorem checkSale_unitsFree (hs : s.sale.current = none) (hp : s.payout.phase = .idle) :
    ¬ (!(s.saleIdle && s.payIdle)) = true := by
  simp [State.saleIdle, State.payIdle, hs, hp]

theorem checkSale_busy (hm : s.mode.effective = .vend) (hb : s.sale.current ≠ none ∨ s.payout.phase ≠ .idle) :
    checkSale s i = .refused .busy .busy 0 := by
  have hidle : (!(s.saleIdle && s.payIdle)) = true := by
    rcases hb with h | h
    · simp [State.saleIdle, Option.isNone_eq_false_iff.mpr (Option.isSome_iff_ne_none.mpr h)]
    · simp [State.payIdle, h]
  unfold checkSale
  dsimp only
  rw [if_neg (not_not.mpr hm), if_pos hidle]

section
variable (hm : s.mode.effective = .vend) (hs : s.sale.current = none) (hp : s.payout.phase = .idle)
include hm hs hp

theorem checkSale_busyReports (hlen : 20 ≤ s.port.reports.length) :
    checkSale s i = .refused .busyReports .busy 0 := by
  have hopen : s.reserveOpen = false := by
    rw [← Bool.not_eq_true, s.reserveOpen_iff]
    omega
  unfold checkSale
  dsimp only
  rw [if_neg (not_not.mpr hm), if_neg (checkSale_unitsFree hs hp), if_pos (by rw [hopen]; rfl)]

theorem checkSale_notSellable (hlen : s.port.reports.length < 20)
    (hu : s.drive.sensor ≠ .clear ∨ s.map.selectionSells i = false) :
    checkSale s i = .refused .notSellable .unavailable 0 := by
  unfold checkSale
  dsimp only
  rw [if_neg (not_not.mpr hm), if_neg (checkSale_unitsFree hs hp), if_neg (by rw [s.reserveOpen_iff.mpr hlen]; nofun)]
  by_cases hsensor : s.drive.sensor = .clear
  · rw [if_neg (not_not.mpr hsensor), if_pos (by rw [hu.resolve_left (not_not.mpr hsensor)]; rfl)]
  · rw [if_pos hsensor]

theorem checkSale_insufficient (hlen : s.port.reports.length < 20) (hsensor : s.drive.sensor = .clear)
    (hsells : s.map.selectionSells i = true) (hpay : paySource s s.map.selections[i].price = none) :
    checkSale s i = .refused .insufficient .price s.map.selections[i].price := by
  unfold checkSale
  dsimp only
  rw [if_neg (not_not.mpr hm), if_neg (checkSale_unitsFree hs hp), if_neg (by rw [s.reserveOpen_iff.mpr hlen]; nofun),
    if_neg (not_not.mpr hsensor), if_neg (by rw [hsells]; nofun), hpay]

end

/-- R63, R64: a selection without a price, or of whose list no column sells, does not sell. -/
theorem selectionSells_false {m : SelMap} (h : m.selections[i].price = 0 ∨
    ∀ c ∈ m.list i, (m.columns[c]).state ≠ .available ∨ m.zoneHealth[(m.columns[c]).zone] = .proving ∨
      m.zoneHealth[(m.columns[c]).zone] = .held) : m.selectionSells i = false := by
  have hcolumn : ∀ c, ((m.columns[c]).state ≠ .available ∨ m.zoneHealth[(m.columns[c]).zone] = .proving ∨
      m.zoneHealth[(m.columns[c]).zone] = .held) → m.columnSells c = false := fun c hc => by
    unfold SelMap.columnSells SelMap.recordSells
    rcases hc with h | h | h
    · rw [decide_eq_false h, Bool.false_and]
    · rw [h, HealthState.sells, Bool.and_false]
    · rw [h, HealthState.sells, Bool.and_false]
  unfold SelMap.selectionSells SelMap.selSells
  rcases h with h | h
  · rw [h]
    rfl
  · have hany : (m.chain m.selections[i]).any m.columnSells = false :=
      List.any_eq_false.mpr fun c hc => by simp [hcolumn c (h c hc)]
    rw [hany, Bool.and_false]

/-- R95: neither the cash nor the card pays the price. -/
theorem paySource_none {p : Nat} (h : s.ledger.credit + s.cash.escrow.value < p)
    (hc : 0 < s.ledger.credit ∨ s.cash.escrow.full = true ∨ s.card = .absent ∨
      ∃ f, s.card = .present (some f) ∧ f < p) : paySource s p = none := by
  rw [paySource, if_neg (Nat.not_le.mpr (show s.funds < p from h))]
  split
  · rename_i hcard
    rcases hc with hc | hc | hc | ⟨f, hc, hf⟩
    · exact absurd hcard.1 hc.ne'
    · exact absurd (hcard.2.symm.trans hc) nofun
    · rw [hc]
    · rw [hc]
      exact if_neg (Nat.not_le.mpr hf)
  · rfl

end

/-! ### The refusal (R94, R183) -/

/-- The checks read no more of the port than how many reports it holds. -/
theorem noteHeader_checkSale (s : State) (h : ReqHeader) (i : SelectionId) :
    checkSale (s.noteHeader h) i = checkSale s i := by
  obtain ⟨q, hq, hlen⟩ := noteHeader_port s h
  have hopen : (s.setPort q).reserveOpen = s.reserveOpen := by
    unfold State.reserveOpen State.freeReports
    rw [State.setPort_port, hlen]
  rw [hq]
  unfold checkSale
  rw [hopen]
  rfl

/-- R94: what a check refuses is answered with its code, the price beside INSUFFICIENT, and shown (log 9). -/
theorem select_refused {s : State} {h : ReqHeader} {n : Byte} {i : SelectionId} {code : ResultCode} {shown : ShowCode}
    {amount : Nat} (ht : s.takes h) (hn : n.toNat = i.val) (hc : checkSale s i = .refused code shown amount) :
    let data : AnswerData := if code = .insufficient then .price amount else .empty
    ∃ t, exec (.select h n) s = .next t ∧ LinksOnly { s with port := answeredPort s h .select code data } t ∧
      t.newestAnswer = some (answerTo s h .select code data) := by
  intro data
  let u := s.setPort (answeredPort s h .select code data)
  have hbody : selectRequest n.toNat (s.noteHeader h) = (u.show shown amount).only := by
    rw [hn, selectRequest, dif_pos i.isLt, noteHeader_checkSale, hc]
    dsimp only
    rw [s.noteHeader_answer]
  have hexec : exec (.select h n) s = finish s (u.show shown amount).only := by
    rw [← hbody]
    exact takeRequest_taken h .select _ s ht
  rw [hexec]
  refine finish_answered ?_ ?_
  · rw [runOut_only]
    exact .show u _ _
  · rw [runOut_only]
    exact (u.show_grows shown amount).slot

/-- Settles O35: each check refuses in its turn, those before it being passed. -/
theorem selectRefusedByFirstCheck : Obligations.SelectRefusedByFirstCheck := by
  unfold Obligations.SelectRefusedByFirstCheck
  intro s h n ht
  refine ⟨fun hn => ?_, fun i hn => ⟨fun hm => ?_, fun hm => ⟨fun hb => ?_, fun hs hp => ⟨fun hlen => ?_,
    fun hlen => ⟨fun hu => ?_, fun hsensor hsells hfunds hcard => ?_⟩⟩⟩⟩⟩
  · exact request_refused (c := .select h n) ht rfl (dif_neg (Nat.not_lt.mpr hn))
  · exact select_refused ht hn (checkSale_closed hm)
  · exact select_refused ht hn (checkSale_busy hm hb)
  · exact select_refused ht hn (checkSale_busyReports hm hs hp hlen)
  · exact select_refused ht hn (checkSale_notSellable hm hs hp hlen (hu.imp_right selectionSells_false))
  · exact select_refused ht hn (checkSale_insufficient hm hs hp hlen hsensor hsells (paySource_none hfunds hcard))

end Sys2Proof.Laws
end

section
/-! SUPPORT. A sale that ends without a product (R108): what becomes of its hold, of the reader, and its SALE report. -/

namespace Sys2Proof.Laws
open Sys2Proof Sys2Proof.Machine

section
variable {s : State} {x : Sale} {o : SaleOutcome}

/-! ### The outcome set (R108, step 1) -/

/-- R108, R26: an unsold CASH sale's hold goes back to credit. -/
theorem saleEnd_unsold (hx : s.sale.current = some x) (hsrc : x.source = .cash) (ho : o ≠ .vended) :
    saleEnd o s = ((s.setCurrentSale (some (settledSale x o))).returnHold, [.payTell, .saleFinish 0]) := by
  unfold saleEnd settledSale
  rw [hx]
  dsimp only
  rw [hsrc]
  cases o with
  | vended => exact absurd rfl ho
  | _ => rfl

/-- R108: the reader that was not asked is told nothing of an unsold sale. -/
theorem tellReader_unasked (hn : x.told = .none) (ho : o ≠ .vended) : tellReader x o s = s := by
  cases o with
  | vended => exact absurd rfl ho
  | _ => exact if_neg (by rw [hn]; nofun)

/-- R108: the reader that was asked is told that the sale failed. -/
theorem tellReader_asked (hx : s.sale.current = some x) (ha : x.told = .asked) (ho : o ≠ .vended) :
    ∃ told, tellReader x o s =
      (s.hand reader (chargeEndRequest false)).setCurrentSale (some { x with told := told }) := by
  obtain ⟨told, h⟩ := tellReader_failed hx ha
  refine ⟨told, h ▸ ?_⟩
  cases o with
  | vended => exact absurd rfl ho
  | _ => rfl

/-! ### To the end of the sale (R108, steps 2 to 6) -/

theorem saleClosed_slot (s : State) (x : Sale) (o : SaleOutcome) (n : Nat) :
    (saleClosed s x o n).port.slot = s.port.slot :=
  ((s.saleReport x o n).show_grows (outcomeShow o) _).slot.trans (s.report_slot _)

/-- R109: a SALE report names a sale, its outcome and its price. -/
def NamesSale (x : Sale) (o : SaleOutcome) (r : SaleReport) : Prop :=
  r.number = x.number ∧ r.outcome = o ∧ r.price = x.price

/-- R109, R191: the SALE report of a closed sale joins where there is room. -/
theorem saleClosed_priced {n : Nat} (h : s.port.reports.length < 32) :
    ∃ r : SaleReport, .sale r ∈ (saleClosed s x o n).port.reports ∧ NamesSale x o r := by
  obtain ⟨r, hjoin, hr⟩ : ∃ r : SaleReport,
      (s.saleReport x o n).port = { s.port with reports := s.port.reports ++ [.sale r] } ∧
        NamesSale x o r := ⟨_, State.report_joins rfl h, rfl, rfl, rfl⟩
  refine ⟨r, ((s.saleReport x o n).show_grows (outcomeShow o) _).mem ?_, hr⟩
  rw [hjoin]
  exact List.mem_append_right _ List.mem_cons_self

/-- R108: an unsold sale whose outcome is set, closed. -/
theorem unsold_closes (hx : s.sale.current = some x) (hout : x.outcome = some o) (ho : o ≠ .vended)
    (hret : s.sale.pendingReturn = false) : Runs 2 (s, [.saleFinish 0]) (saleClosed s x o 0, []) :=
  saleFinish_closes hx hout (fun h => absurd h ho) hret

/-- R108, R26: an unsold CASH sale, its hold back in credit. -/
theorem cashSale_closes (hx : s.sale.current = some x) (hsrc : x.source = .cash) (ho : o ≠ .vended)
    (hs : SettlesAlone s) :
    Runs 4 (s, [.saleEnd o]) (saleClosed (saleSettled s x o (heldBack s.ledger)) (settledSale x o) o 0, []) := by
  obtain ⟨hfit, hpend, hidle, hret⟩ := hs
  have hend : runOne (.saleEnd o) s = (saleSettled s x o (heldBack s.ledger), [.payTell, .saleFinish 0]) :=
    (saleEnd_unsold hx hsrc ho).trans (congrArg (·, [Job.payTell, Job.saleFinish 0])
      (returnHold_fits (s := s.setCurrentSale (some (settledSale x o))) hfit hpend))
  exact ((Runs.step hend).trans (payTell_runs (s := saleSettled s x o (heldBack s.ledger)) hidle)).trans
    (unsold_closes rfl rfl ho hret)

/-- R108: an unsold CASHLESS sale of which the reader was not asked. -/
theorem unaskedSale_closes (hx : s.sale.current = some x) (hsrc : x.source = .cashless) (hn : x.told = .none)
    (ho : o ≠ .vended) (hret : s.sale.pendingReturn = false) :
    Runs 3 (s, [.saleEnd o])
      (saleClosed (s.setCurrentSale (some (settledSale x o))) (settledSale x o) o 0, []) := by
  have hend : runOne (.saleEnd o) s = (s.setCurrentSale (some (settledSale x o)), [.saleFinish 0]) :=
    (saleEnd_cashless hx hsrc).trans (congrArg (·, [Job.saleFinish 0]) (tellReader_unasked hn ho))
  exact (Runs.step hend).trans (unsold_closes rfl rfl ho hret)

/-- R108: an unsold CASHLESS sale of which the reader was asked, and is told. -/
theorem askedSale_closes (hx : s.sale.current = some x) (hsrc : x.source = .cashless) (ha : x.told = .asked)
    (ho : o ≠ .vended) (hret : s.sale.pendingReturn = false) (hlen : s.port.reports.length < 20) :
    ∃ w, Runs 3 (s, [.saleEnd o]) (w, []) ∧
      PortAside ((s.setLine (s.hand reader (chargeEndRequest false)).line).setCurrentSale none) w ∧
      ∃ r : SaleReport, .sale r ∈ w.port.reports ∧ NamesSale x o r := by
  let b := s.setCurrentSale (some (settledSale x o))
  obtain ⟨told, htold⟩ := tellReader_asked (s := b) (x := settledSale x o) rfl ha ho
  let f := (b.hand reader (chargeEndRequest false)).setCurrentSale (some { settledSale x o with told := told })
  have hend : runOne (.saleEnd o) s = (f, [.saleFinish 0]) :=
    (saleEnd_cashless hx hsrc).trans (congrArg (·, [Job.saleFinish 0]) htold)
  have hfret : f.sale.pendingReturn = false := by
    show (b.hand reader (chargeEndRequest false)).sale.pendingReturn = false
    rw [b.hand_eq reader (chargeEndRequest false)]
    exact hret
  have hline : (b.hand reader (chargeEndRequest false)).line = (s.hand reader (chargeEndRequest false)).line := by
    rw [State.hand_line, State.hand_line]
    rfl
  have hhand := (LinksOnly.hand_line b reader (chargeEndRequest false)).setCurrentSale none
  rw [hline] at hhand
  refine ⟨_, (Runs.step hend).trans (unsold_closes rfl rfl ho hfret), hhand.aside.trans (saleClosed_aside f _ o 0),
    saleClosed_priced (s := f) (x := { settledSale x o with told := told }) ?_⟩
  have hshort : f.port.reports.length ≤ max s.port.reports.length 20 :=
    (b.hand_calm reader (chargeEndRequest false)).short
  omega

end

end Sys2Proof.Laws
end

section
/-! SUPPORT. The limits of a sale (R100, R103, R105). -/

namespace Sys2Proof.Laws
open Sys2Proof Sys2Proof.Machine

theorem removeFrames_line (s : State) (st : StationId) (ks : List LineKind) : (s.removeFrames st ks).line =
    { s.line with
      queue := s.line.queue.filter fun e => !(decide (e.station = st) && ks.contains e.request.kind) } := rfl

/-- A handed frame reads and changes the line by the line alone (R173). -/
theorem hand_line_congr {s t : State} (h : t.line = s.line) (st : StationId) (r : LineRequest) :
    (t.hand st r).line = (s.hand st r).line := by
  rw [State.hand_line, State.hand_line, State.active, State.active, h]

section
variable {s : State} {x : Sale} {o : SaleOutcome}

/-- R100, R105: a CASH sale that ends unsold, from its outcome to its report. -/
theorem cashSale_ends {before : State} {k : Nat} {out : Out} (hruns : Runs k out (s, [.saleEnd o])) (hk : k ≤ 8)
    (hx : s.sale.current = some x) (hsrc : x.source = .cash) (ho : o ≠ .vended) (hs : SettlesAlone s)
    (hlen : s.port.reports.length < 20) :
    ∃ (t : State) (p : Port), finish before out = .next t ∧
      (∃ r : SaleReport, .report (.sale r) ∈ t.outLine ∧ NamesSale x o r) ∧
      LinksOnly (((s.setLedger (heldBack s.ledger)).setCurrentSale none).setPort p) t := by
  obtain ⟨t, ht, l, lw⟩ := finish_aside (before := before)
    ((hruns.trans (cashSale_closes hx hsrc ho hs)).runOut (by omega))
    (saleClosed_aside (saleSettled s x o (heldBack s.ledger)) (settledSale x o) o 0)
  obtain ⟨r, hmem, hr⟩ := saleClosed_priced (s := saleSettled s x o (heldBack s.ledger)) (x := settledSale x o)
    (o := o) (n := 0) (show s.port.reports.length < 32 by omega)
  exact ⟨t, _, ht, ⟨r, lw.mem_outLine hmem, hr⟩, l⟩

/-- R103: a CASHLESS sale that ends unsold while its question to the reader may be unsent. -/
theorem askedSale_ends {before : State} (hx : s.sale.current = some x) (hsrc : x.source = .cashless)
    (ha : x.told = .asked) (ho : o ≠ .vended) (hret : s.sale.pendingReturn = false)
    (hlen : s.port.reports.length < 20) :
    ∃ (t : State) (p : Port), finish before (s.removeFrames reader [.chargeAsk], [.saleEnd o]) = .next t ∧
      (∃ r : SaleReport, .report (.sale r) ∈ t.outLine ∧ NamesSale x o r) ∧
      LinksOnly (((s.setLine ((s.removeFrames reader [.chargeAsk]).hand reader
        (chargeEndRequest false)).line).setCurrentSale none).setPort p) t := by
  obtain ⟨w, hruns, haside, r, hmem, hr⟩ := askedSale_closes (s := s.removeFrames reader [.chargeAsk]) hx hsrc ha ho
    hret hlen
  obtain ⟨t, ht, l, lw⟩ := finish_aside (before := before) (hruns.runOut (by decide)) haside
  exact ⟨t, w.port, ht, ⟨r, lw.mem_outLine hmem, hr⟩, l⟩

/-- What is outstanding stays so, whatever the links do by themselves (R166). -/
theorem outstanding_of_links {u t : State} (l : LinksOnly u t) {st : StationId} {q : LineRequest}
    (h : (u.line.stations[st]).outstanding = some q) : (t.line.stations[st]).outstanding = some q := by
  rcases l.outstanding st with ht | ⟨hn, -⟩
  · exact ht.trans h
  · exact absurd (hn.symm.trans h) nofun

end

/-- Settles O38: each limit sets the sale's outcome at the moment of its expiry, and the sale ends unsold. -/
theorem saleLimitsEndSale : Obligations.SaleLimitsEndSale := by
  unfold Obligations.SaleLimitsEndSale
  intro s x limit hx
  have hcur : (s.advanceTo limit).sale.current = some x := by simpa using hx
  have hlen' (h : s.port.reports.length < 20) : (s.advanceTo limit).port.reports.length < 20 := by simpa using h
  have hs' (h : SettlesAlone s) : SettlesAlone (s.advanceTo limit) := by simpa [SettlesAlone] using h
  refine ⟨fun hst hl hsrc hs hlen => ?_, fun hst hl hsrc ha hret hlen => ?_, fun hl hsrc hs hlen hq => ?_⟩
  · have hexec : exec .hostApprovalLimitExpiry s = finish s (s.advanceTo limit, [.saleEnd .timedOut]) := by
      show execHostApprovalLimitExpiry s = _
      rw [execHostApprovalLimitExpiry, approvalSale, hx]
      dsimp only
      rw [if_pos hst, hl]
    rw [hexec, ← s.advanceTo_ledger limit, ← s.advanceTo_sale limit]
    exact cashSale_ends (k := 0) (fun _ => rfl) (by decide) hcur hsrc nofun (hs' hs) (hlen' hlen)
  · have hexec : exec .readerApprovalLimitExpiry s =
        finish s ((s.advanceTo limit).removeFrames reader [.chargeAsk], [.saleEnd .timedOut]) := by
      show execReaderApprovalLimitExpiry s = _
      rw [execReaderApprovalLimitExpiry, approvalSale, hx]
      dsimp only
      rw [if_pos hst, hl]
    have hline : (((s.advanceTo limit).removeFrames reader [.chargeAsk]).hand reader (chargeEndRequest false)).line =
        ((s.removeFrames reader [.chargeAsk]).hand reader (.with .chargeEnd [0#8])).line := by
      refine hand_line_congr ?_ reader (chargeEndRequest false)
      rw [removeFrames_line, removeFrames_line, s.advanceTo_line]
    obtain ⟨t, p, ht, hr, l⟩ := askedSale_ends (before := s) (o := .timedOut) hcur hsrc ha nofun (by simpa using hret)
      (hlen' hlen)
    rw [hline] at l
    refine ⟨t, p, hexec.trans ht, hr, ?_, noChargeAsk_of_links s l rfl, fun q hq => outstanding_of_links l ?_⟩
    · rw [← s.advanceTo_sale limit]
      exact l
    · rw [State.setPort_line, State.hand_line]
      exact hq
  · have hexec : exec .loadLimitExpiry s =
        finish s (s.advanceTo limit, [.load (.withdraw .spiral), .saleEnd .noPower]) := by
      show execLoadLimitExpiry s = _
      rw [execLoadLimitExpiry, saleLoadLimit, hx]
      dsimp only
      rw [hl]
    have hruns := withdraw_runs (s := s.advanceTo limit) (who := .spiral) (js := [.saleEnd .noPower])
      (by simpa using hq) rfl
    rw [hexec, ← s.advanceTo_ledger limit, ← s.advanceTo_sale limit, ← s.advanceTo_load limit]
    exact cashSale_ends hruns (by decide) hcur hsrc nofun (hs' hs) (hlen' hlen)

end Sys2Proof.Laws
end

section
/-! SUPPORT. APPROVE (R99): too late, or the decision of a sale that waits for the host (R101, R104, R108). -/

namespace Sys2Proof.Laws
open Sys2Proof Sys2Proof.Machine

/-! ### The decision (R99) -/

section
variable {s : State} {h : ReqHeader} {x : Sale} {number : Nat}

theorem approveRequest_late {yes : Bool}
    (hno : ∀ x, s.sale.current = some x → x.stage = .hostApproval → x.number ≠ number) :
    approveRequest number yes s = refuse .approve .late s := by
  have hnone : approvedSale number s = none := by
    unfold approvedSale
    split
    · rename_i x hx
      exact if_neg fun hc => hno x hx hc.1 hc.2
    · rfl
  rw [approveRequest, hnone]

/-- R99: the sale whose approval limit the APPROVE has stopped. -/
def limitStopped (x : Sale) : Sale := { x with approvalLimit := none }

theorem approveRequest_decides (hx : s.sale.current = some x) (hst : x.stage = .hostApproval)
    (hn : x.number = number) (yes : Bool) :
    let a := s.setPort (answeredPort s h .approve .ok .empty)
    approveRequest number yes (s.noteHeader h) =
      if yes then enterReaderOrTry (limitStopped x) a
      else (a.setCurrentSale (some (limitStopped x)), [.saleEnd .denied]) := by
  have hsome : approvedSale number (s.noteHeader h) = some x := by
    rw [approvedSale, s.noteHeader_sale, hx]
    exact if_pos ⟨hst, hn⟩
  intro a
  rw [approveRequest, hsome, s.noteHeader_answer]
  rfl

end

/-! ### Yes (R101, R104) -/

section
variable {s : State} {x : Sale} {c : ColumnId}

theorem enterReaderOrTry_asks (hsrc : x.source = .cashless) : enterReaderOrTry x s = enterReader x s := by
  rw [enterReaderOrTry, hsrc]

theorem enterReaderOrTry_tries (hsrc : x.source = .cash) :
    enterReaderOrTry x s = (s.setCurrentSale (some x), [.saleTry]) := by
  rw [enterReaderOrTry, hsrc]

/-- R101: the reader is asked for the sale. -/
theorem enterReader_asks (x : Sale) (s : State) :
    ∃ w, enterReader x s = (w, []) ∧ w.port.slot = s.port.slot ∧
      PortAside ((s.setLine (s.hand reader (chargeAskRequest x.number x.price x.selection)).line).setCurrentSale
        (some { x with stage := .readerApproval, told := .asked, approvalLimit := some (s.now + 30000) })) w := by
  let r := chargeAskRequest x.number x.price x.selection
  let y : Sale := { x with stage := .readerApproval, told := .asked, approvalLimit := some (s.now + 30000) }
  let v := (s.hand reader r).setCurrentSale (some y)
  have hv : enterReader x s = (v.show .approving x.price, []) := rfl
  exact ⟨_, hv, (v.show_grows .approving x.price).slot.trans (s.hand_grows reader r).slot,
    ((LinksOnly.hand_line s reader r).setCurrentSale (some y)).aside.trans (LinksOnly.show v _ _).aside⟩

/-- R106, R73: the grant of a try whose start the drive takes. -/
theorem saleGiven_starts (hx : s.sale.current = some x) (hst : x.stage = .loadWait) (hc : x.chosen = some c)
    (hatt : s.drive.attempt = none) (hsensor : s.drive.sensor = .clear) (hsells : s.map.columnSells c = true) :
    saleGiven s =
      ((s.setCurrentSale (some { x with stage := .driving, loadLimit := none })).startSale c, []) := by
  have hcheck : startCheck s c = .taken := by
    rw [startCheck, hatt, if_neg (by nofun), if_neg (not_not.mpr hsensor), if_pos hsells]
  unfold saleGiven
  rw [hx]
  dsimp only
  rw [hst, hc]
  dsimp only
  rw [hcheck]
  rfl

/-- Inner steps that come to their end in as many steps end in one state. -/
theorem Runs.unique {k : Nat} {o : Out} {w w' : State} (h : Runs k o (w, [])) (h' : Runs k o (w', [])) : w = w' :=
  (h 0).symm.trans (h' 0)

/-- R104, R106: a try that starts at once leaves the ANSWER where it stands. -/
theorem saleTry_slot {w : State} (hx : s.sale.current = some x)
    (hsearch : s.map.search x.selection (x.tried.map Try.column) = some c) (hready : SpiralReady s)
    (hruns : Runs 4 (s, [.saleTry]) (w, [])) : w.port.slot = s.port.slot := by
  obtain ⟨hq, hg, hf, hatt, hsensor⟩ := hready
  let x1 : Sale := { x with stage := .loadWait, chosen := some c, approvalLimit := none
                            loadLimit := some (s.now + Config.loadLimit) }
  let v := s.setCurrentSale (some x1)
  have htry : runOne .saleTry s = (v.show .vending x.price, [.load (.ask .spiral)]) := by
    show saleTry s = _
    rw [saleTry, hx]
    dsimp only
    rw [hsearch]
  have l : LinksOnly v (v.show .vending x.price) := .show _ _ _
  have hslot : (v.show .vending x.price).port.slot = s.port.slot := (v.show_grows .vending x.price).slot
  generalize v.show .vending x.price = v1 at htry l hslot
  have hload : v1.load = s.load := l.load
  have hdrive : v1.drive = s.drive := l.drive
  have hmap : v1.map = s.map := l.map
  have hask := ask_runs (s := v1) (who := .spiral) (js := []) (hload ▸ hq) (hload ▸ hg) (hload ▸ hf) rfl
  let v2 := v1.setLoad { v1.load with grants := v1.load.grants ++ [{ holder := .spiral, units := 2 }] }
  have hgive : runOne (.give .spiral 2) v2 = _ := saleGiven_starts (s := v2) l.sale rfl rfl
    ((congrArg Drive.attempt hdrive).trans hatt) ((congrArg Drive.sensor hdrive).trans hsensor)
    ((congrArg (·.columnSells c) hmap).trans (columnSells_of_search hsearch))
  rw [hruns.unique ((((Runs.step htry).trans hask).trans (Runs.step hgive)).trans (handDone_runs _ []))]
  exact hslot

end

/-- Settles O37: the APPROVE is answered, and then the sale is asked for, tried or over. -/
theorem approveDecidesSale : Obligations.ApproveDecidesSale := by
  unfold Obligations.ApproveDecidesSale
  intro s h number yes ht
  let a := s.setPort (answeredPort s h .approve .ok .empty)
  have hexec : exec (.approve h number yes) s =
      takeRequest h .approve (approveRequest number.toNat (decide (yes ≠ 0#8))) s := rfl
  refine ⟨fun hno => ?_, fun x hx hst hn => ?_⟩
  · exact request_refused ht hexec (approveRequest_late (by simpa using hno))
  · have hbody := approveRequest_decides (h := h) hx hst hn (decide (yes ≠ 0#8))
    have hyes (hy : yes ≠ 0#8) := hbody.trans (if_pos (decide_eq_true hy))
    have hno (hy : yes = 0#8) := hbody.trans (if_neg (by simp [hy]))
    refine ⟨fun hy hsrc => ?_, fun c hy hsrc hready htried hsearch => ?_, fun hy hsrc hs => ?_,
      fun hy hsrc htold hret => ?_⟩
    · obtain ⟨w, hw, hslot, haside⟩ := enterReader_asks (limitStopped x) a
      have hasks := (hyes hy).trans ((enterReaderOrTry_asks (x := limitStopped x) hsrc).trans hw)
      obtain ⟨t, hnext, l, hans⟩ := request_runs (k := 0) ht hexec (fun n => by rw [hasks]; rfl) (by decide) haside
        hslot
      refine ⟨t, w.port, hnext, ?_, hans⟩
      rw [hand_setPort_line] at l
      exact l
    · have htries := (hyes hy).trans (enterReaderOrTry_tries (x := limitStopped x) hsrc)
      have hfind : s.map.search x.selection (x.tried.map Try.column) = some c := by rw [htried]; exact hsearch
      obtain ⟨w, hruns, haside⟩ := saleTry_starts (v := a.setCurrentSale (some (limitStopped x))) (js := []) rfl hfind
        hready rfl
      obtain ⟨t, hnext, l, hans⟩ := request_runs ht hexec (htries ▸ hruns) (by decide) haside
        (saleTry_slot (s := a.setCurrentSale (some (limitStopped x))) rfl hfind hready hruns)
      exact ⟨t, w.port, hnext, l, hans⟩
    · have hruns := cashSale_closes (s := a.setCurrentSale (some (limitStopped x))) (o := .denied) rfl hsrc nofun hs
      obtain ⟨t, hnext, l, hans⟩ := request_runs ht hexec (hno hy ▸ hruns) (by decide) (saleClosed_aside _ _ _ _)
        (saleClosed_slot _ _ _ _)
      exact ⟨t, _, hnext, l, hans⟩
    · have hruns := unaskedSale_closes (s := a.setCurrentSale (some (limitStopped x))) (o := .denied) rfl hsrc htold
        nofun hret
      obtain ⟨t, hnext, l, hans⟩ := request_runs ht hexec (hno hy ▸ hruns) (by decide) (saleClosed_aside _ _ _ _)
        (saleClosed_slot _ _ _ _)
      exact ⟨t, _, hnext, l, hans⟩

end Sys2Proof.Laws
end

section
/-! SUPPORT. The load arbiter: what a step can make of its record and of the clock, and which inner steps leave both
alone (R117 to R125). -/

namespace Sys2Proof.Laws
open Sys2Proof Sys2Proof.Machine

/-! ### The record and the clock, one operation after another -/

/-- The load record with the clock, by which a request's time is noted (R117). -/
def supply (s : State) : Load × Nat := (s.load, s.now)

/-- One operation: power-on, time that passes, a budget that covers the grants (R124), a pass (R119), or what changes
the record before one (R117, R121 to R125). -/
inductive SupplyOp : Load × Nat → Load × Nat → Prop
  | power (p : Load × Nat) : SupplyOp p (Load.powerOn, 0)
  | clock (l : Load) {n m : Nat} (h : n ≤ m) : SupplyOp (l, n) (l, m)
  | budget {l : Load} {b : Nat} (n : Nat) (h : l.granted ≤ b) : SupplyOp (l, n) ({ l with budget := b }, n)
  | asked (l : Load) (who : Requester) (n : Nat) : SupplyOp (l, n) (l.asked who n, n)
  | released (l : Load) (who : Requester) (n : Nat) : SupplyOp (l, n) (l.released who, n)
  | reduced (l : Load) (n : Nat) : SupplyOp (l, n) (l.reduced, n)
  | withdrawn (l : Load) (who : Requester) (n : Nat) : SupplyOp (l, n) (l.withdrawn who, n)
  | promoted (l : Load) (who : Requester) (n : Nat) : SupplyOp (l, n) (l.promoted who, n)
  | recounted (l : Load) (n : Nat) : SupplyOp (l, n) (l.recounted, n)
  | pass (l : Load) (n : Nat) : SupplyOp (l, n) (l.pass, n)

/-- Operations, none or more, lead from the record and the clock of one state to those of another. -/
def SupplyMoves (s t : State) : Prop := Relation.ReflTransGen SupplyOp (supply s) (supply t)

theorem SupplyMoves.refl (s : State) : SupplyMoves s s := Relation.ReflTransGen.refl

theorem SupplyMoves.trans {s t u : State} (h : SupplyMoves s t) (k : SupplyMoves t u) : SupplyMoves s u :=
  Relation.ReflTransGen.trans h k

/-- What every operation keeps, operations one after another keep. -/
theorem SupplyMoves.keeps {Q : Load × Nat → Prop} (op : ∀ a b, SupplyOp a b → Q a → Q b) {s t : State}
    (h : SupplyMoves s t) (hs : Q (supply s)) : Q (supply t) := by
  unfold SupplyMoves at h
  generalize supply s = a, supply t = b at h hs
  induction h with
  | refl => exact hs
  | tail _ hop ih => exact op _ _ hop ih

/-- `t` has the load record and the clock of `s`. -/
@[simp] abbrev SupplyKept (s t : State) : Prop := t.load = s.load ∧ t.now = s.now

/-- The record as it was, and the clock not behind. -/
theorem SupplyMoves.later {s t : State} (hl : t.load = s.load) (hn : s.now ≤ t.now) : SupplyMoves s t := by
  have hs : supply t = (s.load, t.now) := by rw [supply, hl]
  exact .single (hs ▸ .clock s.load hn)

theorem SupplyKept.moves {s t : State} (h : SupplyKept s t) : SupplyMoves s t :=
  have ⟨hl, hn⟩ := h
  .later hl hn.ge

/-! ### What reaches the arbiter -/

theorem makePass_moves {s : State} {l : Load} (h : SupplyOp (s.load, s.now) (l, s.now)) :
    SupplyMoves s (s.setLoad l).makePass.1 :=
  .tail (.single h) (.pass l s.now)

/-- What reaches the arbiter does nothing, or changes the record and makes a pass. -/
theorem loadStep_moves (op : LoadOp) (s : State) : SupplyMoves s (loadStep op s).1 := by
  cases op with
  | ask who =>
    simp only [loadStep]
    split
    · exact .refl s
    · exact makePass_moves (.asked _ who _)
  | release who =>
    simp only [loadStep]
    split
    · exact makePass_moves (.released _ who _)
    · exact .refl s
  | reduce =>
    simp only [loadStep]
    split
    · exact .refl s
    · exact makePass_moves (.reduced _ _)
  | withdraw who =>
    simp only [loadStep]
    split
    · exact makePass_moves (.withdrawn _ who _)
    · exact .refl s
  | promote who => exact makePass_moves (.promoted _ who _)
  | recount => exact makePass_moves (.recounted _ _)

/-! ### Inner steps that leave the record and the clock alone -/

section
variable (s : State)

@[simp] theorem reroute_supply : SupplyKept s s.reroute := ⟨(reroute_links s).load, (reroute_links s).now⟩
@[simp] theorem tubeResult_supply (n : TubeId) (f : Tube → Tube) : SupplyKept s (s.tubeResult n f) := by
  simp [State.tubeResult]
@[simp] theorem takeMap_supply (m : SelMap) : SupplyKept s (s.takeMap m).1 := ⟨rfl, rfl⟩
@[simp] theorem handHealth_supply (z : ZoneId) (h : Health) : SupplyKept s (s.handHealth z h).1 := by
  fun_cases State.handHealth s z h <;> simp +zetaDelta
@[simp] theorem healthSample_supply (z : ZoneId) (b : Bool) (c : Option ZoneCause) :
    SupplyKept s (healthSample z b c s).1 := by
  fun_cases healthSample z b c s <;> simp +zetaDelta
@[simp] theorem healthWrite_supply (l : List (ZoneId × Health × ZoneCause)) :
    SupplyKept s (healthWrite l s).1 := ⟨rfl, rfl⟩
@[simp] theorem zoneReport_supply (z : ZoneId) (c : ZoneCause) : SupplyKept s (s.zoneReport z c) := by
  simp [State.zoneReport]

@[simp] theorem coolAct_supply : SupplyKept s (coolAct s).1 := by
  fun_cases coolAct s <;> simp
@[simp] theorem lockoutTest_supply : SupplyKept s (lockoutTest s).1 := by
  fun_cases lockoutTest s <;> simp
@[simp] theorem endHeating_supply : SupplyKept s (endHeating s).1 := ⟨rfl, rfl⟩
@[simp] theorem heatTest_supply : SupplyKept s (heatTest s).1 := by
  fun_cases heatTest s <;> simp
@[simp] theorem heatPast_supply : SupplyKept s (heatPast s).1 := by
  fun_cases heatPast s <;> simp
@[simp] theorem endDrip_supply : SupplyKept s (endDrip s).1 := ⟨rfl, rfl⟩
@[simp] theorem dripTest_supply : SupplyKept s (dripTest s).1 := by
  fun_cases dripTest s <;> simp
@[simp] theorem compressorGiven_supply : SupplyKept s (compressorGiven s).1 := by
  fun_cases compressorGiven s <;> simp
@[simp] theorem heaterGiven_supply : SupplyKept s (heaterGiven s).1 := by
  fun_cases heaterGiven s <;> simp

@[simp] theorem payoutDone_supply (o : Occasion) (m : Bool) (p w : Nat) (e : List TubeEntry) :
    SupplyKept s (s.payoutDone o m p w e) := by simp [State.payoutDone]
@[simp] theorem commandEnded_supply (n : TubeId) (p v : Nat) (e : PayEnding) :
    SupplyKept s (s.commandEnded n p v e) := ⟨rfl, rfl⟩
@[simp] theorem payNext_supply : SupplyKept s (payNext s).1 := by
  fun_cases payNext s <;> simp
@[simp] theorem payGiven_supply : SupplyKept s (payGiven s).1 := by
  fun_cases payGiven s <;> simp +zetaDelta
@[simp] theorem payLost_supply : SupplyKept s (payLost s).1 := by
  fun_cases payLost s <;> simp
@[simp] theorem payEnd_supply : SupplyKept s (payEnd s).1 := by simp [payEnd]
@[simp] theorem payCut_supply : SupplyKept s (payCut s).1 := by
  fun_cases payCut s <;> simp

@[simp] theorem giveBack_supply (b : BillId) (v : Nat) : SupplyKept s (s.giveBack b v) := by
  fun_cases State.giveBack s b v <;> simp
@[simp] theorem billEscrowed_supply (b : BillId) : SupplyKept s (billEscrowed b s).1 := by
  fun_cases billEscrowed b s <;> simp
@[simp] theorem stackAsk_supply : SupplyKept s (stackAsk s).1 := by
  fun_cases stackAsk s <;> simp
@[simp] theorem stackGiven_supply : SupplyKept s (stackGiven s).1 := by
  fun_cases stackGiven s <;> simp
@[simp] theorem billStackedTail_supply (b : BillId) (v : Nat) : SupplyKept s (billStackedTail b v s).1 := by
  fun_cases billStackedTail b v s <;> simp +zetaDelta
@[simp] theorem dropBillFrames_supply : SupplyKept s s.dropBillFrames := ⟨rfl, rfl⟩
@[simp] theorem billReturned_supply : SupplyKept s (billReturned s).1 := by
  fun_cases billReturned s <;> simp +zetaDelta
@[simp] theorem stackGaveUp_supply : SupplyKept s (stackGaveUp s).1 := by
  unfold stackGaveUp
  split
  · split <;> simp
  · simp
@[simp] theorem stackUncertain_supply : SupplyKept s (stackUncertain s).1 := by
  fun_cases stackUncertain s <;> simp
@[simp] theorem returnEscrow_supply : SupplyKept s s.returnEscrow := by
  fun_cases State.returnEscrow s <;> simp
@[simp] theorem escrowLost_supply : SupplyKept s (escrowLost s).1 := by
  fun_cases escrowLost s <;> simp
@[simp] theorem cardOn_supply (f : Option Nat) : SupplyKept s (cardOn f s).1 := ⟨rfl, rfl⟩
@[simp] theorem cardClose_supply : SupplyKept s (cardClose s).1 := by
  fun_cases cardClose s <;> simp

@[simp] theorem testGiven_supply : SupplyKept s (testGiven s).1 := by
  fun_cases testGiven s <;> simp
@[simp] theorem testLeave_supply : SupplyKept s (testLeave s).1 := by
  fun_cases testLeave s <;> simp
@[simp] theorem serviceLeft_supply : SupplyKept s (serviceLeft s).1 := by simp [serviceLeft]
@[simp] theorem testResult_supply (c : ColumnId) (o : TestOutcome) (d : DropField) (b : ColState) :
    SupplyKept s (s.testResult c o d b) := by simp [State.testResult]
@[simp] theorem testNever_supply (c : ColumnId) (o : TestOutcome) : SupplyKept s (s.testNever c o) := by
  simp [State.testNever]

@[simp] theorem enterHost_supply (x : Sale) : SupplyKept s (enterHost x s).1 := by simp [enterHost]
@[simp] theorem enterReader_supply (x : Sale) : SupplyKept s (enterReader x s).1 := by simp [enterReader]
@[simp] theorem enterReaderOrTry_supply (x : Sale) : SupplyKept s (enterReaderOrTry x s).1 := by
  fun_cases enterReaderOrTry x s <;> simp
@[simp] theorem enterStage_supply (x : Sale) : SupplyKept s (enterStage x s).1 := by
  fun_cases enterStage x s <;> simp
@[simp] theorem showStacking_supply : SupplyKept s s.showStacking := by
  fun_cases State.showStacking s <;> simp
@[simp] theorem saleTry_supply : SupplyKept s (saleTry s).1 := by
  fun_cases saleTry s <;> simp +zetaDelta
@[simp] theorem refusedTry_supply (x : Sale) (c : ColumnId) (r : TryResult) :
    SupplyKept s (refusedTry x c r s).1 := ⟨rfl, rfl⟩
@[simp] theorem saleGiven_supply : SupplyKept s (saleGiven s).1 := by
  fun_cases saleGiven s <;> simp [State.startSale]
@[simp] theorem saleDriven_supply (c : ColumnId) (r : DriveResult) (n : Nat) (b : Bool) :
    SupplyKept s (saleDriven c r n b s).1 := by
  fun_cases saleDriven c r n b s <;> simp
@[simp] theorem tellReader_supply (x : Sale) (o : SaleOutcome) : SupplyKept s (tellReader x o s) := by
  fun_cases tellReader x o s <;> simp +zetaDelta
@[simp] theorem vendedCursor_supply (x : Sale) (o : SaleOutcome) : SupplyKept s (s.vendedCursor x o) := by
  fun_cases State.vendedCursor s x o <;> simp
@[simp] theorem saleReport_supply (x : Sale) (o : SaleOutcome) (n : Nat) :
    SupplyKept s (s.saleReport x o n) := by simp [State.saleReport]
@[simp] theorem saleFinish_supply (n : Nat) : SupplyKept s (saleFinish n s).1 := by
  fun_cases saleFinish n s <;> simp +zetaDelta
@[simp] theorem returnTest_supply : SupplyKept s (returnTest s).1 := by
  fun_cases returnTest s <;> simp
@[simp] theorem leverPulled_supply : SupplyKept s (leverPulled s).1 := by
  fun_cases leverPulled s <;> simp
@[simp] theorem saleNotice_supply (c : ColumnId) (k : NoticeCause) : SupplyKept s (saleNotice c k s).1 := by
  fun_cases saleNotice c k s <;> simp
@[simp] theorem chargeAnswer_supply (n : Nat) (b : Bool) : SupplyKept s (chargeAnswer n b s).1 := by
  fun_cases chargeAnswer n b s <;> simp +zetaDelta
@[simp] theorem cardLost_supply : SupplyKept s (cardLost s).1 := by
  fun_cases cardLost s <;> simp
@[simp] theorem giveGrant_supply (who : Requester) : SupplyKept s (giveGrant who s).1 := by
  cases who <;> simp [giveGrant]

theorem foldl_supply {α : Type} (f : State → α → State) (h : ∀ s a, SupplyKept s (f s a)) :
    ∀ (l : List α) (s : State), SupplyKept s (l.foldl f s)
  | [], _ => ⟨rfl, rfl⟩
  | a :: l, s => by
    obtain ⟨hl, hn⟩ := foldl_supply f h l (f s a)
    obtain ⟨el, en⟩ := h s a
    exact ⟨hl.trans el, hn.trans en⟩
@[simp] theorem leaveActive_supply (st : StationId) (c : StationCause) : SupplyKept s (leaveActive st c s).1 := by
  unfold leaveActive
  dsimp only
  split
  · split <;> simp [foldl_supply]
  · simp [foldl_supply]

@[simp] theorem lineRestart_supply : SupplyKept s (lineRestart s).1 := by
  fun_cases lineRestart s <;> simp
@[simp] theorem holdBreak_supply : SupplyKept s s.holdBreak := ⟨rfl, rfl⟩
@[simp] theorem refreshSet_supply : SupplyKept s s.refreshSet :=
  ⟨(LinksOnly.refreshSet s).load, (LinksOnly.refreshSet s).now⟩
@[simp] theorem modeNote_supply (m : Mode) (c : ModeCause) : SupplyKept s (s.modeNote m c) := by
  simp [State.modeNote]
@[simp] theorem modeTail_supply (b : Mode) (c : ModeCause) : SupplyKept s (s.modeTail b c) := by
  unfold State.modeTail
  fun_cases State.modePanel s.refreshSet b <;> simp
theorem modeChange_supply {c : ModeCause} {o : Out} (h : modeChange c s = some o) : SupplyKept s o.1 := by
  simp only [modeChange] at h
  split at h
  · cases h
  · injection h with h
    subst h
    simp
@[simp] theorem modeRestart_supply : SupplyKept s (modeRestart s).1 := by
  unfold modeRestart
  dsimp only
  split
  · rename_i o h
    have kept := modeChange_supply _ h
    exact kept
  · simp

@[simp] theorem deposit_supply (v : Nat) : SupplyKept s (s.deposit v) := by simp [State.deposit]
@[simp] theorem returnHold_supply : SupplyKept s s.returnHold := by simp [State.returnHold]
@[simp] theorem releaseAll_supply : SupplyKept s s.releaseAll := by simp [State.releaseAll]
@[simp] theorem oweWhole_supply : SupplyKept s s.oweWhole := ⟨rfl, rfl⟩

@[simp] theorem payStart_supply : SupplyKept s (payStart s).1 := by
  fun_cases payStart s <;> simp +zetaDelta
@[simp] theorem payTell_supply : SupplyKept s (payTell s).1 := by
  fun_cases payTell s <;> simp
@[simp] theorem payPlan_supply : SupplyKept s (payPlan s).1 := by
  fun_cases payPlan s <;> simp +zetaDelta
@[simp] theorem payOweEnd_supply : SupplyKept s (payOweEnd s).1 := by
  unfold payOweEnd
  split <;> simp

@[simp] theorem acceptSale_supply (o : Origin) (i : SelectionId) (c : Source) :
    SupplyKept s (acceptSale o i c s).1 := by
  fun_cases acceptSale o i c s <;> simp +zetaDelta
@[simp] theorem stackOutcome_supply (b : Bool) : SupplyKept s (stackOutcome b s).1 := by
  fun_cases stackOutcome b s <;> simp
@[simp] theorem saleEnd_supply (o : SaleOutcome) : SupplyKept s (saleEnd o s).1 := by
  fun_cases saleEnd o s <;> simp +zetaDelta
@[simp] theorem returnAct_supply : SupplyKept s (returnAct s).1 := by simp [returnAct]
end

/-- An inner step reaches the arbiter, or leaves the record and the clock. -/
theorem runOne_supply (j : Job) (s : State) : SupplyMoves s (runOne j s).1 := by
  cases j with
  | load op => exact loadStep_moves op s
  | _ => exact SupplyKept.moves (by simp [runOne, State.saleRestart, State.showRestart])

/-- An event makes operations of the record and the clock behind those of its own effect. -/
theorem supply_eventKept (s : State) : EventKept (SupplyMoves s) where
  one j _ h := h.trans (runOne_supply j _)
  cut _ h := h
  links _ _ l h := h.trans (SupplyKept.moves ⟨l.load, l.now⟩)
  port _ _ h := h

end Sys2Proof.Laws
end

section
/-! SUPPORT. The load record and the clock under the items of a REPLY, the requests and the drive's events: a settings
WRITE alone reaches the record outside the arbiter (R124). -/

namespace Sys2Proof.Laws
open Sys2Proof Sys2Proof.Machine

/-! ### The items of a REPLY -/

section
variable (s : State)

@[simp] theorem coinMoney_supply (v : Nat) : SupplyKept s (s.coinMoney v).1 := by
  fun_cases State.coinMoney s v <;> simp
@[simp] theorem coinValueFault_supply (v : Nat) (i : Item) : SupplyKept s (s.coinValueFault v i) := by
  fun_cases State.coinValueFault s v i <;> simp
@[simp] theorem coinSeen_supply (c : CoinId) (d : CoinDest) : SupplyKept s (coinSeen c d s).1 := by
  fun_cases coinSeen c d s <;> simp +zetaDelta
@[simp] theorem billStackedItem_supply (b : BillId) : SupplyKept s (billStackedItem b s).1 := by
  fun_cases billStackedItem b s <;> simp
@[simp] theorem billSeen_supply (b : BillId) (e : BillEvent) : SupplyKept s (billSeen b e s).1 := by
  fun_cases billSeen b e s <;> simp
@[simp] theorem tubeSense_supply (n : Fin 64) (e : Sense) : SupplyKept s (tubeSense n e s).1 := by
  fun_cases tubeSense n e s <;> simp
@[simp] theorem bookPaid_supply (x : Nat) : SupplyKept s (s.bookPaid x) := by
  fun_cases State.bookPaid s x <;> simp
@[simp] theorem overpaidReport_supply (n : Fin 64) (k a : Nat) : SupplyKept s (s.overpaidReport n k a) := by
  fun_cases State.overpaidReport s n k a <;> simp
@[simp] theorem paidItem_supply (n : Fin 64) (k : Nat) : SupplyKept s (paidItem n k s).1 := by
  fun_cases paidItem n k s <;> simp [paidFull, paidShort, paidUnasked]
@[simp] theorem keyItem_supply (n : Nat) : SupplyKept s (keyItem n s).1 := by
  fun_cases keyItem n s <;> simp
/-- An item's own effect, whichever block owns it (R165). -/
@[simp] theorem itemOut_supply (st : StationId) (i : Item) : SupplyKept s (itemOut st i s).1 := by
  unfold itemOut
  split
  · cases i <;> simp
  · simp

/-! ### The exchange -/

@[simp] theorem endExchange_supply : SupplyKept s (endExchange s).1 := by
  fun_cases endExchange s <;> simp +zetaDelta
@[simp] theorem probeLater_supply (st : StationId) : SupplyKept s (s.probeLater st) := ⟨rfl, rfl⟩
@[simp] theorem waitTaken_supply (x : Exchange) : SupplyKept s (waitTaken x s).1 := by
  fun_cases waitTaken x s <;> simp +zetaDelta
@[simp] theorem missTaken_supply (x : Exchange) : SupplyKept s (missTaken x s).1 := by
  fun_cases missTaken x s <;> simp +zetaDelta
@[simp] theorem mirror_supply (x : Exchange) (p : List Byte) : SupplyKept s (s.mirror x p) := by
  fun_cases State.mirror s x p <;> simp +zetaDelta
@[simp] theorem flagUnknown_supply (b : Bool) : SupplyKept s (s.flagUnknown b) := by
  fun_cases State.flagUnknown s b <;> simp
@[simp] theorem replyTaken_supply (x : Exchange) (p : List Byte) (b : Bool) : SupplyKept s (s.replyTaken x p b) := by
  simp [State.replyTaken]
@[simp] theorem firstFrames_supply (st : StationId) : SupplyKept s (s.firstFrames st) := by
  fun_cases State.firstFrames s st <;> simp +zetaDelta
@[simp] theorem joinReply_supply (st : StationId) (r l : Byte) : SupplyKept s (joinReply st r l s) := by
  fun_cases joinReply st r l s <;> simp +zetaDelta
@[simp] theorem joinTaken_supply (x : Exchange) (p : List Byte) : SupplyKept s (joinTaken x p s) := by
  fun_cases joinTaken x p s <;> simp

theorem takeReply_supply (x : Exchange) (p : List Byte) (l : List Item) (b : Bool) :
    SupplyMoves s (takeReply x p l b s) := by
  fun_cases takeReply x p l b s with
  | case1 => exact (joinTaken_supply s x p).moves
  | case2 =>
    exact (supply_eventKept s).takeItems (fun i u h => h.trans (itemOut_supply u x.station i).moves) l _
      (replyTaken_supply s x p b).moves

/-- R168 to R170: the end of an exchange makes the operations of its items and of what they hand on. -/
theorem exchangeEnds_supply (x : Exchange) (j : ReplyJudgement) : SupplyMoves s (Machine.exchangeEnds x j s) := by
  fun_cases Machine.exchangeEnds x j s with
  | case1 p l b s1 =>
    exact (supply_eventKept s).event ((takeReply_supply s x p l b).trans (endExchange_supply _).moves)
  | case2 => exact (supply_eventKept s).event (waitTaken_supply s x).moves
  | case3 => exact (supply_eventKept s).event (SupplyKept.moves (by simp))

/-! ### The requests -/

@[simp] theorem refuse_supply (k : ReqKind) (c : ResultCode) : SupplyKept s (refuse k c s).1 := ⟨rfl, rfl⟩
@[simp] theorem takenWrite_supply (b : Bool) (l : List Job) : SupplyKept s (takenWrite b s l).1 := ⟨rfl, rfl⟩
@[simp] theorem writeCoins_supply (n : Nat) (l : List RawValue) : SupplyKept s (writeCoins n l s).1 := by
  fun_cases writeCoins n l s <;> simp
@[simp] theorem writeBills_supply (n : Nat) (l : List RawValue) : SupplyKept s (writeBills n l s).1 := by
  fun_cases writeBills n l s <;> simp
@[simp] theorem writeTubes_supply (n : Nat) (l : List RawTube) : SupplyKept s (writeTubes n l s).1 := by
  fun_cases writeTubes n l s <;> simp +zetaDelta
@[simp] theorem writeSelections_supply (n : Nat) (l : List RawSelection) :
    SupplyKept s (writeSelections n l s).1 := by
  fun_cases writeSelections n l s <;> simp +zetaDelta
@[simp] theorem columnChanged_supply (c : ColumnId) (b : ColState) (k : ColCause) :
    SupplyKept s (s.columnChanged c b k) := by
  fun_cases State.columnChanged s c b k <;> simp [State.columnReport]
@[simp] theorem writtenReports_supply (m : SelMap) : SupplyKept s (s.writtenReports m) := by
  simp [State.writtenReports, foldl_supply]
@[simp] theorem writeColumns_supply (n : Nat) (l : List RawColumn) : SupplyKept s (writeColumns n l s).1 := by
  fun_cases writeColumns n l s <;> simp +zetaDelta
@[simp] theorem writeCalibration_supply (n : Nat) (l : List RawBreakpoint) :
    SupplyKept s (writeCalibration n l s).1 := by
  fun_cases writeCalibration n l s <;> simp
@[simp] theorem writeChannels_supply (n : Nat) (l : List Byte) : SupplyKept s (writeChannels n l s).1 := by
  fun_cases writeChannels n l s <;> simp
@[simp] theorem writeZones_supply (n : Nat) (l : List RawZone) : SupplyKept s (writeZones n l s).1 := by
  fun_cases writeZones n l s <;> simp +zetaDelta
@[simp] theorem minOffWritten_supply : SupplyKept s (minOffWritten s).1 := by
  fun_cases minOffWritten s <;> simp
/-- R124: a settings WRITE is refused, or its budget covers the grants. -/
theorem writeSettings_supply (n : Nat) (l : List RawSettings) : SupplyMoves s (writeSettings n l s).1 := by
  fun_cases writeSettings n l s with
  | case3 r t budget clamped _ hb _ s1 o =>
    have written : SupplyMoves s s1 := .single (.budget s.now (Nat.not_lt.mp hb))
    exact written.trans (SupplyKept.moves (by simp +zetaDelta))
  | _ => exact .refl s
@[simp] theorem writeRelays_supply (n : Nat) (l : List Byte) : SupplyKept s (writeRelays n l s).1 := by
  fun_cases writeRelays n l s <;> simp +zetaDelta
@[simp] theorem readTable_supply (t f c : Nat) : SupplyKept s (readTable t f c s).1 := by
  fun_cases readTable t f c s <;> simp
theorem modeChange_getD_supply (c : ModeCause) : SupplyKept s ((modeChange c s).getD s.only).1 := by
  cases h : modeChange c s with
  | none => exact ⟨rfl, rfl⟩
  | some o => exact modeChange_supply s h
@[simp] theorem modeRequest_supply (v : Byte) : SupplyKept s (modeRequest v s).1 := by
  fun_cases modeRequest v s with
  | case1 m _ => simp [setRequested, modeChange_getD_supply]
  | case2 => simp
@[simp] theorem doorMoved_supply (d : Door) : SupplyKept s (doorMoved d s).1 :=
  modeChange_getD_supply (s.setMode { s.mode with door := d }) .door
@[simp] theorem fillRequest_supply (b : Bool) : SupplyKept s (fillRequest b s).1 := by
  fun_cases fillRequest b s <;> simp +zetaDelta
@[simp] theorem selectRequest_supply (n : Nat) : SupplyKept s (selectRequest n s).1 := by
  fun_cases selectRequest n s <;> simp +zetaDelta
@[simp] theorem approveRequest_supply (n : Nat) (b : Bool) : SupplyKept s (approveRequest n b s).1 := by
  fun_cases approveRequest n b s <;> simp +zetaDelta
@[simp] theorem leverRequest_supply : SupplyKept s (leverRequest s).1 := by simp [leverRequest]
@[simp] theorem testRequest_supply (n : Nat) : SupplyKept s (testRequest n s).1 := by
  fun_cases testRequest n s <;> simp
@[simp] theorem tubeOutRequest_supply (n c : Nat) : SupplyKept s (tubeOutRequest n c s).1 := by
  fun_cases tubeOutRequest n c s <;> simp +zetaDelta [payManual]
@[simp] theorem releaseRequest_supply (n : Nat) : SupplyKept s (releaseRequest n s).1 := by
  fun_cases releaseRequest n s <;> simp +zetaDelta
@[simp] theorem setDue_supply : SupplyKept s s.setDue := ⟨rfl, rfl⟩
@[simp] theorem defrostRequest_supply : SupplyKept s (defrostRequest s).1 := by
  fun_cases defrostRequest s <;> simp +zetaDelta
@[simp] theorem statusRequest_supply (n : Nat) : SupplyKept s (statusRequest n s).1 := by
  fun_cases statusRequest n s <;> simp
@[simp] theorem restartRequest_supply : SupplyKept s (restartRequest s).1 := by
  fun_cases restartRequest s <;> simp
@[simp] theorem relayRequest_supply (st : Fin 8) (k : Byte) (p : List Byte) :
    SupplyKept s (relayRequest st k p s).1 := by
  have target : ∀ i, SupplyKept s (relayTo i k p s).1 := fun i => by
    fun_cases relayTo i k p s <;> simp +zetaDelta
  fun_cases relayRequest st k p s with
  | case1 => exact target _
  | case2 => exact ⟨rfl, rfl⟩

/-! ### The spiral drive's events, and the other commands' own effects -/

@[simp] theorem columnAfter_supply (c : ColumnId) (r : Column) (k : ColCause) :
    SupplyKept s (s.columnAfter c r k) := by
  simp [State.columnAfter, State.driveColumn]
@[simp] theorem handResult_supply (b : Bool) : SupplyKept s (handResult b s).1 := by
  fun_cases handResult b s <;> simp +zetaDelta
@[simp] theorem endAttempt_supply (a : Attempt) (r : DriveResult) (b : Bool) :
    SupplyKept s (endAttempt a r b s).1 := by simp [endAttempt]
@[simp] theorem stopEarly_supply (a : Attempt) (r : DriveResult) : SupplyKept s (stopEarly a r s).1 := by
  fun_cases stopEarly a r s <;> simp
@[simp] theorem turnDone_supply (a : Attempt) : SupplyKept s (turnDone a s).1 := by
  fun_cases turnDone a s <;> simp
@[simp] theorem windowEnds_supply (a : Attempt) : SupplyKept s (windowEnds a s).1 := by
  fun_cases windowEnds a s <;> simp
@[simp] theorem strayDrop_supply : SupplyKept s s.strayDrop := by simp [State.strayDrop]
@[simp] theorem dropCounted_supply : SupplyKept s (dropCounted s).1 := by
  fun_cases dropCounted s <;> simp
@[simp] theorem beamBreaks_supply : SupplyKept s (beamBreaks s).1 := by
  fun_cases beamBreaks s <;> simp
@[simp] theorem beamClears_supply : SupplyKept s s.beamClears := by
  fun_cases State.beamClears s <;> simp
@[simp] theorem senseCurrent_supply (a : Attempt) (n : Nat) : SupplyKept s (s.senseCurrent a n) := by
  fun_cases State.senseCurrent s a n <;> simp
@[simp] theorem setHome_supply (c : ColumnId) (b : Bool) : SupplyKept s (s.setHome c b) := ⟨rfl, rfl⟩
@[simp] theorem homeOpens_supply (a : Attempt) (n : Nat) : SupplyKept s (homeOpens a n s).1 := by
  fun_cases homeOpens a n s <;> simp +zetaDelta
@[simp] theorem homeCloses_supply (a : Attempt) : SupplyKept s (homeCloses a s).1 := by
  fun_cases homeCloses a s <;> simp +zetaDelta
@[simp] theorem currentChanges_supply (a : Attempt) (n : Nat) : SupplyKept s (currentChanges a n s).1 := by
  fun_cases currentChanges a n s <;> simp +zetaDelta
@[simp] theorem openChecked_supply (a : Attempt) (n : Nat) : SupplyKept s (openChecked a n s).1 := by
  fun_cases openChecked a n s <;> simp
@[simp] theorem leaveHomeEnds_supply (a : Attempt) (n : Nat) : SupplyKept s (leaveHomeEnds a n s).1 :=
  endAttempt_supply _ _ _ _
@[simp] theorem takeSample_supply (c : ChannelId) (n : Nat) : SupplyKept s (takeSample c n s).1 := by
  fun_cases takeSample c n s <;> simp +zetaDelta
@[simp] theorem payLimitEnds_supply (c : PayCmd) : SupplyKept s (payLimitEnds c s).1 := by
  simp [payLimitEnds]
end

end Sys2Proof.Laws
end

section
/-! SUPPORT. What every command makes of the load record and of the clock, and the budget that no step passes (R119). -/

namespace Sys2Proof.Laws
open Sys2Proof Sys2Proof.Machine

/-! ### Every command -/

section
variable {s : State}

theorem supply_finish {before : State} {o : Out} (h : SupplyMoves s o.1) :
    NextHas (SupplyMoves s) (finish before o) :=
  (supply_eventKept s).finish h

/-- A command that is one event, whose own effect leaves the record and does not put the clock back. -/
@[simp] theorem supply_quiet {before : State} {o : Out} (hl : o.1.load = s.load) (hn : s.now ≤ o.1.now) :
    NextHas (SupplyMoves s) (finish before o) :=
  supply_finish (.later hl hn)

@[simp] theorem supply_same : SupplyMoves s s := .refl s

theorem takeRequest_supply {h : ReqHeader} {k : ReqKind} {body : State → Out}
    (hb : ∀ u, SupplyMoves u (body u).1) : NextHas (SupplyMoves s) (takeRequest h k body s) :=
  (supply_eventKept s).takeRequest (fun u hu => hu.trans (hb u)) (.refl s)

theorem execRelay_supply (h : ReqHeader) (k : Byte) (p : List Byte) :
    NextHas (SupplyMoves s) (execRelay h k p s) := by
  have hn := (supply_eventKept s).noteHeader h (.refl s)
  fun_cases execRelay h k p s with
  | case1 => exact nextHas_next.mpr ((supply_eventKept s).port _ _ hn)
  | case2 => exact supply_finish (hn.trans (relayRequest_supply _ _ _ _).moves)

theorem takeCommand_supply (c : Instr) : NextHas (SupplyMoves s) (takeCommand c s) := by
  cases c with
  | writeSettings h i l => exact takeRequest_supply fun u => writeSettings_supply u _ l
  | relay h k p => exact execRelay_supply h k p
  | read | writeCoinTable | writeBillTable | writeTubeTable | writeSelectionTable | writeColumnTable
  | writeCalibrationTable | writeChannelTable | writeZoneTable | writeRelayTable | mode | select | approve
  | lever | testDrive | tubeOut | fill | release | defrost | status | restart =>
    exact takeRequest_supply fun u => SupplyKept.moves (by simp)
  | _ => exact nextHas_next.mpr (.refl s)

theorem takeJudged_supply (j : FrameJudgement) : NextHas (SupplyMoves s) (takeJudged j s) := by
  fun_cases takeJudged j s with
  | case1 => exact nextHas_next.mpr (.refl s)
  | case2 => exact nextHas_next.mpr (SupplyKept.moves (by unfold State.discardFrame; split <;> simp))
  | case3 c => exact takeCommand_supply c
  | case4 h => exact takeRequest_supply fun u => SupplyKept.moves (by simp)

/-- The end of an exchange and of the step, from a state of the same record whose clock is not behind. -/
theorem exchange_supply (x : Exchange) (j : ReplyJudgement) {u : State} (hl : u.load = s.load) (hn : s.now ≤ u.now) :
    SupplyMoves s (Machine.exchangeEnds x j u).stepEnd :=
  (supply_eventKept s).links _ _ (.stepEnd _) ((SupplyMoves.later hl hn).trans (exchangeEnds_supply u x j))

/-- Every command makes operations of the record and the clock, and changes them in no other way. -/
theorem exec_supply (c : Instr) (s : State) : NextHas (SupplyMoves s) (exec c s) := by
  cases c with
  | powerOn => exact nextHas_next.mpr (.single (.power _))
  | holdAsserted => exact nextHas_next.mpr (.refl s)
  | serviceFrameDiscarded l => exact takeJudged_supply _
  | serviceByteGap l => exact takeJudged_supply _
  | writeSettings h i l => exact takeCommand_supply (.writeSettings h i l)
  | relay h k p => exact execRelay_supply h k p
  | read | writeCoinTable | writeBillTable | writeTubeTable | writeSelectionTable | writeColumnTable
  | writeCalibrationTable | writeChannelTable | writeZoneTable | writeRelayTable | mode | select | approve
  | lever | testDrive | tubeOut | fill | release | defrost | status | restart =>
    exact takeRequest_supply fun u => SupplyKept.moves (by simp)
  | doorSwitch | holdReleased | beamBroken | beamUnbroken | sample | temps => exact supply_quiet (by simp) (by simp)
  | frameTransmitted =>
    simp only [exec, execFrameTransmitted]
    split
    · exact nextHas_next.mpr (.refl s)
    · exact supply_quiet rfl le_rfl
  | replyReceived | replyWindowExpiry | replyGap =>
    simp only [exec, execReplyReceived, execReplyWindowExpiry, execReplyGap]
    split <;> simp [exchange_supply]
  | lineBreakEnd | probeDue | retryAt | stackingLimitExpiry | payLimitExpiry | hostApprovalLimitExpiry
  | readerApprovalLimitExpiry | loadLimitExpiry =>
    simp only [exec, execLineBreakEnd, execProbeDue, execRetryAt, execStackingLimitExpiry, execPayLimitExpiry,
      execHostApprovalLimitExpiry, execReaderApprovalLimitExpiry, execLoadLimitExpiry]
    split <;> simp
  | homeSwitchOpens | homeSwitchCloses | motorCurrentChange | clearTimerExpiry | blockTimerExpiry
  | testLoadLimitExpiry | promotionTimerExpiry =>
    simp only [exec, execHomeSwitchOpens, execHomeSwitchCloses, execMotorCurrentChange, execClearTimerExpiry,
      execBlockTimerExpiry, execTestLoadLimitExpiry, execPromotionTimerExpiry]
    split <;> simp
  | openCheckExpiry | leaveHomeLimitExpiry | turnLimitExpiry | jamRunExpiry | dropWindowExpiry =>
    simp only [exec, execOpenCheckExpiry, execLeaveHomeLimitExpiry, execTurnLimitExpiry, execJamRunExpiry,
      execDropWindowExpiry]
    split
    · split <;> simp
    · simp
  | dutyPhaseExpiry | minOffPassed | startWindowExpiry | minRunExpiry | defrostIntervalReached | heaterTimerExpiry
  | dripTimerExpiry | excursionTimerExpiry =>
    simp only [exec, execDutyPhaseExpiry, execMinOffPassed, execStartWindowExpiry, execMinRunExpiry,
      execDefrostIntervalReached, execHeaterTimerExpiry, execDripTimerExpiry, execExcursionTimerExpiry]
    split <;> simp

/-- A step is a millisecond, or what the command at the front makes of the record and the clock. -/
theorem step_supply {t : State} (h : step s = .next t) : SupplyMoves s t := by
  unfold step at h
  split at h
  · injection h with h
    subst h
    exact .later (State.advanceTo_load s _) (by simp [State.tick])
  · rename_i c rest _
    exact exec_supply c (s.setPending rest) t h

end

/-! ### The budget (R119, R124) -/

/-- R119, of a record. -/
def LoadWithin (l : Load) : Prop := l.granted ≤ l.budget

theorem withinBudget_iff (s : State) : WithinBudget s ↔ LoadWithin (supply s).1 := Iff.rfl

/-- R119: what a pass grants fits in the free units. -/
theorem pass_within {l : Load} (h : LoadWithin l) : LoadWithin l.pass := by
  have fit : (l.passMakes.map Grant.units).sum ≤ l.budget - l.granted := passGrants_fit _ _
  simp only [LoadWithin, Load.granted, Load.pass, List.map_append, List.sum_append] at *
  omega

/-- R121: giving back lowers what is granted. -/
theorem released_granted_le (l : Load) (who : Requester) : (l.released who).granted ≤ l.granted :=
  ((l.grants.filter_sublist).map Grant.units).sum_le_sum fun _ _ => Nat.zero_le _

/-- R121: so does the compressor's reduction. -/
theorem reduced_granted_le (l : Load) : l.reduced.granted ≤ l.granted := by
  unfold Load.granted Load.reduced
  rw [List.map_map]
  refine List.sum_le_sum fun g _ => ?_
  simp only [Function.comp_apply]
  split
  · exact Nat.min_le_left _ _
  · exact le_rfl

/-- R119: every operation keeps the units granted within the budget. -/
theorem SupplyOp.within {a b : Load × Nat} (h : SupplyOp a b) (ha : LoadWithin a.1) : LoadWithin b.1 := by
  cases h with
  | power => exact Nat.zero_le _
  | clock | asked | withdrawn | promoted | recounted => exact ha
  | budget n hb => exact hb
  | released l who => exact (released_granted_le l who).trans ha
  | reduced l => exact (reduced_granted_le l).trans ha
  | pass l => exact pass_within ha

/-- Settles O10: a step makes operations of the load record, each of which keeps the grants within the budget. -/
theorem grantsWithinBudget : Obligations.GrantsWithinBudget := by
  unfold Obligations.GrantsWithinBudget
  intro s t
  rw [withinBudget_iff, withinBudget_iff]
  exact fun hs ht => (step_supply ht).keeps (Q := fun p => LoadWithin p.1) (fun _ _ => SupplyOp.within) hs

end Sys2Proof.Laws
end

section
/-! SUPPORT. The order of the waiting requests (R117), their rank (R118) and what a pass takes of it (R119). -/

namespace Sys2Proof.Laws
open Sys2Proof Sys2Proof.Machine

/-! ### The request list in the order of its times (R117) -/

/-- R117, of a list of requests at a time: each no earlier than those before it, and none in the future. -/
def OrderedBy (l : List LoadRequest) (n : Nat) : Prop :=
  l.Pairwise (fun a b => a.time ≤ b.time) ∧ ∀ r ∈ l, r.time ≤ n

theorem requestsInOrder_iff (s : State) : RequestsInOrder s ↔ OrderedBy (supply s).1.requests (supply s).2 := Iff.rfl

section
variable {l : List LoadRequest} {n : Nat}

theorem OrderedBy.later {m : Nat} (h : OrderedBy l n) (hn : n ≤ m) : OrderedBy l m := by
  obtain ⟨hp, ht⟩ := h
  exact ⟨hp, fun r hr => (ht r hr).trans hn⟩

theorem OrderedBy.filter (p : LoadRequest → Bool) (h : OrderedBy l n) : OrderedBy (l.filter p) n := by
  obtain ⟨hp, ht⟩ := h
  exact ⟨hp.filter p, fun r hr => ht r (List.mem_of_mem_filter hr)⟩

/-- What is done to each request and leaves its time. -/
theorem OrderedBy.map {f : LoadRequest → LoadRequest} (hf : ∀ r, (f r).time = r.time) (h : OrderedBy l n) :
    OrderedBy (l.map f) n := by
  obtain ⟨hp, ht⟩ := h
  refine ⟨List.pairwise_map.mpr (hp.imp fun hab => by rwa [hf, hf]), fun r hr => ?_⟩
  obtain ⟨q, hq, rfl⟩ := List.mem_map.mp hr
  rw [hf]
  exact ht q hq

/-- R117: a request made now stands behind every other. -/
theorem OrderedBy.append {r : LoadRequest} (hr : r.time = n) (h : OrderedBy l n) : OrderedBy (l ++ [r]) n := by
  obtain ⟨hp, ht⟩ := h
  refine ⟨List.pairwise_append.mpr ⟨hp, List.pairwise_singleton _ _, fun a ha b hb => ?_⟩, fun q hq => ?_⟩
  · rw [List.mem_singleton.mp hb, hr]
    exact ht a ha
  · rcases List.mem_append.mp hq with hq | hq
    · exact ht q hq
    · rw [List.mem_singleton.mp hq, hr]
end

/-- R117: every operation keeps the requests in the order of their times. -/
theorem SupplyOp.ordered {a b : Load × Nat} (h : SupplyOp a b) (ha : OrderedBy a.1.requests a.2) :
    OrderedBy b.1.requests b.2 := by
  cases h with
  | power => exact ⟨.nil, nofun⟩
  | clock l hn => exact ha.later hn
  | asked => exact ha.append rfl
  | withdrawn | pass => exact ha.filter _
  | promoted => exact ha.map fun r => by split <;> rfl
  | recounted => exact ha.map fun r => rfl
  | budget | released | reduced => exact ha

theorem step_requestsInOrder {s t : State} (hs : RequestsInOrder s) (h : step s = .next t) : RequestsInOrder t := by
  rw [requestsInOrder_iff] at *
  exact (step_supply h).keeps (Q := fun p => OrderedBy p.1.requests p.2) (fun _ _ => SupplyOp.ordered) hs

/-! ### The rank (R118) -/

/-- The requests of one group, in the order of the list. -/
def ofGroup (g : Nat) (l : List LoadRequest) : List LoadRequest := l.filter fun r => decide (r.group = g)

/-- R118: the ranked order is the three groups, each in the order of the request list. -/
theorem ranked_eq (l : Load) : l.ranked = ofGroup 0 l.requests ++ ofGroup 1 l.requests ++ ofGroup 2 l.requests := by
  have first : ∀ r : LoadRequest, (r.requester.cooling && r.promoted) = decide (r.group = 0) := fun r => by
    obtain ⟨who, _, _, _, promoted⟩ := r
    cases who <;> cases promoted <;> rfl
  have sale : ∀ r : LoadRequest, (!r.requester.cooling) = decide (r.group = 1) := fun r => by
    obtain ⟨who, _, _, _, promoted⟩ := r
    cases who <;> cases promoted <;> rfl
  have last : ∀ r : LoadRequest, (r.requester.cooling && !r.promoted) = decide (r.group = 2) := fun r => by
    obtain ⟨who, _, _, _, promoted⟩ := r
    cases who <;> cases promoted <;> rfl
  simp only [Load.ranked, first, sale, last, ofGroup]

theorem group_le_two (r : LoadRequest) : r.group ≤ 2 := by
  unfold LoadRequest.group
  split
  · split <;> decide
  · decide

theorem group_of_mem {g : Nat} {l : List LoadRequest} {r : LoadRequest} (h : r ∈ ofGroup g l) : r.group = g :=
  of_decide_eq_true (List.mem_filter.mp h).2

/-- The requests of one group among those of another. -/
theorem ofGroup_ofGroup (g k : Nat) (l : List LoadRequest) :
    ofGroup g (ofGroup k l) = if g = k then ofGroup k l else [] := by
  split
  · rename_i hg
    exact List.filter_eq_self.mpr fun r hr => decide_eq_true (hg ▸ group_of_mem hr)
  · rename_i hg
    exact List.filter_eq_nil_iff.mpr fun r hr hc => hg ((of_decide_eq_true hc).symm.trans (group_of_mem hr))

/-- R118: the ranked order keeps each group in the order of the request list. -/
theorem ofGroup_ranked (g : Nat) (l : Load) : ofGroup g l.ranked = ofGroup g l.requests := by
  have parts : ofGroup g l.ranked = ofGroup g (ofGroup 0 l.requests) ++ ofGroup g (ofGroup 1 l.requests) ++
      ofGroup g (ofGroup 2 l.requests) := by
    rw [ranked_eq]
    simp only [ofGroup, List.filter_append]
  rw [parts, ofGroup_ofGroup, ofGroup_ofGroup, ofGroup_ofGroup]
  by_cases hg : g ≤ 2
  · interval_cases g <;> simp
  · have empty : ofGroup g l.requests = [] := List.filter_eq_nil_iff.mpr fun r _ hc => by
      have := group_le_two r
      have := of_decide_eq_true hc
      omega
    rw [empty, if_neg (by omega), if_neg (by omega), if_neg (by omega)]
    rfl

/-- R118: the ranked order holds every waiting request, since each stands in its own group. -/
theorem ranked_perm (l : Load) : l.ranked.Perm l.requests := by
  refine List.perm_iff_count.mpr fun r => ?_
  have own : ∀ rs : List LoadRequest, (ofGroup r.group rs).count r = rs.count r := fun rs =>
    List.count_filter (decide_eq_true rfl)
  rw [← own, ofGroup_ranked, own]

/-- What holds within each group, and from a group to a later one, holds along the ranked order. -/
theorem ranked_pairwise {R : LoadRequest → LoadRequest → Prop} {l : Load}
    (within : ∀ g, (ofGroup g l.requests).Pairwise R) (across : ∀ a b : LoadRequest, a.group < b.group → R a b) :
    l.ranked.Pairwise R := by
  have lt : ∀ {g k : Nat}, g < k → ∀ a ∈ ofGroup g l.requests, ∀ b ∈ ofGroup k l.requests, R a b :=
    fun hgk a ha b hb => across a b (by rw [group_of_mem ha, group_of_mem hb]; exact hgk)
  rw [ranked_eq, List.pairwise_append, List.pairwise_append]
  refine ⟨⟨within 0, within 1, lt Nat.zero_lt_one⟩, within 2, fun a ha => ?_⟩
  rcases List.mem_append.mp ha with ha | ha
  · exact lt Nat.zero_lt_two a ha
  · exact lt Nat.one_lt_two a ha

theorem ranked_groups (l : Load) : l.ranked.Pairwise fun a b => a.group ≤ b.group := by
  refine ranked_pairwise (fun g => ?_) fun a b => le_of_lt
  exact List.pairwise_of_forall_mem_list fun a ha b hb => by rw [group_of_mem ha, group_of_mem hb]

/-- R118: within a group the oldest request stands first. -/
theorem ranked_oldestFirst {l : Load} (h : l.requests.Pairwise fun a b => a.time ≤ b.time) :
    l.ranked.Pairwise fun a b => a.group = b.group → a.time ≤ b.time := by
  refine ranked_pairwise (fun g => ?_) fun _ _ hlt he => absurd he (ne_of_lt hlt)
  refine List.Pairwise.imp ?_ (h.filter _)
  exact fun hab _ => hab

/-! ### What a pass grants (R119) -/

/-- The grant of a request: its counted units. -/
def grantOf (r : LoadRequest) : Grant := { holder := r.requester, units := r.counted }

/-- R119: a pass grants a front of the list, which fits, and the request behind it does not. -/
theorem passGrants_front : ∀ (rs : List LoadRequest) (free : Nat), ∃ granted rest, rs = granted ++ rest ∧
    passGrants free rs = granted.map grantOf ∧ (granted.map LoadRequest.counted).sum ≤ free ∧
      ∀ r, rest.head? = some r → free < (granted.map LoadRequest.counted).sum + r.counted
  | [], _ => ⟨[], [], rfl, rfl, Nat.zero_le _, nofun⟩
  | r :: rs, free => by
    by_cases hr : r.counted ≤ free
    · obtain ⟨granted, rest, hrs, hmakes, hfit, hnext⟩ := passGrants_front rs (free - r.counted)
      refine ⟨r :: granted, rest, by rw [hrs]; rfl, ?_, ?_, fun q hq => ?_⟩
      · rw [passGrants, if_pos hr, hmakes]
        rfl
      · simp only [List.map_cons, List.sum_cons]
        omega
      · have := hnext q hq
        simp only [List.map_cons, List.sum_cons]
        omega
    · refine ⟨[], r :: rs, rfl, if_neg hr, Nat.zero_le _, fun q hq => ?_⟩
      obtain rfl : r = q := Option.some.inj hq
      simpa using hr

/-- R119: a request still waits after a pass where it waited before and no granted request is of its requester. -/
theorem mem_pass_requests {l : Load} {granted : List LoadRequest} (h : l.passMakes = granted.map grantOf)
    (r : LoadRequest) : r ∈ l.pass.requests ↔ r ∈ l.requests ∧ ∀ g ∈ granted, g.requester ≠ r.requester := by
  simp [Load.pass, h, grantOf]

/-- Settles O16: each operation on the record keeps the order of the requests; the rank is the three groups one after
another, of which a pass grants a front. -/
theorem passGrantsFrontOfRank : Obligations.PassGrantsFrontOfRank := by
  unfold Obligations.PassGrantsFrontOfRank
  refine ⟨fun s t => step_requestsInOrder, fun l => ?_⟩
  obtain ⟨granted, rest, hrank, hmakes, hfit, hnext⟩ := passGrants_front l.ranked (l.budget - l.granted)
  exact ⟨ranked_perm l, fun g => ofGroup_ranked g l, ranked_groups l, ranked_oldestFirst, granted, rest, hrank, hmakes,
    hfit, hnext, rfl, mem_pass_requests hmakes⟩

end Sys2Proof.Laws
end

section
/-! SUPPORT. The cooling loads at the load arbiter: a request alone that fits and its grant handed to the compressor or
the heater (R119, R139, R142); and a promotion (R123). -/

namespace Sys2Proof.Laws
open Sys2Proof Sys2Proof.Machine

/-- What a command answers whose own effect runs to `w`. -/
theorem finish_runs {before w : State} {o : Out} {k : Nat} (h : Runs k o (w, [])) (hk : k ≤ 8192) :
    ∃ t, finish before o = .next t ∧ LinksOnly w t := by
  obtain ⟨t, ht, l⟩ := finish_links before o
  exact ⟨t, ht, h.runOut hk ▸ l⟩

/-! ### A pass (R119) -/

/-- R119: where the first ranked request does not fit, a pass grants nothing and leaves the record. -/
theorem pass_stuck {l : Load} (h : ∀ q, l.ranked.head? = some q → l.free < q.counted) :
    l.passMakes = [] ∧ l.pass = l := by
  have nothing : l.passMakes = [] := by
    unfold Load.passMakes
    cases hr : l.ranked with
    | nil => rfl
    | cons q qs =>
      rw [hr] at h
      exact if_neg (Nat.not_le.mpr (h q rfl))
  exact ⟨nothing, by rw [Load.pass, nothing]; simp⟩

/-- R119: a request alone that fits is granted its counted units. -/
theorem pass_lone {l : Load} {r : LoadRequest} (hq : l.requests = [r]) (hf : r.counted ≤ l.free) :
    l.passMakes = [grantOf r] ∧ l.pass = { l with grants := l.grants ++ [grantOf r], requests := [] } := by
  have ranked : l.ranked = [r] := List.perm_singleton.mp (hq ▸ ranked_perm l)
  have makes : l.passMakes = [grantOf r] := by
    rw [Load.passMakes, ranked, passGrants]
    exact if_pos hf
  exact ⟨makes, by rw [Load.pass, makes, hq]; simp [grantOf]⟩

/-- The record after the one waiting request was granted. -/
def loadGiven (l : Load) (who : Requester) (units : Nat) : Load :=
  { l with grants := l.grants ++ [{ holder := who, units := units }], requests := [] }

section
variable {s : State} {js : List Job}

/-- What reaches the arbiter, where it makes a pass: the record after it, and its grants to hand on. -/
theorem makePass_runs {op : LoadOp} {l : Load} (h : loadStep op s = (s.setLoad l).makePass)
    (hd : deferTo op js = none) :
    Runs 1 (s, .load op :: js) (s.setLoad l.pass, handOn l.passMakes ++ js) := fun n => by
  rw [runJobs_cons, runJob_load _ _ _ hd, h]
  rfl

/-- R117, R119: a request made while none waits, granted its counted units. -/
theorem ask_given_runs {who : Requester} (hq : s.load.requests = []) (hg : ∀ g ∈ s.load.grants, g.holder ≠ who)
    (hf : min who.units s.load.budget ≤ s.load.free) (hd : deferTo (.ask who) js = none) :
    Runs 1 (s, .load (.ask who) :: js)
      (s.setLoad (loadGiven s.load who (min who.units s.load.budget)),
        .give who (min who.units s.load.budget) :: .handDone [] :: js) := by
  have unlisted : s.load.listed who = false := by
    simp only [Load.listed, hq, List.any_nil, Bool.or_false]
    simpa using hg
  have alone : (s.load.asked who s.now).requests =
      [{ requester := who, asked := who.units, counted := min who.units s.load.budget, time := s.now
         promoted := false }] := by
    rw [Load.asked, hq]
    rfl
  have asks : loadStep (.ask who) s = (s.setLoad (s.load.asked who s.now)).makePass := by
    simp only [loadStep, unlisted]
    rfl
  obtain ⟨makes, pass⟩ := pass_lone alone hf
  have runs := makePass_runs asks hd
  rw [makes, pass] at runs
  exact runs

/-- R123: the record with the mark of one request set, where the requester has one request. -/
theorem promoted_eq {l : Load} {r : LoadRequest} {before after : List LoadRequest}
    (hl : l.requests = before ++ r :: after) (hb : ∀ q ∈ before, q.requester ≠ r.requester)
    (ha : ∀ q ∈ after, q.requester ≠ r.requester) :
    l.promoted r.requester = { l with requests := before ++ { r with promoted := true } :: after } := by
  have others : ∀ qs : List LoadRequest, (∀ q ∈ qs, q.requester ≠ r.requester) →
      qs.map (fun q => if q.requester = r.requester then { q with promoted := true } else q) = qs :=
    fun qs h => (List.map_congr_left fun q hq => if_neg (h q hq)).trans (List.map_id qs)
  rw [Load.promoted, hl, List.map_append, List.map_cons, others before hb, others after ha, if_pos rfl]

/-! ### The grant handed (R139, R142) -/

/-- R139: the record of a compressor that has just started. -/
def startedPlant (p : Plant) (now : Nat) (t : Settings) : Plant :=
  { p with
    phase := .starting, grantedAt := now, startWindow := some (now + 3000), minRun := some (now + 1000 * t.minRun) }

/-- R142: the record at the start of heating. -/
def heatedPlant (p : Plant) (now : Nat) (t : Settings) : Plant :=
  { p with
    phase := .heating, due := false, runMs := 0, heatedAt := now, heaterTimer := some (now + 60000 * t.heaterMax) }

/-- R139: the compressor's grant starts it. -/
theorem compressorGiven_runs {n : Nat} (hp : s.cool.plant.phase = .startWait) :
    Runs 2 (s, .give .compressor n :: .handDone [] :: js)
      (s.setPlant (startedPlant s.cool.plant s.now s.settings), js) := by
  have given : runOne (.give .compressor n) s = (s.setPlant (startedPlant s.cool.plant s.now s.settings), []) :=
    if_pos hp
  exact (Runs.quiet given).trans (handDone_runs _ _)

/-- R142: the heater's grant starts heating, which goes on while the evaporator is not yet warm. -/
theorem heaterGiven_runs {n : Nat} (hp : s.cool.plant.phase = .heatWait) (ht : s.termReached = false) :
    Runs 3 (s, .give .heater n :: .handDone [] :: js)
      (s.setPlant (heatedPlant s.cool.plant s.now s.settings), js) := by
  let heats := s.setPlant (heatedPlant s.cool.plant s.now s.settings)
  have given : runOne (.give .heater n) s = (heats, [.heatTest]) := if_pos hp
  have cold : heats.termReached = false := ht
  have goesOn : runOne .heatTest heats = (heats, []) := if_neg (by simp [cold])
  exact ((Runs.step given).trans (Runs.quiet goesOn)).trans (handDone_runs _ _)

/-! ### The promotion timer (R123) -/

/-- R123: the expiry of the timer of a requester's one request is a promotion, at its moment. -/
theorem exec_promotion {load : CoolingLoad} {r : LoadRequest} {before after : List LoadRequest}
    (hr : r.requester = coolingRequester load) (hp : r.promoted = false)
    (hl : s.load.requests = before ++ r :: after) (hb : ∀ q ∈ before, q.requester ≠ r.requester) :
    exec (.promotionTimerExpiry load) s =
      finish s (s.advanceTo (r.time + 45000), [.load (.promote (coolingRequester load))]) := by
  have found : promotionAt s r.requester = some (r.time + 45000) := by
    have skipped : before.find? (fun q => decide (q.requester = r.requester) && !q.promoted) = none :=
      List.find?_eq_none.mpr fun q hq => by simp [hb q hq]
    rw [promotionAt, hl, List.find?_append, skipped]
    simp [hp, Config.promotion]
  show execPromotionTimerExpiry load s = _
  rw [execPromotionTimerExpiry, ← hr, found, hr]

/-- R123: a promotion marks the request; where the first ranked request does not fit nothing follows. -/
theorem promote_stuck_runs {who : Requester}
    (h : ∀ q, (s.load.promoted who).ranked.head? = some q → s.load.free < q.counted) :
    Runs 1 (s, [.load (.promote who)]) (s.setLoad (s.load.promoted who), []) := by
  obtain ⟨makes, pass⟩ := pass_stuck (l := s.load.promoted who) h
  have runs := makePass_runs (s := s) (op := .promote who) (js := []) rfl rfl
  rw [makes, pass] at runs
  exact runs

/-- R123: a promoted request alone that fits is granted, and the grant handed. -/
theorem promote_lone_runs {r : LoadRequest} {who : Requester} (hr : r.requester = who) (hq : s.load.requests = [r])
    (hf : r.counted ≤ s.load.free) :
    Runs 1 (s, [.load (.promote who)])
      (s.setLoad (loadGiven s.load who r.counted), [.give who r.counted, .handDone []]) := by
  subst hr
  have alone : (s.load.promoted r.requester).requests = [{ r with promoted := true }] := by
    rw [promoted_eq (before := []) (after := []) hq nofun nofun]
    rfl
  obtain ⟨makes, pass⟩ := pass_lone alone hf
  have runs := makePass_runs (s := s) (op := .promote r.requester) (js := []) rfl rfl
  rw [makes, pass] at runs
  exact runs

/-! ### While the compressor is off the clock alone goes on -/

/-- R137: the run time stands while the compressor is off. -/
theorem advanceTo_cool_off (t : Nat) (h : s.cool.plant.phase.compressorOn = false) :
    (s.advanceTo t).cool = s.cool := by
  rw [State.advanceTo_cool, State.advanceTo_runMs, h]
  simp

theorem advanceTo_termReached (t : Nat) : (s.advanceTo t).termReached = s.termReached := by
  simp [State.termReached]

/-- A promoted request alone that fits, by what the handing of its grant runs to. -/
theorem lone_promotion {load : CoolingLoad} {r : LoadRequest} {w : State} {k : Nat}
    (hr : r.requester = coolingRequester load) (hp : r.promoted = false) (hl : s.load.requests = [r])
    (hf : r.counted ≤ s.load.free)
    (handed : Runs k ((s.advanceTo (r.time + 45000)).setLoad (loadGiven s.load (coolingRequester load) r.counted),
      [.give (coolingRequester load) r.counted, .handDone []]) (w, [])) (hk : 1 + k ≤ 8192) :
    ∃ t, exec (.promotionTimerExpiry load) s = .next t ∧ LinksOnly w t := by
  rw [exec_promotion (before := []) (after := []) hr hp hl nofun]
  rw [← s.advanceTo_load (r.time + 45000)] at hl hf handed
  exact finish_runs ((promote_lone_runs hr hl hf).trans handed) hk

end

/-- Settles O56: the promotion's own effect on the arbiter's record, and for a request alone that fits the grant handed
to the cooling load that waits for it. -/
theorem promotionMakesPass : Obligations.PromotionMakesPass := by
  unfold Obligations.PromotionMakesPass
  intro s load r hr hp
  dsimp only
  refine ⟨fun before after hl hb ha hstuck => ?_, fun hl hf => ⟨fun hload hphase => ?_, fun hload hphase hterm => ?_⟩⟩
  · have marked := promoted_eq hl hb ha
    rw [exec_promotion hr hp hl hb, ← marked, hr]
    rw [← marked, hr] at hstuck
    rw [← s.advanceTo_load (r.time + 45000)] at hstuck ⊢
    exact finish_runs (promote_stuck_runs hstuck) (by decide)
  · subst hload
    have off := advanceTo_cool_off (s := s) (r.time + 45000) (by rw [hphase]; rfl)
    rw [hr, ← off, ← s.advanceTo_settings (r.time + 45000)]
    rw [← off] at hphase
    exact lone_promotion hr hp hl hf (compressorGiven_runs hphase) (by decide)
  · subst hload
    have off := advanceTo_cool_off (s := s) (r.time + 45000) (by rw [hphase]; rfl)
    rw [hr, ← off, ← s.advanceTo_settings (r.time + 45000)]
    rw [← off] at hphase
    rw [← advanceTo_termReached (r.time + 45000)] at hterm
    exact lone_promotion hr hp hl hf (heaterGiven_runs hphase hterm) (by decide)

end Sys2Proof.Laws
end

section
/-! SUPPORT. The compressor and defrost record on its timers: min off, the start window, min run and the defrost
interval (R138 to R141). -/

namespace Sys2Proof.Laws
open Sys2Proof Sys2Proof.Machine

/-- R138: some CHILL zone is in DEMAND. -/
theorem anyDemand_iff (c : Cooling) :
    c.anyDemand = true ↔ ∃ z : ZoneId, c.zones[z].mode = .chill ∧ c.zones[z].demand = .demand := by
  have every : ∀ z : ZoneId, z ∈ allZones := by decide
  simp [Cooling.anyDemand, every]

section
variable {s : State}

/-! ### What the record does in its states (R138, R140, R141) -/

theorem coolAct_ready_rests (hp : s.cool.plant.phase = .ready) (hd : s.cool.plant.due = false)
    (hz : s.cool.anyDemand = false) : coolAct s = (s, []) := by
  simp [coolAct, hp, hd, hz, State.only]

theorem coolAct_ready_starts (hp : s.cool.plant.phase = .ready) (hd : s.cool.plant.due = false)
    (hz : s.cool.anyDemand = true) :
    coolAct s = (s.setPlant { s.cool.plant with phase := .startWait }, [.load (.ask .compressor)]) := by
  simp [coolAct, hp, hd, hz]

theorem coolAct_starting (hp : s.cool.plant.phase = .starting) : coolAct s = (s, []) := by
  simp [coolAct, hp, State.only]

theorem coolAct_running_stays (hp : s.cool.plant.phase = .running)
    (h : s.cool.plant.minRun ≠ none ∨ (s.cool.plant.due = false ∧ s.cool.anyDemand = true)) : coolAct s = (s, []) := by
  have stays : ¬ (s.cool.plant.minRun.isNone ∧ (s.cool.plant.due ∨ s.cool.anyDemand = false)) := by
    rcases h with h | ⟨hd, hz⟩
    · simp [h]
    · simp [hd, hz]
  simp only [coolAct, hp]
  exact if_neg stays

theorem coolAct_running_stops (hp : s.cool.plant.phase = .running) (hm : s.cool.plant.minRun = none)
    (hd : s.cool.plant.due = false) (hz : s.cool.anyDemand = false) :
    coolAct s =
      (s.setPlant { s.cool.plant with phase := .lockout, lastStop := s.now }, [.load (.release .compressor)]) := by
  simp [coolAct, hp, hm, hd, hz]

theorem coolAct_running_defrosts (hp : s.cool.plant.phase = .running) (hm : s.cool.plant.minRun = none)
    (hd : s.cool.plant.due = true) :
    coolAct s = (s.setPlant { s.cool.plant with phase := .heatWait, lastStop := s.now },
      [.load (.release .compressor), .load (.ask .heater)]) := by
  simp [coolAct, hp, hm, hd]

/-! ### The record's steps run (R138 to R142) -/

theorem coolAct_runs {s' : State} {js js' : List Job} (h : coolAct s = (s', js')) :
    Runs 1 (s, .coolAct :: js) (s', js' ++ js) := Runs.step (j := .coolAct) h

/-- R138, R139: from READY with demand the compressor asks, is granted and starts. -/
theorem ready_starts_runs (hq : s.load.requests = []) (hp : s.cool.plant.phase = .ready)
    (hd : s.cool.plant.due = false) (hz : s.cool.anyDemand = true)
    (hg : ∀ g ∈ s.load.grants, g.holder ≠ .compressor) (hf : min 7 s.load.budget ≤ s.load.free) :
    Runs 4 (s, [.coolAct])
      ((s.setLoad (loadGiven s.load .compressor (min 7 s.load.budget))).setPlant
        (startedPlant s.cool.plant s.now s.settings), []) := by
  let waiting := s.setPlant { s.cool.plant with phase := .startWait }
  have acts : Runs 1 (s, [.coolAct]) (waiting, [.load (.ask .compressor)]) :=
    coolAct_runs (coolAct_ready_starts hp hd hz)
  have asks := ask_given_runs (s := waiting) (js := []) hq hg hf rfl
  exact (acts.trans asks).trans (compressorGiven_runs rfl)

/-- R139: the grant lowered to the running size with no request waiting. -/
theorem reduce_runs {js : List Job} (hq : s.load.requests = []) (hd : deferTo .reduce js = none) :
    Runs 1 (s, .load .reduce :: js) (s.setLoad s.load.reduced, js) := by
  by_cases same : s.load.reduced = s.load
  · intro n
    rw [runJobs_cons, runJob_load _ _ _ hd]
    simp only [loadStep, same]
    rfl
  · obtain ⟨makes, pass⟩ := pass_noRequests (l := s.load.reduced) hq
    have runs := makePass_runs (s := s) (op := .reduce) (if_neg same) hd
    rw [makes, pass] at runs
    exact runs

/-- R140: a compressor past its min run stops without demand, and gives its grant back. -/
theorem running_stops_runs (hq : s.load.requests = []) (hp : s.cool.plant.phase = .running)
    (hm : s.cool.plant.minRun = none) (hd : s.cool.plant.due = false) (hz : s.cool.anyDemand = false) :
    Runs 2 (s, [.coolAct])
      ((s.setPlant { s.cool.plant with phase := .lockout, lastStop := s.now }).setLoad (s.load.released .compressor),
        []) :=
  (coolAct_runs (coolAct_running_stops hp hm hd hz)).trans (release_runs hq rfl)

/-- R141, R142: a compressor past its min run stops for the heater, which takes the supply given back. -/
theorem running_defrosts_runs (hq : s.load.requests = []) (hp : s.cool.plant.phase = .running)
    (hm : s.cool.plant.minRun = none) (hd : s.cool.plant.due = true) (hg : ∀ g ∈ s.load.grants, g.holder ≠ .heater)
    (hf : 4 + (s.load.released .compressor).granted ≤ s.load.budget) (ht : s.termReached = false) :
    Runs 6 (s, [.coolAct])
      ((s.setLoad (loadGiven (s.load.released .compressor) .heater 4)).setPlant
        (heatedPlant { s.cool.plant with lastStop := s.now } s.now s.settings), []) := by
  let stopped := s.setPlant { s.cool.plant with phase := .heatWait, lastStop := s.now }
  let released := stopped.setLoad (s.load.released .compressor)
  have acts : Runs 1 (s, [.coolAct]) (stopped, [.load (.release .compressor), .load (.ask .heater)]) :=
    coolAct_runs (coolAct_running_defrosts hp hm hd)
  have gives : Runs 1 (stopped, [.load (.release .compressor), .load (.ask .heater)])
      (released, [.load (.ask .heater)]) := release_runs hq rfl
  have counted : min Requester.heater.units (s.load.released .compressor).budget = 4 :=
    Nat.min_eq_left ((Nat.le_add_right _ _).trans hf)
  have room : min Requester.heater.units (s.load.released .compressor).budget ≤ (s.load.released .compressor).free :=
    counted ▸ Nat.le_sub_of_add_le hf
  have unheld : ∀ g ∈ (s.load.released .compressor).grants, g.holder ≠ .heater := fun g hm =>
    hg g (List.mem_of_mem_filter hm)
  have asks := ask_given_runs (s := released) (js := []) hq unheld room rfl
  rw [show released.load = s.load.released .compressor from rfl, counted] at asks
  exact ((acts.trans gives).trans asks).trans (heaterGiven_runs rfl ht)

/-- R138: LOCKOUT ends once min off has passed, and READY acts at once. -/
theorem lockoutTest_runs (hp : s.cool.plant.phase = .lockout) (hm : s.minOffPassed = true) :
    Runs 1 (s, [.lockoutTest]) (s.setPlant { s.cool.plant with phase := .ready }, [.coolAct]) :=
  Runs.step (j := .lockoutTest) (if_pos ⟨hp, hm⟩)
end

/-! ### The timers (R138, R139, R140, R141) -/

section
variable {s : State}

theorem minOffPassed_advanceTo (s : State) :
    (s.advanceTo (s.cool.plant.lastStop + 1000 * s.settings.minOff)).minOffPassed = true := by
  simp [State.minOffPassed, seconds]

/-- R138: the compressor's rest ends at the moment min off has passed. -/
theorem minOff_ends (hq : s.load.requests = []) (hp : s.cool.plant.phase = .lockout) (hd : s.cool.plant.due = false) :
    let u := s.advanceTo (s.cool.plant.lastStop + 1000 * s.settings.minOff)
    (s.cool.anyDemand = false → ∃ t : State, exec .minOffPassed s = .next t ∧
      LinksOnly (u.setPlant { u.cool.plant with phase := .ready }) t) ∧
    (s.cool.anyDemand = true → (∀ g ∈ s.load.grants, g.holder ≠ .compressor) → min 7 s.load.budget ≤ s.load.free →
      ∃ t : State, exec .minOffPassed s = .next t ∧
        LinksOnly ((u.setLoad (loadGiven s.load .compressor (min 7 s.load.budget))).setPlant
          (startedPlant u.cool.plant u.now s.settings)) t) := by
  intro u
  let ready := u.setPlant { u.cool.plant with phase := .ready }
  have ends : exec .minOffPassed s = finish s (u, [.lockoutTest]) := if_pos hp
  have rested : Runs 1 (u, [.lockoutTest]) (ready, [.coolAct]) :=
    lockoutTest_runs ((s.advanceTo_plant_phase _).trans hp) (minOffPassed_advanceTo s)
  have due : ready.cool.plant.due = false := (s.advanceTo_plant_due _).trans hd
  have load : ready.load = s.load := s.advanceTo_load _
  have settings : ready.settings = s.settings := s.advanceTo_settings _
  have demand : ready.cool.anyDemand = s.cool.anyDemand := by simp [ready, u, Cooling.anyDemand]
  rw [ends]
  refine ⟨fun hz => ?_, fun hz hg hf => ?_⟩
  · exact finish_runs (rested.trans (coolAct_runs (coolAct_ready_rests rfl due (demand.trans hz)))) (by decide)
  · rw [← demand] at hz
    rw [← load] at hq hg hf ⊢
    rw [← settings]
    exact finish_runs (rested.trans (ready_starts_runs hq rfl due hz hg hf)) (by decide)

/-- R139: the start window ends in RUNNING, with the grant lowered. -/
theorem startWindow_ends {ends : Nat} (hq : s.load.requests = []) (hw : s.cool.plant.startWindow = some ends)
    (hm : s.cool.plant.minRun ≠ none) :
    let u := s.advanceTo ends
    ∃ t : State, exec .startWindowExpiry s = .next t ∧
      LinksOnly ((u.setLoad s.load.reduced).setPlant
        { u.cool.plant with phase := .running, startWindow := none }) t := by
  intro u
  let running := u.setPlant { u.cool.plant with phase := .running, startWindow := none }
  have expires : exec .startWindowExpiry s = finish s (running, [.load .reduce, .coolAct]) := by
    show execStartWindowExpiry s = _
    rw [execStartWindowExpiry, hw]
  have load : running.load = s.load := s.advanceTo_load _
  have minRun : running.cool.plant.minRun ≠ none := (s.advanceTo_plant_minRun _) ▸ hm
  rw [expires]
  rw [← load] at hq ⊢
  have stays : coolAct (running.setLoad running.load.reduced) = (running.setLoad running.load.reduced, []) :=
    coolAct_running_stays rfl (.inl minRun)
  exact finish_runs ((reduce_runs hq rfl).trans (coolAct_runs stays)) (by decide)

/-- R140: at the end of min run the compressor runs on with demand and stops without. -/
theorem minRun_ends {ends : Nat} (hq : s.load.requests = []) (hm : s.cool.plant.minRun = some ends)
    (hp : s.cool.plant.phase = .running) (hd : s.cool.plant.due = false) :
    let u := s.advanceTo ends
    (s.cool.anyDemand = true → ∃ t : State, exec .minRunExpiry s = .next t ∧
      LinksOnly (u.setPlant { u.cool.plant with minRun := none }) t) ∧
    (s.cool.anyDemand = false → ∃ t : State, exec .minRunExpiry s = .next t ∧
      LinksOnly ((u.setLoad (s.load.released .compressor)).setPlant
        { u.cool.plant with minRun := none, phase := .lockout, lastStop := u.now }) t) := by
  intro u
  let past := u.setPlant { u.cool.plant with minRun := none }
  have expires : exec .minRunExpiry s = finish s (past, [.coolAct]) := by
    show execMinRunExpiry s = _
    rw [execMinRunExpiry, hm]
  have phase : past.cool.plant.phase = .running := (s.advanceTo_plant_phase _).trans hp
  have due : past.cool.plant.due = false := (s.advanceTo_plant_due _).trans hd
  have load : past.load = s.load := s.advanceTo_load _
  have demand : past.cool.anyDemand = s.cool.anyDemand := by simp [past, u, Cooling.anyDemand]
  rw [expires, ← demand]
  refine ⟨fun hz => ?_, fun hz => ?_⟩
  · exact finish_runs (coolAct_runs (coolAct_running_stays phase (.inr ⟨due, hz⟩))) (by decide)
  · rw [← load] at hq ⊢
    exact finish_runs (running_stops_runs hq phase rfl due hz) (by decide)

/-- R141: the defrost interval sets defrost due; past min run the compressor stops for the heater. -/
theorem interval_reached (hq : s.load.requests = [])
    (hon : s.cool.plant.phase = .starting ∨ s.cool.plant.phase = .running) :
    let u := s.advanceTo (s.now + (3600000 * s.settings.defrostInterval - s.cool.plant.runMs))
    (s.cool.plant.phase = .starting ∨ s.cool.plant.minRun ≠ none →
      ∃ t : State, exec .defrostIntervalReached s = .next t ∧ LinksOnly u.setDue t) ∧
    (s.cool.plant.phase = .running → s.cool.plant.minRun = none → (∀ g ∈ s.load.grants, g.holder ≠ .heater) →
      4 + (s.load.released .compressor).granted ≤ s.load.budget → s.termReached = false →
      ∃ t : State, exec .defrostIntervalReached s = .next t ∧
        LinksOnly ((u.setLoad (loadGiven (s.load.released .compressor) .heater 4)).setPlant
          (heatedPlant { u.cool.plant with lastStop := u.now } u.now s.settings)) t) := by
  intro u
  have expires : exec .defrostIntervalReached s = finish s (u.setDue, [.coolAct]) := by
    show execDefrostIntervalReached s = _
    have on : s.cool.plant.phase.compressorOn = true := by rcases hon with h | h <;> rw [h] <;> rfl
    simp only [execDefrostIntervalReached, intervalAt, on, Bool.true_or, if_true]
    rfl
  have phase : u.setDue.cool.plant.phase = s.cool.plant.phase := s.advanceTo_plant_phase _
  have minRun : u.setDue.cool.plant.minRun = s.cool.plant.minRun := s.advanceTo_plant_minRun _
  have load : u.setDue.load = s.load := s.advanceTo_load _
  have settings : u.setDue.settings = s.settings := s.advanceTo_settings _
  have term : u.setDue.termReached = s.termReached := advanceTo_termReached _
  rw [expires, ← phase, ← minRun, ← settings, ← term]
  rw [← phase] at hon
  refine ⟨fun h => ?_, fun hp hm hg hf ht => ?_⟩
  · have waits : coolAct u.setDue = (u.setDue, []) := by
      rcases hon with hp | hp
      · exact coolAct_starting hp
      · exact coolAct_running_stays hp (.inl (h.resolve_left (by rw [hp]; nofun)))
    exact finish_runs (coolAct_runs waits) (by decide)
  · rw [← load] at hq hg hf ⊢
    exact finish_runs (running_defrosts_runs hq hp hm rfl hg hf ht) (by decide)
end

/-- With no request waiting, the record granted is the record with the grant alone. -/
theorem loadGiven_eq {l : Load} (who : Requester) (units : Nat) (h : l.requests = []) :
    loadGiven l who units = { l with grants := l.grants ++ [{ holder := who, units := units }] } := by
  rw [loadGiven, ← h]

/-- Settles O59: each timer's own effect on the record, then what the record does and what the arbiter hands it. -/
theorem compressorTimersTaken : Obligations.CompressorTimersTaken := by
  unfold Obligations.CompressorTimersTaken
  intro s hq
  dsimp only
  rw [← anyDemand_iff, Bool.not_eq_true]
  refine ⟨fun hp hd => ?_, fun ends hw hm => startWindow_ends hq hw hm, fun ends hm hp hd => ?_, fun hp => ?_⟩
  · obtain ⟨rests, starts⟩ := minOff_ends hq hp hd
    rw [loadGiven_eq _ _ hq] at starts
    exact ⟨rests, starts⟩
  · obtain ⟨goesOn, stops⟩ := minRun_ends hq hm hp hd
    exact ⟨goesOn, stops⟩
  · obtain ⟨sets, defrosts⟩ := interval_reached hq hp
    rw [loadGiven_eq _ _ (l := s.load.released .compressor) hq] at defrosts
    exact ⟨sets, defrosts⟩

end Sys2Proof.Laws
end

section
/-! SUPPORT. The compressor and defrost record, one move after another (R138 to R143), and what each move keeps of
R139's rest between stop and start. -/

namespace Sys2Proof.Laws
open Sys2Proof Sys2Proof.Machine

/-! ### The moves of the record -/

/-- The fields of the record that the rest is read off. -/
def restFields (p : Plant) : PlantPhase × Nat × Option Nat × Option Nat × Option Nat :=
  (p.phase, p.lastStop, p.startWindow, p.heaterTimer, p.dripTimer)

/-- One move of the record, at a time and with R138's judgement of min off: what the rules make of it, each from where
they reach it. A move that keeps the fields of the rest changes no more than the others. -/
inductive PlantMove (passed : Bool) (now : Nat) (p : Plant) : Plant → Prop
  | stays {q : Plant} (h : restFields q = restFields p) : PlantMove passed now p q
  | lockoutEnds (h : p.phase = .lockout) (hp : passed = true) : PlantMove passed now p { p with phase := .ready }
  | waits (h : p.phase = .ready ∨ p.phase = .startWait) (next : PlantPhase)
      (hn : next = .ready ∨ next = .startWait ∨ next = .heatWait) : PlantMove passed now p { p with phase := next }
  | starts (h : p.phase = .startWait) (window run : Option Nat) (moment : Nat) :
      PlantMove passed now p { p with phase := .starting, startWindow := window, minRun := run, grantedAt := moment }
  | windowEnds (h : p.startWindow ≠ none) :
      PlantMove passed now p { p with phase := .running, startWindow := none }
  | stops (h : p.phase = .running) (next : PlantPhase) (hn : next = .heatWait ∨ next = .lockout) :
      PlantMove passed now p { p with phase := next, lastStop := now }
  | heats (h : p.phase = .heatWait) (timer : Option Nat) (moment : Nat) :
      PlantMove passed now p
        { p with phase := .heating, runMs := 0, due := false, heatedAt := moment, heaterTimer := timer }
  | drips (h : p.phase = .heating ∨ p.heaterTimer ≠ none) (timer : Option Nat) (moment : Nat) :
      PlantMove passed now p { p with phase := .drip, heaterTimer := none, dripAt := moment, dripTimer := timer }
  | dripEnds (h : p.phase = .drip ∨ p.dripTimer ≠ none) :
      PlantMove passed now p { p with dripTimer := none, phase := if passed then .ready else .lockout }

/-- One move leads from the record of a state to that of another, by the settings as they stand and with the clock not
put back. -/
structure Moves (s t : State) : Prop where
  settings : t.settings = s.settings
  now : s.now ≤ t.now
  plant : PlantMove s.minOffPassed s.now s.cool.plant t.cool.plant

theorem Moves.refl (s : State) : Moves s s := ⟨rfl, le_rfl, .stays rfl⟩

/-- The record moves within an event. -/
theorem PlantMove.moves {s : State} {p : Plant} (m : PlantMove s.minOffPassed s.now s.cool.plant p) :
    Moves s (s.setPlant p) := ⟨rfl, le_rfl, m⟩

/-- `t` has the fields of the rest and the settings of `s`. -/
@[simp] abbrev PlantKept (s t : State) : Prop :=
  restFields t.cool.plant = restFields s.cool.plant ∧ t.settings = s.settings

theorem PlantKept.moves {s t : State} (h : PlantKept s t) (hn : s.now ≤ t.now := by simp) : Moves s t :=
  have ⟨hp, hs⟩ := h
  ⟨hs, hn, .stays hp⟩

/-- The clock moves on, and the run time alone with it (R137). -/
@[simp] theorem advanceTo_plant (s : State) (n : Nat) : PlantKept s (s.advanceTo n) := by
  refine ⟨?_, s.advanceTo_settings n⟩
  rw [State.advanceTo_cool]
  rfl

/-! ### What a move keeps -/

/-- R138, R139: what is asked of the record with R138's judgement of min off: its timers in their places, and min off
passed in READY and START_WAIT; and, where `off`, with the compressor on too. -/
structure RestKept (off passed : Bool) (p : Plant) : Prop where
  ready : p.phase = .ready ∨ p.phase = .startWait → passed = true
  timers : PlantTimersPlaced p
  switchedOn : off = true → p.phase.compressorOn = true → passed = true

/-- Outside STARTING, HEATING and DRIP no timer of the record runs but min run's. -/
theorem no_timers {p : Plant} (h : PlantTimersPlaced p) (hp : p.phase ∉ [PlantPhase.starting, .heating, .drip]) :
    p.startWindow = none ∧ p.heaterTimer = none ∧ p.dripTimer = none := by
  obtain ⟨window, heater, drip⟩ := h
  simp only [List.mem_cons, List.not_mem_nil, or_false, not_or] at hp
  obtain ⟨hs, hh, hd⟩ := hp
  exact ⟨not_not.mp fun hn => hs (window hn), not_not.mp fun hn => hh (heater hn),
    not_not.mp fun hn => hd (drip hn)⟩

/-- A move keeps the rest: READY is entered with min off passed alone, STARTING from START_WAIT alone, and a stop ends
in a state with the compressor off that is neither. -/
theorem PlantMove.rest {off passed passed' : Bool} {now : Nat} {p q : Plant} (m : PlantMove passed now p q)
    (h : RestKept off passed p) (hp : q.lastStop = p.lastStop → passed = true → passed' = true) :
    RestKept off passed' q := by
  obtain ⟨ready, timers, switched⟩ := h
  have ⟨window, heater, drip⟩ := timers
  cases m with
  | stays same =>
    obtain ⟨phase, stop, win, heat, dry⟩ : q.phase = p.phase ∧ q.lastStop = p.lastStop ∧
        q.startWindow = p.startWindow ∧ q.heaterTimer = p.heaterTimer ∧ q.dripTimer = p.dripTimer := by
      simpa [restFields] using same
    refine ⟨fun hq => hp stop (ready (phase ▸ hq)), ?_, fun ho hq => hp stop (switched ho (phase ▸ hq))⟩
    rw [PlantTimersPlaced, phase, win, heat, dry]
    exact timers
  | lockoutEnds h passes =>
    have untimed := no_timers timers (by simp [h])
    exact ⟨fun _ => hp rfl passes, by simp [PlantTimersPlaced, untimed], nofun⟩
  | waits h next hn =>
    have untimed := no_timers timers (by rcases h with h | h <;> simp [h])
    refine ⟨fun _ => hp rfl (ready h), by simp [PlantTimersPlaced, untimed], ?_⟩
    rcases hn with rfl | rfl | rfl <;> nofun
  | starts h win run moment =>
    have untimed := no_timers timers (by simp [h])
    exact ⟨nofun, by simp [PlantTimersPlaced, untimed], fun _ _ => hp rfl (ready (.inr h))⟩
  | windowEnds h =>
    have phase := window h
    refine ⟨nofun, ⟨nofun, fun hh => ?_, fun hd => ?_⟩, fun ho _ => hp rfl (switched ho (phase ▸ rfl))⟩
    · exact absurd (heater hh) (by simp [phase])
    · exact absurd (drip hd) (by simp [phase])
  | stops h next hn =>
    have untimed := no_timers timers (by simp [h])
    rcases hn with rfl | rfl <;> exact ⟨nofun, by simp [PlantTimersPlaced, untimed], nofun⟩
  | heats h timer moment =>
    have untimed := no_timers timers (by simp [h])
    exact ⟨nofun, by simp [PlantTimersPlaced, untimed], nofun⟩
  | drips h timer moment =>
    have phase : p.phase = .heating := h.elim id heater
    have unstarted : p.startWindow = none := by simpa [phase] using window
    exact ⟨nofun, by simp [PlantTimersPlaced, unstarted], nofun⟩
  | dripEnds h =>
    have phase : p.phase = .drip := h.elim id drip
    have untimed : p.startWindow = none ∧ p.heaterTimer = none := by simpa [phase] using And.intro window heater
    split
    · exact ⟨fun _ => hp rfl ‹_›, by simp [PlantTimersPlaced, untimed], nofun⟩
    · exact ⟨nofun, by simp [PlantTimersPlaced, untimed], nofun⟩

/-! ### From the start of a step -/

/-- The claim of a step from `s`, of any state on the way: where the rest holds in `s` it holds in `t`, and a compressor
off in `s` is on in `t` with min off passed alone. -/
def Rests (s t : State) : Prop :=
  OffLongEnough s → OffLongEnough t ∧ (s.compressorOn = false → t.compressorOn = true → t.minOffPassed = true)

theorem rests_iff {s t : State} : Rests s t ↔
    (OffLongEnough s → RestKept (!s.compressorOn) t.minOffPassed t.cool.plant) :=
  forall_congr' fun _ =>
    ⟨fun ⟨⟨ready, timers⟩, on⟩ => ⟨ready, timers, fun ho => on (by simpa using ho)⟩,
      fun ⟨ready, timers, on⟩ => ⟨⟨ready, timers⟩, fun ho => on (by simpa using ho)⟩⟩

theorem Rests.refl (s : State) : Rests s s := fun h => ⟨h, fun ho hn => by simp [ho] at hn⟩

/-- A move on the way keeps the claim. -/
theorem Rests.move {s t u : State} (h : Rests s t) (m : Moves t u) : Rests s u := by
  rw [rests_iff] at h ⊢
  refine fun hs => m.plant.rest (h hs) fun hl hp => ?_
  have passed : t.cool.plant.lastStop + seconds t.settings.minOff ≤ t.now := of_decide_eq_true hp
  have later := m.now
  exact decide_eq_true (by rw [hl, m.settings]; omega)

theorem Rests.kept {s t u : State} (h : Rests s t) (k : PlantKept t u) (hn : t.now ≤ u.now := by simp) :
    Rests s u :=
  h.move (k.moves hn)

theorem Moves.rests {s t : State} (m : Moves s t) : Rests s t := (Rests.refl s).move m

/-! ### The record's own steps make moves -/

section
variable (s : State)

theorem coolAct_moves : Moves s (coolAct s).1 := by
  fun_cases coolAct s with
  | case1 _ h | case2 _ h => exact (PlantMove.waits (.inl h) _ (by simp)).moves
  | case4 _ h | case6 _ h => exact (PlantMove.waits (.inr h) _ (by simp)).moves
  | case7 _ h => exact (PlantMove.stops h _ (by split <;> simp)).moves
  | _ => exact .refl s
theorem lockoutTest_moves : Moves s (lockoutTest s).1 := by
  fun_cases lockoutTest s with
  | case1 h => exact (PlantMove.lockoutEnds h.1 h.2).moves
  | case2 => exact .refl s
theorem endHeating_moves (h : s.cool.plant.phase = .heating ∨ s.cool.plant.heaterTimer ≠ none) :
    Moves s (endHeating s).1 := ⟨rfl, le_rfl, .drips h _ _⟩
theorem endDrip_moves (h : s.cool.plant.phase = .drip ∨ s.cool.plant.dripTimer ≠ none) :
    Moves s (endDrip s).1 := ⟨rfl, le_rfl, .dripEnds h⟩
theorem heatTest_moves : Moves s (heatTest s).1 := by
  fun_cases heatTest s with
  | case1 h => exact endHeating_moves s (.inl h.1)
  | case2 => exact .refl s
theorem heatPast_moves : Moves s (heatPast s).1 := by
  fun_cases heatPast s with
  | case1 t _ h => exact endHeating_moves s (.inl h.1)
  | case2 | case3 => exact .refl s
theorem dripTest_moves : Moves s (dripTest s).1 := by
  fun_cases dripTest s with
  | case1 t _ h => exact endDrip_moves s (.inl h.1)
  | case2 | case3 => exact .refl s
theorem compressorGiven_moves : Moves s (compressorGiven s).1 := by
  fun_cases compressorGiven s with
  | case1 _ h => exact (PlantMove.starts h _ _ _).moves
  | case2 => exact .refl s
theorem heaterGiven_moves : Moves s (heaterGiven s).1 := by
  fun_cases heaterGiven s with
  | case1 _ h => exact (PlantMove.heats h _ _).moves
  | case2 => exact .refl s
end

end Sys2Proof.Laws
end

section
/-! SUPPORT. What the inner steps of an event make of the compressor and defrost record: its own steps move it (R138 to
R143), and the others leave it. -/

namespace Sys2Proof.Laws
open Sys2Proof Sys2Proof.Machine

/-! ### Inner steps that leave the rest alone -/

section
variable (s : State)

@[simp] theorem reroute_plant : PlantKept s s.reroute := by
  simp [(reroute_links s).cool, (reroute_links s).settings]
@[simp] theorem tubeResult_plant (n : TubeId) (f : Tube → Tube) : PlantKept s (s.tubeResult n f) := by
  simp [State.tubeResult]
@[simp] theorem takeMap_plant (m : SelMap) : PlantKept s (s.takeMap m).1 := ⟨rfl, rfl⟩
@[simp] theorem handHealth_plant (z : ZoneId) (h : Health) : PlantKept s (s.handHealth z h).1 := by
  fun_cases State.handHealth s z h <;> simp +zetaDelta
@[simp] theorem healthSample_plant (z : ZoneId) (b : Bool) (c : Option ZoneCause) :
    PlantKept s (healthSample z b c s).1 := by
  fun_cases healthSample z b c s <;> simp +zetaDelta
@[simp] theorem healthWrite_plant (l : List (ZoneId × Health × ZoneCause)) :
    PlantKept s (healthWrite l s).1 := ⟨rfl, rfl⟩
@[simp] theorem zoneReport_plant (z : ZoneId) (c : ZoneCause) : PlantKept s (s.zoneReport z c) := by
  simp [State.zoneReport]

@[simp] theorem payoutDone_plant (o : Occasion) (m : Bool) (p w : Nat) (e : List TubeEntry) :
    PlantKept s (s.payoutDone o m p w e) := by simp [State.payoutDone]
@[simp] theorem commandEnded_plant (n : TubeId) (p v : Nat) (e : PayEnding) :
    PlantKept s (s.commandEnded n p v e) := ⟨rfl, rfl⟩
@[simp] theorem payNext_plant : PlantKept s (payNext s).1 := by
  fun_cases payNext s <;> simp
@[simp] theorem payGiven_plant : PlantKept s (payGiven s).1 := by
  fun_cases payGiven s <;> simp +zetaDelta
@[simp] theorem payLost_plant : PlantKept s (payLost s).1 := by
  fun_cases payLost s <;> simp
@[simp] theorem payEnd_plant : PlantKept s (payEnd s).1 := by simp [payEnd]
@[simp] theorem payCut_plant : PlantKept s (payCut s).1 := by
  fun_cases payCut s <;> simp

@[simp] theorem giveBack_plant (b : BillId) (v : Nat) : PlantKept s (s.giveBack b v) := by
  fun_cases State.giveBack s b v <;> simp
@[simp] theorem billEscrowed_plant (b : BillId) : PlantKept s (billEscrowed b s).1 := by
  fun_cases billEscrowed b s <;> simp
@[simp] theorem stackAsk_plant : PlantKept s (stackAsk s).1 := by
  fun_cases stackAsk s <;> simp
@[simp] theorem stackGiven_plant : PlantKept s (stackGiven s).1 := by
  fun_cases stackGiven s <;> simp
@[simp] theorem billStackedTail_plant (b : BillId) (v : Nat) : PlantKept s (billStackedTail b v s).1 := by
  fun_cases billStackedTail b v s <;> simp +zetaDelta
@[simp] theorem dropBillFrames_plant : PlantKept s s.dropBillFrames := ⟨rfl, rfl⟩
@[simp] theorem billReturned_plant : PlantKept s (billReturned s).1 := by
  fun_cases billReturned s <;> simp +zetaDelta
@[simp] theorem stackGaveUp_plant : PlantKept s (stackGaveUp s).1 := by
  unfold stackGaveUp
  split
  · split <;> simp
  · simp
@[simp] theorem stackUncertain_plant : PlantKept s (stackUncertain s).1 := by
  fun_cases stackUncertain s <;> simp
@[simp] theorem returnEscrow_plant : PlantKept s s.returnEscrow := by
  fun_cases State.returnEscrow s <;> simp
@[simp] theorem escrowLost_plant : PlantKept s (escrowLost s).1 := by
  fun_cases escrowLost s <;> simp
@[simp] theorem cardOn_plant (f : Option Nat) : PlantKept s (cardOn f s).1 := ⟨rfl, rfl⟩
@[simp] theorem cardClose_plant : PlantKept s (cardClose s).1 := by
  fun_cases cardClose s <;> simp

@[simp] theorem testGiven_plant : PlantKept s (testGiven s).1 := by
  fun_cases testGiven s <;> simp
@[simp] theorem testLeave_plant : PlantKept s (testLeave s).1 := by
  fun_cases testLeave s <;> simp
@[simp] theorem serviceLeft_plant : PlantKept s (serviceLeft s).1 := by simp [serviceLeft]
@[simp] theorem testResult_plant (c : ColumnId) (o : TestOutcome) (d : DropField) (b : ColState) :
    PlantKept s (s.testResult c o d b) := by simp [State.testResult]
@[simp] theorem testNever_plant (c : ColumnId) (o : TestOutcome) : PlantKept s (s.testNever c o) := by
  simp [State.testNever]

@[simp] theorem enterHost_plant (x : Sale) : PlantKept s (enterHost x s).1 := by simp [enterHost]
@[simp] theorem enterReader_plant (x : Sale) : PlantKept s (enterReader x s).1 := by simp [enterReader]
@[simp] theorem enterReaderOrTry_plant (x : Sale) : PlantKept s (enterReaderOrTry x s).1 := by
  fun_cases enterReaderOrTry x s <;> simp
@[simp] theorem enterStage_plant (x : Sale) : PlantKept s (enterStage x s).1 := by
  fun_cases enterStage x s <;> simp
@[simp] theorem showStacking_plant : PlantKept s s.showStacking := by
  fun_cases State.showStacking s <;> simp
@[simp] theorem saleTry_plant : PlantKept s (saleTry s).1 := by
  fun_cases saleTry s <;> simp +zetaDelta
@[simp] theorem refusedTry_plant (x : Sale) (c : ColumnId) (r : TryResult) :
    PlantKept s (refusedTry x c r s).1 := ⟨rfl, rfl⟩
@[simp] theorem saleGiven_plant : PlantKept s (saleGiven s).1 := by
  fun_cases saleGiven s <;> simp [State.startSale]
@[simp] theorem saleDriven_plant (c : ColumnId) (r : DriveResult) (n : Nat) (b : Bool) :
    PlantKept s (saleDriven c r n b s).1 := by
  fun_cases saleDriven c r n b s <;> simp
@[simp] theorem tellReader_plant (x : Sale) (o : SaleOutcome) : PlantKept s (tellReader x o s) := by
  fun_cases tellReader x o s <;> simp +zetaDelta
@[simp] theorem vendedCursor_plant (x : Sale) (o : SaleOutcome) : PlantKept s (s.vendedCursor x o) := by
  fun_cases State.vendedCursor s x o <;> simp
@[simp] theorem saleReport_plant (x : Sale) (o : SaleOutcome) (n : Nat) :
    PlantKept s (s.saleReport x o n) := by simp [State.saleReport]
@[simp] theorem saleFinish_plant (n : Nat) : PlantKept s (saleFinish n s).1 := by
  fun_cases saleFinish n s <;> simp +zetaDelta
@[simp] theorem returnTest_plant : PlantKept s (returnTest s).1 := by
  fun_cases returnTest s <;> simp
@[simp] theorem leverPulled_plant : PlantKept s (leverPulled s).1 := by
  fun_cases leverPulled s <;> simp
@[simp] theorem saleNotice_plant (c : ColumnId) (k : NoticeCause) : PlantKept s (saleNotice c k s).1 := by
  fun_cases saleNotice c k s <;> simp
@[simp] theorem chargeAnswer_plant (n : Nat) (b : Bool) : PlantKept s (chargeAnswer n b s).1 := by
  fun_cases chargeAnswer n b s <;> simp +zetaDelta
@[simp] theorem cardLost_plant : PlantKept s (cardLost s).1 := by
  fun_cases cardLost s <;> simp

theorem foldl_plant {α : Type} (f : State → α → State) (h : ∀ s a, PlantKept s (f s a)) :
    ∀ (l : List α) (s : State), PlantKept s (l.foldl f s)
  | [], _ => ⟨rfl, rfl⟩
  | a :: l, s => by
    obtain ⟨hl, hn⟩ := foldl_plant f h l (f s a)
    obtain ⟨el, en⟩ := h s a
    exact ⟨hl.trans el, hn.trans en⟩
@[simp] theorem leaveActive_plant (st : StationId) (c : StationCause) : PlantKept s (leaveActive st c s).1 := by
  unfold leaveActive
  dsimp only
  split
  · split <;> simp [foldl_plant]
  · simp [foldl_plant]

@[simp] theorem lineRestart_plant : PlantKept s (lineRestart s).1 := by
  fun_cases lineRestart s <;> simp
@[simp] theorem holdBreak_plant : PlantKept s s.holdBreak := ⟨rfl, rfl⟩
@[simp] theorem refreshSet_plant : PlantKept s s.refreshSet :=
  by
  simp [(LinksOnly.refreshSet s).cool, (LinksOnly.refreshSet s).settings]
@[simp] theorem modeNote_plant (m : Mode) (c : ModeCause) : PlantKept s (s.modeNote m c) := by
  simp [State.modeNote]
@[simp] theorem modeTail_plant (b : Mode) (c : ModeCause) : PlantKept s (s.modeTail b c) := by
  unfold State.modeTail
  fun_cases State.modePanel s.refreshSet b <;> simp
theorem modeChange_plant {c : ModeCause} {o : Out} (h : modeChange c s = some o) : PlantKept s o.1 := by
  simp only [modeChange] at h
  split at h
  · cases h
  · injection h with h
    subst h
    simp
@[simp] theorem modeRestart_plant : PlantKept s (modeRestart s).1 := by
  unfold modeRestart
  dsimp only
  split
  · rename_i o h
    have kept := modeChange_plant _ h
    exact kept
  · simp

@[simp] theorem deposit_plant (v : Nat) : PlantKept s (s.deposit v) := by simp [State.deposit]
@[simp] theorem returnHold_plant : PlantKept s s.returnHold := by simp [State.returnHold]
@[simp] theorem releaseAll_plant : PlantKept s s.releaseAll := by simp [State.releaseAll]
@[simp] theorem oweWhole_plant : PlantKept s s.oweWhole := ⟨rfl, rfl⟩

@[simp] theorem payStart_plant : PlantKept s (payStart s).1 := by
  fun_cases payStart s <;> simp +zetaDelta
@[simp] theorem payTell_plant : PlantKept s (payTell s).1 := by
  fun_cases payTell s <;> simp
@[simp] theorem payPlan_plant : PlantKept s (payPlan s).1 := by
  fun_cases payPlan s <;> simp +zetaDelta
@[simp] theorem payOweEnd_plant : PlantKept s (payOweEnd s).1 := by
  unfold payOweEnd
  split <;> simp

@[simp] theorem acceptSale_plant (o : Origin) (i : SelectionId) (c : Source) :
    PlantKept s (acceptSale o i c s).1 := by
  fun_cases acceptSale o i c s <;> simp +zetaDelta
@[simp] theorem stackOutcome_plant (b : Bool) : PlantKept s (stackOutcome b s).1 := by
  fun_cases stackOutcome b s <;> simp
@[simp] theorem saleEnd_plant (o : SaleOutcome) : PlantKept s (saleEnd o s).1 := by
  fun_cases saleEnd o s <;> simp +zetaDelta
@[simp] theorem returnAct_plant : PlantKept s (returnAct s).1 := by simp [returnAct]
end

/-! ### What an event makes of the record -/

/-- What reaches the arbiter changes the load record alone. -/
theorem loadStep_load_only (op : LoadOp) (s : State) : (loadStep op s).1 = s.setLoad (loadStep op s).1.load := by
  fun_cases loadStep op s <;> rfl

/-- An inner step makes a move of the record, or leaves it. -/
theorem runOne_plantMoves (j : Job) (s : State) : Moves s (runOne j s).1 := by
  cases j with
  | load op =>
    rw [runOne, loadStep_load_only]
    exact PlantKept.moves ⟨rfl, rfl⟩
  | give who =>
    cases who with
    | compressor => exact compressorGiven_moves s
    | heater => exact heaterGiven_moves s
    | spiral | testDrive | payout | stacking => exact PlantKept.moves (by simp [runOne, giveGrant]) (by simp [runOne])
  | coolAct => exact coolAct_moves s
  | lockoutTest => exact lockoutTest_moves s
  | heatTest => exact heatTest_moves s
  | heatPast => exact heatPast_moves s
  | dripTest => exact dripTest_moves s
  | _ =>
    exact PlantKept.moves (by simp [runOne, State.saleRestart, State.showRestart])
      (by simp [runOne, State.saleRestart, State.showRestart])

/-- An event keeps the claim of the step behind its own effect. -/
theorem rests_eventKept (s : State) : EventKept (Rests s) where
  one j _ h := h.move (runOne_plantMoves j _)
  cut _ h := h
  links _ _ l h := h.kept (by simp [l.cool, l.settings]) l.now.ge
  port _ _ h := h

end Sys2Proof.Laws
end

section
/-! SUPPORT. The compressor's rest under the items of a REPLY, the requests and every command: a settings
WRITE alone judges it anew (R145), and the record's timers move it (R138 to R143). -/

namespace Sys2Proof.Laws
open Sys2Proof Sys2Proof.Machine

/-! ### The items of a REPLY -/

section
variable (s : State)

@[simp] theorem coinMoney_plant (v : Nat) : PlantKept s (s.coinMoney v).1 := by
  fun_cases State.coinMoney s v <;> simp
@[simp] theorem coinValueFault_plant (v : Nat) (i : Item) : PlantKept s (s.coinValueFault v i) := by
  fun_cases State.coinValueFault s v i <;> simp
@[simp] theorem coinSeen_plant (c : CoinId) (d : CoinDest) : PlantKept s (coinSeen c d s).1 := by
  fun_cases coinSeen c d s <;> simp +zetaDelta
@[simp] theorem billStackedItem_plant (b : BillId) : PlantKept s (billStackedItem b s).1 := by
  fun_cases billStackedItem b s <;> simp
@[simp] theorem billSeen_plant (b : BillId) (e : BillEvent) : PlantKept s (billSeen b e s).1 := by
  fun_cases billSeen b e s <;> simp
@[simp] theorem tubeSense_plant (n : Fin 64) (e : Sense) : PlantKept s (tubeSense n e s).1 := by
  fun_cases tubeSense n e s <;> simp
@[simp] theorem bookPaid_plant (x : Nat) : PlantKept s (s.bookPaid x) := by
  fun_cases State.bookPaid s x <;> simp
@[simp] theorem overpaidReport_plant (n : Fin 64) (k a : Nat) : PlantKept s (s.overpaidReport n k a) := by
  fun_cases State.overpaidReport s n k a <;> simp
@[simp] theorem paidItem_plant (n : Fin 64) (k : Nat) : PlantKept s (paidItem n k s).1 := by
  fun_cases paidItem n k s <;> simp [paidFull, paidShort, paidUnasked]
@[simp] theorem keyItem_plant (n : Nat) : PlantKept s (keyItem n s).1 := by
  fun_cases keyItem n s <;> simp
/-- An item's own effect, whichever block owns it (R165). -/
@[simp] theorem itemOut_plant (st : StationId) (i : Item) : PlantKept s (itemOut st i s).1 := by
  unfold itemOut
  split
  · cases i <;> simp
  · simp

/-! ### The exchange -/

@[simp] theorem endExchange_plant : PlantKept s (endExchange s).1 := by
  fun_cases endExchange s <;> simp +zetaDelta
@[simp] theorem probeLater_plant (st : StationId) : PlantKept s (s.probeLater st) := ⟨rfl, rfl⟩
@[simp] theorem waitTaken_plant (x : Exchange) : PlantKept s (waitTaken x s).1 := by
  fun_cases waitTaken x s <;> simp +zetaDelta
@[simp] theorem missTaken_plant (x : Exchange) : PlantKept s (missTaken x s).1 := by
  fun_cases missTaken x s <;> simp +zetaDelta
@[simp] theorem mirror_plant (x : Exchange) (p : List Byte) : PlantKept s (s.mirror x p) := by
  fun_cases State.mirror s x p <;> simp +zetaDelta
@[simp] theorem flagUnknown_plant (b : Bool) : PlantKept s (s.flagUnknown b) := by
  fun_cases State.flagUnknown s b <;> simp
@[simp] theorem replyTaken_plant (x : Exchange) (p : List Byte) (b : Bool) : PlantKept s (s.replyTaken x p b) := by
  simp [State.replyTaken]
@[simp] theorem firstFrames_plant (st : StationId) : PlantKept s (s.firstFrames st) := by
  fun_cases State.firstFrames s st <;> simp +zetaDelta
@[simp] theorem joinReply_plant (st : StationId) (r l : Byte) : PlantKept s (joinReply st r l s) := by
  fun_cases joinReply st r l s <;> simp +zetaDelta
@[simp] theorem joinTaken_plant (x : Exchange) (p : List Byte) : PlantKept s (joinTaken x p s) := by
  fun_cases joinTaken x p s <;> simp
end

section
variable {r s : State}

theorem takeReply_rests (x : Exchange) (p : List Byte) (l : List Item) (b : Bool) (h : Rests r s) :
    Rests r (takeReply x p l b s) := by
  fun_cases takeReply x p l b s with
  | case1 => exact h.kept (joinTaken_plant s x p)
  | case2 =>
    exact (rests_eventKept r).takeItems (fun i u hu => hu.kept (itemOut_plant u x.station i)) l _
      (h.kept (replyTaken_plant s x p b))

/-- R168 to R170: the end of an exchange keeps the claim, with its items and what they hand on. -/
theorem exchangeEnds_rests (x : Exchange) (j : ReplyJudgement) (h : Rests r s) :
    Rests r (Machine.exchangeEnds x j s) := by
  fun_cases Machine.exchangeEnds x j s with
  | case1 p l b s1 =>
    exact (rests_eventKept r).event ((takeReply_rests x p l b h).kept (endExchange_plant _) (by simp +zetaDelta))
  | case2 => exact (rests_eventKept r).event (h.kept (waitTaken_plant s x))
  | case3 => exact (rests_eventKept r).event (h.kept (by simp))
end

/-! ### The requests -/

section
variable (s : State)

@[simp] theorem refuse_plant (k : ReqKind) (c : ResultCode) : PlantKept s (refuse k c s).1 := ⟨rfl, rfl⟩
@[simp] theorem takenWrite_plant (b : Bool) (l : List Job) : PlantKept s (takenWrite b s l).1 := ⟨rfl, rfl⟩
@[simp] theorem writeCoins_plant (n : Nat) (l : List RawValue) : PlantKept s (writeCoins n l s).1 := by
  fun_cases writeCoins n l s <;> simp
@[simp] theorem writeBills_plant (n : Nat) (l : List RawValue) : PlantKept s (writeBills n l s).1 := by
  fun_cases writeBills n l s <;> simp
@[simp] theorem writeTubes_plant (n : Nat) (l : List RawTube) : PlantKept s (writeTubes n l s).1 := by
  fun_cases writeTubes n l s <;> simp +zetaDelta
@[simp] theorem writeSelections_plant (n : Nat) (l : List RawSelection) :
    PlantKept s (writeSelections n l s).1 := by
  fun_cases writeSelections n l s <;> simp +zetaDelta
@[simp] theorem columnChanged_plant (c : ColumnId) (b : ColState) (k : ColCause) :
    PlantKept s (s.columnChanged c b k) := by
  fun_cases State.columnChanged s c b k <;> simp [State.columnReport]
@[simp] theorem writtenReports_plant (m : SelMap) : PlantKept s (s.writtenReports m) := by
  simp [State.writtenReports, foldl_plant]
@[simp] theorem writeColumns_plant (n : Nat) (l : List RawColumn) : PlantKept s (writeColumns n l s).1 := by
  fun_cases writeColumns n l s <;> simp +zetaDelta
@[simp] theorem writeCalibration_plant (n : Nat) (l : List RawBreakpoint) :
    PlantKept s (writeCalibration n l s).1 := by
  fun_cases writeCalibration n l s <;> simp
@[simp] theorem writeChannels_plant (n : Nat) (l : List Byte) : PlantKept s (writeChannels n l s).1 := by
  fun_cases writeChannels n l s <;> simp
@[simp] theorem writeZones_plant (n : Nat) (l : List RawZone) : PlantKept s (writeZones n l s).1 := by
  fun_cases writeZones n l s <;> simp +zetaDelta
@[simp] theorem writeRelays_plant (n : Nat) (l : List Byte) : PlantKept s (writeRelays n l s).1 := by
  fun_cases writeRelays n l s <;> simp +zetaDelta
@[simp] theorem readTable_plant (t f c : Nat) : PlantKept s (readTable t f c s).1 := by
  fun_cases readTable t f c s <;> simp
theorem modeChange_getD_plant (c : ModeCause) : PlantKept s ((modeChange c s).getD s.only).1 := by
  cases h : modeChange c s with
  | none => exact ⟨rfl, rfl⟩
  | some o => exact modeChange_plant s h
@[simp] theorem modeRequest_plant (v : Byte) : PlantKept s (modeRequest v s).1 := by
  fun_cases modeRequest v s with
  | case1 m _ => simp [setRequested, modeChange_getD_plant]
  | case2 => simp
@[simp] theorem doorMoved_plant (d : Door) : PlantKept s (doorMoved d s).1 :=
  modeChange_getD_plant (s.setMode { s.mode with door := d }) .door
@[simp] theorem fillRequest_plant (b : Bool) : PlantKept s (fillRequest b s).1 := by
  fun_cases fillRequest b s <;> simp +zetaDelta
@[simp] theorem selectRequest_plant (n : Nat) : PlantKept s (selectRequest n s).1 := by
  fun_cases selectRequest n s <;> simp +zetaDelta
@[simp] theorem approveRequest_plant (n : Nat) (b : Bool) : PlantKept s (approveRequest n b s).1 := by
  fun_cases approveRequest n b s <;> simp +zetaDelta
@[simp] theorem leverRequest_plant : PlantKept s (leverRequest s).1 := by simp [leverRequest]
@[simp] theorem testRequest_plant (n : Nat) : PlantKept s (testRequest n s).1 := by
  fun_cases testRequest n s <;> simp
@[simp] theorem tubeOutRequest_plant (n c : Nat) : PlantKept s (tubeOutRequest n c s).1 := by
  fun_cases tubeOutRequest n c s <;> simp +zetaDelta [payManual]
@[simp] theorem releaseRequest_plant (n : Nat) : PlantKept s (releaseRequest n s).1 := by
  fun_cases releaseRequest n s <;> simp +zetaDelta
/-- R144: a DEFROST sets defrost due at most; what the record makes of it stands behind its own effect. -/
@[simp] theorem setDue_plant : PlantKept s s.setDue := ⟨rfl, rfl⟩
@[simp] theorem defrostRequest_plant : PlantKept s (defrostRequest s).1 := by
  fun_cases defrostRequest s <;> simp +zetaDelta
@[simp] theorem statusRequest_plant (n : Nat) : PlantKept s (statusRequest n s).1 := by
  fun_cases statusRequest n s <;> simp
@[simp] theorem restartRequest_plant : PlantKept s (restartRequest s).1 := by
  fun_cases restartRequest s <;> simp
@[simp] theorem relayRequest_plant (st : Fin 8) (k : Byte) (p : List Byte) :
    PlantKept s (relayRequest st k p s).1 := by
  have target : ∀ i, PlantKept s (relayTo i k p s).1 := fun i => by
    fun_cases relayTo i k p s <;> simp +zetaDelta
  fun_cases relayRequest st k p s with
  | case1 => exact target _
  | case2 => exact ⟨rfl, rfl⟩

/-! ### The spiral drive's events, and the other commands' own effects -/

@[simp] theorem columnAfter_plant (c : ColumnId) (r : Column) (k : ColCause) :
    PlantKept s (s.columnAfter c r k) := by
  simp [State.columnAfter, State.driveColumn]
@[simp] theorem handResult_plant (b : Bool) : PlantKept s (handResult b s).1 := by
  fun_cases handResult b s <;> simp +zetaDelta
@[simp] theorem endAttempt_plant (a : Attempt) (r : DriveResult) (b : Bool) :
    PlantKept s (endAttempt a r b s).1 := by simp [endAttempt]
@[simp] theorem stopEarly_plant (a : Attempt) (r : DriveResult) : PlantKept s (stopEarly a r s).1 := by
  fun_cases stopEarly a r s <;> simp
@[simp] theorem turnDone_plant (a : Attempt) : PlantKept s (turnDone a s).1 := by
  fun_cases turnDone a s <;> simp
@[simp] theorem windowEnds_plant (a : Attempt) : PlantKept s (windowEnds a s).1 := by
  fun_cases windowEnds a s <;> simp
@[simp] theorem strayDrop_plant : PlantKept s s.strayDrop := by simp [State.strayDrop]
@[simp] theorem dropCounted_plant : PlantKept s (dropCounted s).1 := by
  fun_cases dropCounted s <;> simp
@[simp] theorem beamBreaks_plant : PlantKept s (beamBreaks s).1 := by
  fun_cases beamBreaks s <;> simp
@[simp] theorem beamClears_plant : PlantKept s s.beamClears := by
  fun_cases State.beamClears s <;> simp
@[simp] theorem senseCurrent_plant (a : Attempt) (n : Nat) : PlantKept s (s.senseCurrent a n) := by
  fun_cases State.senseCurrent s a n <;> simp
@[simp] theorem setHome_plant (c : ColumnId) (b : Bool) : PlantKept s (s.setHome c b) := ⟨rfl, rfl⟩
@[simp] theorem homeOpens_plant (a : Attempt) (n : Nat) : PlantKept s (homeOpens a n s).1 := by
  fun_cases homeOpens a n s <;> simp +zetaDelta
@[simp] theorem homeCloses_plant (a : Attempt) : PlantKept s (homeCloses a s).1 := by
  fun_cases homeCloses a s <;> simp +zetaDelta
@[simp] theorem currentChanges_plant (a : Attempt) (n : Nat) : PlantKept s (currentChanges a n s).1 := by
  fun_cases currentChanges a n s <;> simp +zetaDelta
@[simp] theorem openChecked_plant (a : Attempt) (n : Nat) : PlantKept s (openChecked a n s).1 := by
  fun_cases openChecked a n s <;> simp
@[simp] theorem leaveHomeEnds_plant (a : Attempt) (n : Nat) : PlantKept s (leaveHomeEnds a n s).1 :=
  endAttempt_plant _ _ _ _
@[simp] theorem takeSample_plant (c : ChannelId) (n : Nat) : PlantKept s (takeSample c n s).1 := by
  fun_cases takeSample c n s <;> simp +zetaDelta
@[simp] theorem payLimitEnds_plant (c : PayCmd) : PlantKept s (payLimitEnds c s).1 := by
  simp [payLimitEnds]
end

/-! ### The settings WRITE and the defrost (R145, R144) -/

section
variable {s : State}

/-- R145: the new settings move the timers that run, and start none. -/
theorem plantWritten_timers {p : Plant} (t : Settings) (now : Nat) (h : PlantTimersPlaced p) :
    PlantTimersPlaced (plantWritten p t now) := by
  simpa [PlantTimersPlaced, plantWritten] using h

/-- R145, min off: READY and START_WAIT stay with min off passed alone, and no compressor is switched on. -/
theorem minOffWritten_rest {off : Bool} (ht : PlantTimersPlaced s.cool.plant)
    (hoff : off = true → s.compressorOn = false) :
    RestKept off (minOffWritten s).1.minOffPassed (minOffWritten s).1.cool.plant := by
  have dark : off = true → s.cool.plant.phase.compressorOn = true → s.minOffPassed = true := fun ho hn =>
    absurd hn (by simpa [State.compressorOn] using hoff ho)
  fun_cases minOffWritten s with
  | case1 p _ passed | case3 p _ passed => exact ⟨fun _ => passed, ht, dark⟩
  | case2 p phase | case4 p phase =>
    have untimed := no_timers ht (by simp +zetaDelta [phase])
    exact ⟨nofun, by simp [PlantTimersPlaced, untimed, p], nofun⟩
  | case5 p ready startWait => exact ⟨fun h => (h.elim ready startWait).elim, ht, dark⟩

/-- R145: a settings WRITE is refused, or keeps the claim by the new settings. -/
theorem writeSettings_rests (n : Nat) (l : List RawSettings) : Rests s (writeSettings n l s).1 := by
  fun_cases writeSettings n l s with
  | case3 r t budget clamped _ _ _ s1 o =>
    refine rests_iff.mpr fun ⟨_, timers⟩ => ?_
    have off : (!s.compressorOn) = true → s.compressorOn = false := fun ho => by simpa using ho
    exact minOffWritten_rest (s := s1.setPlant (plantWritten s1.cool.plant t s.now))
      (plantWritten_timers t s.now timers) off
  | _ => exact .refl s

/-! ### Every command -/

theorem rests_finish {before : State} {o : Out} (h : Rests s o.1) : NextHas (Rests s) (finish before o) :=
  (rests_eventKept s).finish h

/-- A command that is one event, whose own effect leaves the rest and does not put the clock back. -/
@[simp] theorem rests_quiet {before : State} {o : Out} (k : PlantKept s o.1) (hn : s.now ≤ o.1.now) :
    NextHas (Rests s) (finish before o) :=
  rests_finish ((Rests.refl s).kept k hn)

@[simp] theorem rests_same : Rests s s := .refl s


/-- A request keeps the claim where its body does, which finds the record and the settings as the step began. -/
theorem takeRequest_rests {h : ReqHeader} {k : ReqKind} {body : State → Out} (hb : ∀ u, Rests u (body u).1) :
    NextHas (Rests s) (takeRequest h k body s) := by
  have start {t : State} (ht : Rests (s.noteHeader h) t) : Rests s t := by
    simpa [Rests, OffLongEnough, State.minOffPassed, State.compressorOn] using ht
  unfold takeRequest
  dsimp only
  split
  · exact nextHas_next.mpr (start (.refl _))
  · split
    · exact rests_finish (start (.refl _))
    · exact rests_finish (start (hb _))

theorem execRelay_rests (h : ReqHeader) (k : Byte) (p : List Byte) : NextHas (Rests s) (execRelay h k p s) := by
  fun_cases execRelay h k p s with
  | case1 s1 => exact nextHas_next.mpr ((Rests.refl s).kept (by simp +zetaDelta) (by simp +zetaDelta))
  | case2 s1 => exact rests_quiet (by simp +zetaDelta) (by simp +zetaDelta)

theorem takeCommand_rests (c : Instr) : NextHas (Rests s) (takeCommand c s) := by
  cases c with
  | writeSettings h i l => exact takeRequest_rests fun u => writeSettings_rests _ l
  | relay h k p => exact execRelay_rests h k p
  | read | writeCoinTable | writeBillTable | writeTubeTable | writeSelectionTable | writeColumnTable
  | writeCalibrationTable | writeChannelTable | writeZoneTable | writeRelayTable | mode | select | approve
  | lever | testDrive | tubeOut | fill | release | defrost | status | restart =>
    exact takeRequest_rests fun u => (Rests.refl u).kept (by simp)
  | _ => exact nextHas_next.mpr (.refl s)

theorem discardFrame_rests (corrected : Bool) (c : Condition) : Rests s (s.discardFrame corrected c) := by
  unfold State.discardFrame
  split <;> exact (Rests.refl s).kept (by simp)

theorem takeJudged_rests (j : FrameJudgement) : NextHas (Rests s) (takeJudged j s) := by
  fun_cases takeJudged j s with
  | case1 => exact nextHas_next.mpr (.refl s)
  | case2 corrected c => exact nextHas_next.mpr (discardFrame_rests corrected c)
  | case3 c => exact takeCommand_rests c
  | case4 h => exact takeRequest_rests fun u => (Rests.refl u).kept (by simp)

/-- The end of an exchange and of the step, from a state whose clock is not behind. -/
theorem exchange_rests (x : Exchange) (j : ReplyJudgement) {u : State} (k : PlantKept s u) (hn : s.now ≤ u.now) :
    Rests s (Machine.exchangeEnds x j u).stepEnd :=
  (rests_eventKept s).links _ _ (.stepEnd _) (exchangeEnds_rests x j ((Rests.refl s).kept k hn))

/-- Every command keeps the claim: the timers of the record move it, the settings WRITE judges it anew, and the others
leave it to the inner steps. -/
theorem exec_rests (c : Instr) (s : State) : NextHas (Rests s) (exec c s) := by
  cases c with
  | powerOn => exact nextHas_next.mpr fun _ => ⟨⟨nofun, nofun, nofun, nofun⟩, fun _ => nofun⟩
  | holdAsserted => exact nextHas_next.mpr (.refl s)
  | serviceFrameDiscarded l => exact takeJudged_rests _
  | serviceByteGap l => exact takeJudged_rests _
  | writeSettings h i l => exact takeCommand_rests (.writeSettings h i l)
  | relay h k p => exact execRelay_rests h k p
  | read | writeCoinTable | writeBillTable | writeTubeTable | writeSelectionTable | writeColumnTable
  | writeCalibrationTable | writeChannelTable | writeZoneTable | writeRelayTable | mode | select | approve
  | lever | testDrive | tubeOut | fill | release | defrost | status | restart =>
    exact takeRequest_rests fun u => (Rests.refl u).kept (by simp)
  | doorSwitch | holdReleased | beamBroken | beamUnbroken | sample | temps => exact rests_quiet (by simp) (by simp)
  | frameTransmitted =>
    simp only [exec, execFrameTransmitted]
    split
    · exact nextHas_next.mpr (.refl s)
    · exact rests_quiet ⟨rfl, rfl⟩ le_rfl
  | replyReceived | replyWindowExpiry | replyGap =>
    simp only [exec, execReplyReceived, execReplyWindowExpiry, execReplyGap]
    split <;> simp [exchange_rests]
  | lineBreakEnd | probeDue | retryAt | stackingLimitExpiry | payLimitExpiry | hostApprovalLimitExpiry
  | readerApprovalLimitExpiry | loadLimitExpiry =>
    simp only [exec, execLineBreakEnd, execProbeDue, execRetryAt, execStackingLimitExpiry, execPayLimitExpiry,
      execHostApprovalLimitExpiry, execReaderApprovalLimitExpiry, execLoadLimitExpiry]
    split <;> simp
  | homeSwitchOpens | homeSwitchCloses | motorCurrentChange | clearTimerExpiry | blockTimerExpiry
  | testLoadLimitExpiry | promotionTimerExpiry =>
    simp only [exec, execHomeSwitchOpens, execHomeSwitchCloses, execMotorCurrentChange, execClearTimerExpiry,
      execBlockTimerExpiry, execTestLoadLimitExpiry, execPromotionTimerExpiry]
    split <;> simp
  | openCheckExpiry | leaveHomeLimitExpiry | turnLimitExpiry | jamRunExpiry | dropWindowExpiry =>
    simp only [exec, execOpenCheckExpiry, execLeaveHomeLimitExpiry, execTurnLimitExpiry, execJamRunExpiry,
      execDropWindowExpiry]
    split
    · split <;> simp
    · simp
  | dutyPhaseExpiry | minOffPassed | defrostIntervalReached | excursionTimerExpiry =>
    simp only [exec, execDutyPhaseExpiry, execMinOffPassed, execDefrostIntervalReached, execExcursionTimerExpiry]
    split <;> simp
  | minRunExpiry =>
    simp only [exec, execMinRunExpiry]
    split
    · exact rests_quiet (advanceTo_plant s _) (by simp)
    · simp
  | startWindowExpiry =>
    simp only [exec, execStartWindowExpiry]
    split
    · rename_i ends hw
      exact rests_finish ((advanceTo_plant s ends).moves.rests.move
        (PlantMove.windowEnds (by simp [hw])).moves)
    · simp
  | heaterTimerExpiry =>
    simp only [exec, execHeaterTimerExpiry]
    split
    · rename_i ends hw
      exact rests_finish ((advanceTo_plant s ends).moves.rests.move (endHeating_moves _ (.inr (by simp [hw]))))
    · simp
  | dripTimerExpiry =>
    simp only [exec, execDripTimerExpiry]
    split
    · rename_i ends hw
      exact rests_finish ((advanceTo_plant s ends).moves.rests.move (endDrip_moves _ (.inr (by simp [hw]))))
    · simp

end

/-- Settles O13: a millisecond leaves the rest, and every command keeps it. -/
theorem compressorRestsBetweenStarts : Obligations.CompressorRestsBetweenStarts := by
  unfold Obligations.CompressorRestsBetweenStarts
  intro s t hs ht
  unfold step at ht
  split at ht
  · injection ht with ht
    subst ht
    exact (advanceTo_plant s (s.now + 1)).moves.rests hs
  · rename_i c rest _
    exact exec_rests c (s.setPending rest) t ht hs

end Sys2Proof.Laws
end

section
/-! SUPPORT. The idle step (log 1). -/

namespace Sys2Proof.Laws
open Sys2Proof Sys2Proof.Machine

/-- R137: a millisecond moves the clock and, while the compressor output is on, the run time. -/
theorem tick_eq (s : State) : s.tick =
    { s with
      now := s.now + 1
      cool := { s.cool with plant := { s.cool.plant with
        runMs := if s.compressorOn then s.cool.plant.runMs + 1 else s.cool.plant.runMs } } } := by
  have later : ¬ s.now + 1 ≤ s.now := Nat.not_succ_le_self s.now
  rw [State.tick, State.advanceTo, if_neg later, Nat.add_sub_cancel_left]
  rfl

/-- Settles O2: an empty queue leaves the millisecond alone. -/
theorem idleStepIsAMillisecond : Obligations.IdleStepIsAMillisecond := by
  unfold Obligations.IdleStepIsAMillisecond
  intro s hs
  have idles : step s = .next s.tick := by rw [step, hs]
  rw [idles, tick_eq]

end Sys2Proof.Laws
end

section
/-! SUPPORT. The rounded quotient (R131, R132), the conversion of a code (R130, R131), and what a sample makes of its
channel (R128, R129). -/

namespace Sys2Proof.Laws
open Sys2Proof Sys2Proof.Machine

/-! ### The rounded quotient (R131, R132) -/

/-- A natural quotient rounded half up: no further than half a step above the value, and nearer than that below it. -/
theorem halfUp_nearest (a : Nat) {d : Nat} (hd : 0 < d) :
    2 * ((2 * a + d) / (2 * d) * d) ≤ 2 * a + d ∧ 2 * a < 2 * ((2 * a + d) / (2 * d) * d) + d := by
  have low := Nat.div_mul_le_self (2 * a + d) (2 * d)
  have high := Nat.lt_div_mul_add (a := 2 * a + d) (Nat.mul_pos two_pos hd)
  rw [Nat.mul_left_comm] at low high
  omega

/-- R131, R132: the rounded quotient is the nearest whole number, and of two as near the one further from zero. -/
theorem roundDiv_nearest (num : Int) {den : Nat} (h : 0 < den) :
    2 * (roundDiv num den * den - num).natAbs ≤ den ∧
      (2 * (roundDiv num den * den - num).natAbs = den → num.natAbs < (roundDiv num den * den).natAbs) := by
  obtain ⟨low, high⟩ := halfUp_nearest num.natAbs h
  simp only [roundDiv]
  generalize (2 * num.natAbs + den) / (2 * den) = q at low high ⊢
  have cast : (q : Int) * den = ↑(q * den) := by push_cast; rfl
  split
  · rw [Int.neg_mul, cast]
    omega
  · rw [cast]
    omega

/-! ### The conversion of a code (R130, R131) -/

/-- R130, R131: a code at or outside an end of the table takes the end's temperature with the LIMIT mark. -/
theorem convertCode_of_ends {table : List (Nat × Int)} {lo hi : Nat × Int} (hlo : table.head? = some lo)
    (hhi : table.getLast? = some hi) (code : Nat) :
    convertCode table code =
      if code ≤ lo.1 then (lo.2, true) else if hi.1 ≤ code then (hi.2, true)
      else (interpolate code table, false) := by
  simp only [convertCode, hlo, hhi]

theorem convertCode_low {code c0 : Nat} {t0 : Int} {rest : List (Nat × Int)} (h : code ≤ c0) :
    convertCode ((c0, t0) :: rest) code = (t0, true) :=
  (convertCode_of_ends rfl (List.getLast?_eq_some_getLast (List.cons_ne_nil _ _)) code).trans (if_pos h)

theorem convertCode_high {code c0 cn : Nat} {t0 tn : Int} {mid : List (Nat × Int)} (h0 : c0 < code)
    (hn : cn ≤ code) :
    convertCode ((c0, t0) :: mid ++ [(cn, tn)]) code = (tn, true) := by
  rw [convertCode_of_ends rfl (List.getLast?_concat ..), if_neg (Nat.not_le.mpr h0), if_pos hn]

/-- R131: the segments whose upper code is at or below the code are passed over. -/
theorem interpolate_append {code c0 : Nat} {t0 : Int} {rest : List (Nat × Int)} (hc : c0 ≤ code) :
    ∀ {pre : List (Nat × Int)}, (∀ p ∈ pre.tail, p.1 ≤ code) →
      interpolate code (pre ++ (c0, t0) :: rest) = interpolate code ((c0, t0) :: rest)
  | [], _ => rfl
  | [(_, _)], _ => by
    rw [List.singleton_append, interpolate, if_neg (Nat.not_lt.mpr hc)]
  | (_, _) :: (c, t) :: pre, h => by
    have below : c ≤ code := h (c, t) List.mem_cons_self
    rw [List.cons_append, List.cons_append, interpolate, if_neg (Nat.not_lt.mpr below)]
    exact interpolate_append (pre := (c, t) :: pre) hc fun p hp => h p (List.mem_cons_of_mem _ hp)

/-- R131: inside the table a code is converted by its segment. -/
theorem convertCode_inside {pre post : List (Nat × Int)} {code c0 c1 : Nat} {t0 t1 : Int}
    (sorted : ((pre ++ (c0, t0) :: (c1, t1) :: post).map Prod.fst).Pairwise (· < ·)) (h0 : c0 ≤ code)
    (h1 : code < c1) (hf : ∀ p, (pre ++ (c0, t0) :: (c1, t1) :: post).head? = some p → p.1 < code) :
    convertCode (pre ++ (c0, t0) :: (c1, t1) :: post) code =
      (t0 + roundDiv ((code - c0 : Nat) * (t1 - t0)) (c1 - c0), false) := by
  obtain ⟨-, upper, before⟩ := List.pairwise_append.mp (List.map_append ▸ sorted)
  have below : ∀ p ∈ pre, p.1 ≤ code := fun p hp =>
    (before p.1 (List.mem_map_of_mem hp) c0 List.mem_cons_self).le.trans h0
  have inside : interpolate code (pre ++ (c0, t0) :: (c1, t1) :: post) =
      t0 + roundDiv ((code - c0 : Nat) * (t1 - t0)) (c1 - c0) := by
    rw [interpolate_append h0 fun p hp => below p (List.mem_of_mem_tail hp), interpolate, if_pos h1]
  have last : (pre ++ (c0, t0) :: (c1, t1) :: post).getLast? = ((c1, t1) :: post).getLast? := by
    rw [List.getLast?_append_of_ne_nil _ (List.cons_ne_nil _ _), List.getLast?_cons_cons]
  have upperEnd : code < (((c1, t1) :: post).getLast (List.cons_ne_nil _ _)).1 := by
    rcases List.mem_cons.mp (List.getLast_mem (List.cons_ne_nil (c1, t1) post)) with h | h
    · rw [h]
      exact h1
    · have above := (List.pairwise_cons.mp (List.pairwise_cons.mp upper).2).1
      exact h1.trans (above _ (List.mem_map_of_mem h))
  obtain ⟨lo, hlo⟩ : ∃ lo, (pre ++ (c0, t0) :: (c1, t1) :: post).head? = some lo := by
    cases pre <;> simp
  rw [convertCode_of_ends hlo (last.trans (List.getLast?_eq_some_getLast (List.cons_ne_nil _ _))),
    if_neg (Nat.not_le.mpr (hf lo hlo)), if_neg (Nat.not_le.mpr upperEnd), inside]

/-! ### What a sample makes of its channel (R128, R129) -/

theorem faultClass_fault {code : Nat} (h : code ≤ 15 ∨ 1008 ≤ code) :
    faultClass code = some (if code ≤ 15 then .short else .opened) := by
  unfold faultClass
  split
  · rfl
  · exact if_pos (by omega)

theorem faultClass_valid {code : Nat} (h1 : 15 < code) (h2 : code < 1008) : faultClass code = none := by
  rw [faultClass, if_neg (by omega), if_neg (by omega)]

/-- R129: the samples list holds the last four. -/
theorem pushSample_eq {l : List Int} (t : Int) (h : l.length ≤ 4) :
    pushSample l t = (l ++ [t]).drop (l.length - 3) := by
  unfold pushSample
  by_cases hl : l.length = 4
  · simp [hl]
  · have drops : l.length - 3 = 0 := by omega
    rw [if_neg (by simp; omega), drops]
    rfl

theorem pushSample_getLast? (l : List Int) (t : Int) : (pushSample l t).getLast? = some t := by
  fun_cases pushSample l t with
  | case1 m h =>
    rw [List.getLast?_drop, if_neg (by omega)]
    simp [m]
  | case2 m h => simp [m]

section
variable (c : Channel) (table : List (Nat × Int)) {code : Nat}

/-- R128: a code of a fault class is a fault sample. -/
theorem sample_fault (h : code ≤ 15 ∨ 1008 ≤ code) :
    c.sample table code =
      ({ c with lastCode := some code } : Channel).faultSample (if code ≤ 15 then .short else .opened) := by
  simp only [Channel.sample, faultClass_fault h]

/-- R129 to R131: a code between the fault classes is a valid sample, of its converted temperature and the offset. -/
theorem sample_valid (h1 : 15 < code) (h2 : code < 1008) :
    c.sample table code =
      ({ c with lastCode := some code } : Channel).validSample ((convertCode table code).1 + c.offset)
        (convertCode table code).2 := by
  simp only [Channel.sample, faultClass_valid h1 h2]

/-- R129: a valid sample joins the samples list and sets or clears the mark; the rest is as R129's runs have it. -/
theorem validSample_kept (t : Int) (limit : Bool) :
    (c.validSample t limit).samples = pushSample c.samples t ∧ (c.validSample t limit).limitMark = limit ∧
      (c.validSample t limit).offset = c.offset ∧ (c.validSample t limit).lastCode = c.lastCode ∧
      (c.validSample t limit).faultKind = c.faultKind := by
  fun_cases Channel.validSample c t limit <;> simp +zetaDelta

/-- R128: a fault sample leaves the offset and the code, notes its kind and breaks the valid run. -/
theorem faultSample_kept (kind : FaultKind) :
    (c.faultSample kind).offset = c.offset ∧ (c.faultSample kind).lastCode = c.lastCode ∧
      (c.faultSample kind).faultKind = some kind ∧ (c.faultSample kind).validRun = 0 := by
  fun_cases Channel.faultSample c kind <;> simp +zetaDelta

/-- R129: in FAULT a valid sample short of the third of its run counts. -/
theorem validSample_counts {t : Int} {limit : Bool} (hs : c.status = .fault) (hr : c.validRun < 2) :
    (c.validSample t limit).status = .fault ∧ (c.validSample t limit).validRun = c.validRun + 1 ∧
      (c.validSample t limit).temperature = c.temperature := by
  simp [Channel.validSample, hs, hr]

/-- R129, R132: outside FAULT, and as the third of a run in it, a valid sample makes the mean of the samples. -/
theorem validSample_makes {t : Int} {limit : Bool} (h : c.status = .fault → 2 ≤ c.validRun) :
    (c.validSample t limit).status = .valid ∧ (c.status ≠ .fault → (c.validSample t limit).faultRun = 0) ∧
      (c.validSample t limit).temperature = some (meanOf (pushSample c.samples t)) := by
  cases hs : c.status with
  | fault => simp [Channel.validSample, hs, Nat.not_lt.mpr (h hs)]
  | valid | noData => simp [Channel.validSample, hs]

/-- R128: what a fault sample makes of the channel, in FAULT, short of the third running and as the third. -/
theorem faultSample_inFault {kind : FaultKind} (hs : c.status = .fault) :
    (c.faultSample kind).status = .fault ∧ (c.faultSample kind).samples = [] ∧
      (c.faultSample kind).temperature = c.temperature := by
  simp [Channel.faultSample, hs]

theorem faultSample_counts {kind : FaultKind} (hs : c.status ≠ .fault) (hr : c.faultRun < 2) :
    (c.faultSample kind).status = c.status ∧ (c.faultSample kind).faultRun = c.faultRun + 1 ∧
      (c.faultSample kind).samples = c.samples ∧ (c.faultSample kind).temperature = c.temperature ∧
      (c.faultSample kind).limitMark = c.limitMark := by
  cases h : c.status with
  | fault => exact absurd h hs
  | valid | noData => simp [Channel.faultSample, h, show c.faultRun + 1 < 3 by omega]

theorem faultSample_third {kind : FaultKind} (hs : c.status ≠ .fault) (hr : 2 ≤ c.faultRun) :
    (c.faultSample kind).status = .fault ∧ (c.faultSample kind).samples = [] ∧
      (c.faultSample kind).temperature = none ∧ (c.faultSample kind).limitMark = false := by
  cases h : c.status with
  | fault => exact absurd h hs
  | valid | noData => simp [Channel.faultSample, h, show ¬ c.faultRun + 1 < 3 by omega]
end

/-- R132: the mean is the nearest whole number to the quotient of the samples, halves away from zero. -/
theorem meanOf_nearest {l : List Int} (h : l ≠ []) :
    2 * (meanOf l * l.length - l.sum).natAbs ≤ l.length ∧
      (2 * (meanOf l * l.length - l.sum).natAbs = l.length → l.sum.natAbs < (meanOf l * l.length).natAbs) :=
  roundDiv_nearest l.sum (List.length_pos_iff.mpr h)

/-- Settles O20: the ends, a segment inside, and the sample that takes the temperature so made. -/
theorem conversionInterpolates : Obligations.ConversionInterpolates := by
  unfold Obligations.ConversionInterpolates
  refine ⟨fun c table code h1 h2 => ?_, fun _ _ _ _ => convertCode_low, fun _ _ _ _ _ _ => convertCode_high, ?_⟩
  · obtain ⟨samples, mark, -⟩ := validSample_kept { c with lastCode := some code }
      ((convertCode table code).1 + c.offset) (convertCode table code).2
    rw [sample_valid c table h1 h2, samples, mark]
    exact ⟨pushSample_getLast? _ _, rfl⟩
  · rintro table pre post code c0 c1 t0 t1 rfl sorted h0 h1 hf
    exact ⟨_, convertCode_inside sorted h0 h1 hf, roundDiv_nearest _ (by omega)⟩

/-- Settles O57: a code is a fault sample or a valid sample, and each is judged by the channel's status and its run. -/
theorem channelTakesSample : Obligations.ChannelTakesSample := by
  unfold Obligations.ChannelTakesSample
  intro c table code
  let noted : Channel := { c with lastCode := some code }
  have kept : (c.sample table code).offset = c.offset ∧ (c.sample table code).lastCode = some code := by
    by_cases h : code ≤ 15 ∨ 1008 ≤ code
    · obtain ⟨offset, last, -⟩ := faultSample_kept noted (if code ≤ 15 then .short else .opened)
      rw [sample_fault c table h]
      exact ⟨offset, last⟩
    · obtain ⟨-, -, offset, last, -⟩ := validSample_kept noted ((convertCode table code).1 + c.offset)
        (convertCode table code).2
      rw [sample_valid c table (by omega) (by omega)]
      exact ⟨offset, last⟩
  refine ⟨kept.1, kept.2, fun h => ?_, fun h1 h2 hl => ?_⟩
  · obtain ⟨-, -, kind, run⟩ := faultSample_kept noted (if code ≤ 15 then .short else .opened)
    rw [sample_fault c table h]
    exact ⟨kind, run, faultSample_inFault noted, faultSample_counts noted, faultSample_third noted⟩
  · obtain ⟨samples, mark, -, -, kind⟩ := validSample_kept noted ((convertCode table code).1 + c.offset)
      (convertCode table code).2
    have pushed := pushSample_eq ((convertCode table code).1 + c.offset) hl
    have four : (pushSample c.samples ((convertCode table code).1 + c.offset)).length ≤ 4 := by
      rw [pushed]
      simp
      omega
    have nonempty : pushSample c.samples ((convertCode table code).1 + c.offset) ≠ [] := fun h => by
      simpa [h] using pushSample_getLast? c.samples ((convertCode table code).1 + c.offset)
    rw [sample_valid c table h1 h2]
    refine ⟨mark, kind, samples.trans pushed, samples ▸ four, validSample_counts noted, fun h => ?_⟩
    obtain ⟨status, run, mean⟩ := validSample_makes noted h
    refine ⟨status, run, _, mean, ?_⟩
    rw [samples]
    exact meanOf_nearest nonempty

end Sys2Proof.Laws
end

section
/-! SUPPORT. STATUS (R188), and the calibration, channel and relay table WRITEs (R126, R127, R175). -/

namespace Sys2Proof.Laws
open Sys2Proof Sys2Proof.Machine

/-! ### STATUS (R188) -/

/-- A corrected header is no part of a snapshot. -/
theorem snapshot_noteHeader (s : State) (h : ReqHeader) (part : Nat) :
    snapshot (s.noteHeader h) part = snapshot s part := by
  unfold State.noteHeader
  split <;> rfl

/-- R188: the parts are numbered 0 to 8. -/
theorem snapshot_none (s : State) : ∀ {part : Nat}, 8 < part → snapshot s part = none
  | _ + 9, _ => rfl

/-- R188: a STATUS answers with the part's snapshot, or BAD_INDEX where the part has none, and changes no state. -/
theorem status_answers (s : State) (h : ReqHeader) (part : Byte) (ht : s.takes h) :
    ∃ t : State, exec (.status h part) s = .next t ∧
      (∀ v, snapshot s part.toNat = some v →
        LinksOnly { s with port := answeredPort s h .status .ok (.snapshot v) } t ∧
          t.newestAnswer = some (answerTo s h .status .ok (.snapshot v))) ∧
      (snapshot s part.toNat = none →
        LinksOnly { s with port := answeredPort s h .status .badIndex .empty } t ∧
          t.newestAnswer = some (answerTo s h .status .badIndex .empty)) := by
  have taken : exec (.status h part) s = finish s (statusRequest part.toNat (s.noteHeader h)) :=
    takeRequest_taken h .status _ s ht
  rw [taken, statusRequest, snapshot_noteHeader]
  cases snapshot s part.toNat with
  | none =>
    obtain ⟨t, he, l, ha⟩ := request_answered s (s.setPort (answeredPort s h .status .badIndex .empty)) _ rfl
    exact ⟨t, refuse_noteHeader s h .status .badIndex ▸ he, nofun, fun _ => ⟨l, ha⟩⟩
  | some v =>
    obtain ⟨t, he, l, ha⟩ := request_answered s (s.setPort (answeredPort s h .status .ok (.snapshot v))) _ rfl
    refine ⟨t, ?_, ?_, nofun⟩
    · show finish s ((s.noteHeader h).answer .status .ok (.snapshot v)).only = _
      rw [State.noteHeader_answer]
      exact he
    · rintro _ ⟨⟩
      exact ⟨l, ha⟩

/-- Settles O26: each part's snapshot is the fields as they stand. -/
theorem statusAnswersSnapshot : Obligations.StatusAnswersSnapshot := by
  unfold Obligations.StatusAnswersSnapshot
  intro s h part ht
  obtain ⟨t, he, shows, refuses⟩ := status_answers s h part ht
  refine ⟨t, he, ?_, ?_, ?_, ?_, ?_, ?_, ?_, ?_, ?_, fun hp => refuses (snapshot_none s hp)⟩ <;>
    exact fun hp => shows _ (hp ▸ rfl)

/-! ### The ANSWER beside a change of a block -/

section
variable (s : State) (h : ReqHeader) (k : ReqKind) (c : ResultCode) (d : AnswerData)

theorem setCool_answer (v : Cooling) :
    ((s.noteHeader h).setCool v).answer k c d = (s.setCool v).setPort (answeredPort s h k c d) :=
  congrArg (State.setCool · v) (s.noteHeader_answer h k c d)

theorem setLine_answer (v : Line) :
    ((s.noteHeader h).setLine v).answer k c d = (s.setLine v).setPort (answeredPort s h k c d) :=
  congrArg (State.setLine · v) (s.noteHeader_answer h k c d)
end

/-! ### The three tables (R126, R127, R175) -/

theorem ascending_of_pairwise : ∀ {l : List Nat}, l.Pairwise (· < ·) → ascending l = true
  | [], _ => rfl
  | [_], _ => rfl
  | a :: b :: l, h => by
    obtain ⟨first, rest⟩ := List.pairwise_cons.mp h
    rw [ascending, ascending_of_pairwise rest, Bool.and_true]
    exact decide_eq_true (first b List.mem_cons_self)

/-- R126: breakpoints of rising codes are read whole, their temperatures clamped. -/
theorem readCalibration_eq {points : List RawBreakpoint} (h2 : 2 ≤ points.length) (h16 : points.length ≤ 16)
    (codes : ∀ p ∈ points, p.code.toNat ≤ 1023) (rising : (points.map fun p => p.code.toNat).Pairwise (· < ·)) :
    readCalibration points =
      some (points.map fun p => (p.code.toNat, max (-400) (min 1200 p.temperature.toInt)),
        decide (∃ p ∈ points, p.temperature.toInt < -400 ∨ 1200 < p.temperature.toInt)) := by
  have fits : 2 ≤ points.length ∧ points.length ≤ 16 ∧
      (points.map fun p => p.code.toNat).all (fun c => decide (c ≤ 1023)) = true ∧
      ascending (points.map fun p => p.code.toNat) = true :=
    ⟨h2, h16, by simpa using codes, ascending_of_pairwise rising⟩
  simp only [readCalibration]
  rw [if_pos fits]
  simp only [List.map_map, List.any_map, Option.some.injEq, Prod.mk.injEq]
  refine ⟨rfl, ?_⟩
  rw [Bool.eq_iff_iff]
  simp [clampInt]

/-- The code of a WRITE whose clamping is told by a proposition. -/
theorem takenCode_decide (p : Prop) [Decidable p] : takenCode (decide p) = if p then .clamped else .ok := by
  simp [takenCode]

theorem any_readOffset (offsets : List Byte) :
    (offsets.map readOffset).any Prod.snd = decide (∃ b ∈ offsets, b.toInt < -50 ∨ 50 < b.toInt) := by
  rw [Bool.eq_iff_iff]
  simp [readOffset, clampInt]

section
variable {s : State} {h : ReqHeader}

/-- R126: a calibration WRITE that is taken. -/
theorem writeCalibration_taken {points : List RawBreakpoint} {table : List (Nat × Int)} {clamped : Bool}
    (hr : readCalibration points = some (table, clamped)) :
    writeCalibration 0 points (s.noteHeader h) =
      ((s.setCool { s.cool with calibration := table }).setPort
        (answeredPort s h .write (takenCode clamped) .empty), []) := by
  simp only [writeCalibration, hr, takenWrite, setCool_answer, State.noteHeader_cool]
  rfl

/-- R127: a channel WRITE that is taken. -/
theorem writeChannels_taken {index : Nat} {offsets : List Byte} (hi : index < 4) (hn : index + offsets.length ≤ 4) :
    writeChannels index offsets (s.noteHeader h) =
      ((s.setCool { s.cool with
          channels := putRecords s.cool.channels index (offsets.map readOffset)
            fun c r => { c with offset := r.1 } }).setPort
        (answeredPort s h .write (takenCode ((offsets.map readOffset).any Prod.snd)) .empty), []) := by
  unfold writeChannels
  rw [if_pos (indexFits_of hi hn le_rfl)]
  simp only [takenWrite, setCool_answer, State.noteHeader_cool]

/-- R175: a relay WRITE that is taken. -/
theorem writeRelays_taken {index : Nat} {rules : List Byte} (hi : index < 7) (hn : index + rules.length ≤ 7) :
    writeRelays index rules (s.noteHeader h) =
      ((s.setLine { s.line with
          stations := putRecords s.line.stations index (rules.map readRelay)
            fun st r => { st with downAllowed := r.1, upMirror := r.2 } }).setPort
        (answeredPort s h .write .ok .empty), []) := by
  unfold writeRelays
  rw [if_pos (indexFits_of hi hn le_rfl)]
  simp only [takenWrite, setLine_answer, State.noteHeader_line, takenCode]
  rfl
end

/-- Settles O31: each WRITE's own effect is its table put in place beside the ANSWER; the links alone follow it. -/
theorem calibrationChannelsRelayWritten : Obligations.CalibrationChannelsRelayWritten := by
  unfold Obligations.CalibrationChannelsRelayWritten
  intro s h ht
  refine ⟨fun points h2 h16 codes rising => ?_, fun index offsets hi hn => ?_, fun index rules hi hn => ?_⟩
  · have body := writeCalibration_taken (s := s) (h := h) (readCalibration_eq h2 h16 codes rising)
    rw [takenCode_decide] at body
    exact write_answered (c := .writeCalibrationTable h 0#8 points) ht rfl body
  · have body := writeChannels_taken (s := s) (h := h) hi hn
    rw [any_readOffset, takenCode_decide] at body
    obtain ⟨t, he, l, ha⟩ := write_answered (c := .writeChannelTable h index offsets) ht rfl body
    have hput : t.cool.channels = putRecords s.cool.channels index.toNat (offsets.map readOffset)
        fun c r => { c with offset := r.1 } := congrArg Cooling.channels l.cool
    refine ⟨t, he, fun k hk => ?_, fun k b hk hb => ?_, ?_, ha⟩ <;> rw [hput]
    · exact putRecords_outside _ _ _ _ _ (by simpa using hk)
    · rw [putRecords_at _ _ _ _ _ (readOffset b) hk (by simp [hb])]
      rfl
    · exact l
  · obtain ⟨t, he, l, ha⟩ := write_answered (c := .writeRelayTable h index rules) ht rfl
      (writeRelays_taken (s := s) (h := h) hi hn)
    refine ⟨t, _, he, fun k hk => ?_, fun k b hk hb => ?_, l, ha⟩
    · exact putRecords_outside _ _ _ _ _ (by simpa using hk)
    · rw [putRecords_at _ _ _ _ _ (readRelay b) hk (by simp [hb])]
      rfl

end Sys2Proof.Laws
end

section
/-! SUPPORT. DEFROST (R144): refused in a defrost, noted while the compressor may not stop, and heating at once from READY
(R141, R142). -/

namespace Sys2Proof.Laws
open Sys2Proof Sys2Proof.Machine

section
variable {s : State}

/-! ### The record while nothing is to be done (R138 to R141) -/

/-- In LOCKOUT, STARTING and a defrost the record acts on its timers and grants alone. -/
theorem coolAct_waits (h : s.cool.plant.phase = .lockout ∨ s.cool.plant.phase = .starting ∨
    s.cool.plant.phase = .heatWait ∨ s.cool.plant.phase = .heating ∨ s.cool.plant.phase = .drip) :
    coolAct s = (s, []) := by
  rcases h with h | h | h | h | h <;> simp only [coolAct, h] <;> rfl

theorem setDue_of_due (h : s.cool.plant.due = true) : s.setDue = s := by
  have same : { s.cool.plant with due := true } = s.cool.plant := by rw [← h]
  rw [State.setDue, same]
  rfl

/-! ### The request (R144) -/

theorem defrostRequest_busy (h : s.cool.plant.phase.defrosting = true) :
    defrostRequest s = refuse .defrost .busy s := if_pos h

/-- R144: a DEFROST taken sets defrost due, and the record acts where it was not due before. -/
theorem defrostRequest_taken {h : ReqHeader} (hp : s.cool.plant.phase.defrosting = false) :
    defrostRequest (s.noteHeader h) =
      ((s.setPort (answeredPort s h .defrost .ok .empty)).setDue, if s.cool.plant.due then [] else [.coolAct]) := by
  unfold defrostRequest
  rw [State.noteHeader_answer, State.noteHeader_cool, if_neg (by simp [hp])]
  cases hd : s.cool.plant.due with
  | true => exact congrArg (·, []) (setDue_of_due (s := s.setPort (answeredPort s h .defrost .ok .empty)) hd).symm
  | false => rfl

/-- A DEFROST taken, by what the record's action runs to. -/
theorem defrost_answered {h : ReqHeader} {w : State} (ht : s.takes h) (hp : s.cool.plant.phase.defrosting = false)
    (acts : runOut ((s.setPort (answeredPort s h .defrost .ok .empty)).setDue,
      if s.cool.plant.due then [] else [.coolAct]) = w)
    (hw : w.port = answeredPort s h .defrost .ok .empty) :
    ∃ t : State, exec (.defrost h) s = .next t ∧ LinksOnly w t ∧
      t.newestAnswer = some (answerTo s h .defrost .ok .empty) := by
  have taken : exec (.defrost h) s = finish s (defrostRequest (s.noteHeader h)) :=
    takeRequest_taken h .defrost defrostRequest s ht
  have ran : runOut (defrostRequest (s.noteHeader h)) = w := by rw [defrostRequest_taken hp, acts]
  rw [taken]
  exact finish_answered (ran ▸ .refl _) (by rw [ran, hw]; rfl)

/-- R141, R142: READY with defrost due asks for the heater, is granted it and heats. -/
theorem ready_heats_runs (hq : s.load.requests = []) (hp : s.cool.plant.phase = .ready)
    (hd : s.cool.plant.due = true) (hg : ∀ g ∈ s.load.grants, g.holder ≠ .heater) (hf : 4 ≤ s.load.free)
    (hc : s.termReached = false) :
    Runs 5 (s, [.coolAct])
      ((s.setLoad (loadGiven s.load .heater 4)).setPlant (heatedPlant s.cool.plant s.now s.settings), []) := by
  let waiting := s.setPlant { s.cool.plant with phase := .heatWait }
  have due : coolAct s = (waiting, [.load (.ask .heater)]) := by simp [coolAct, hp, hd, waiting]
  have counted : min Requester.heater.units s.load.budget = 4 := Nat.min_eq_left (hf.trans (Nat.sub_le _ _))
  have asks := ask_given_runs (s := waiting) (who := .heater) (js := []) hq hg (counted ▸ hf) rfl
  rw [show waiting.load = s.load from rfl, counted] at asks
  exact ((coolAct_runs due).trans asks).trans (heaterGiven_runs rfl hc)
end

/-- Settles O43: a DEFROST is refused in a defrost, is noted where the record does not act, and heats from READY. -/
theorem defrostCalled : Obligations.DefrostCalled := by
  unfold Obligations.DefrostCalled
  intro s h ht
  let answered := s.setPort (answeredPort s h .defrost .ok .empty)
  refine ⟨fun hp => ?_, fun hp => ?_, fun hp hd hq hg hf hc => ?_⟩
  · refine request_refused (c := .defrost h) ht rfl (defrostRequest_busy ?_)
    rcases hp with hp | hp | hp <;> rw [State.noteHeader_cool, hp] <;> rfl
  · have rests : coolAct answered.setDue = (answered.setDue, []) := by
      rcases hp with hp | hp | ⟨hp, hm⟩
      · exact coolAct_waits (.inl hp)
      · exact coolAct_waits (.inr (.inl hp))
      · exact coolAct_running_stays hp (.inl hm)
    have ends : runOut (answered.setDue, if s.cool.plant.due then [] else [.coolAct]) = answered.setDue := by
      split
      · exact runOut_nil _
      · exact (coolAct_runs rests).runOut (by decide)
    exact defrost_answered ht (by rcases hp with hp | hp | ⟨hp, -⟩ <;> rw [hp] <;> rfl) ends rfl
  · have heats := (ready_heats_runs (s := answered.setDue) hq hp rfl hg hf hc).runOut (by decide)
    rw [loadGiven_eq _ _ (l := answered.setDue.load) hq] at heats
    exact defrost_answered ht (by rw [hp]; rfl) (by rw [hd]; exact heats) rfl

end Sys2Proof.Laws
end

section
/-! SUPPORT. The heater and drip timers, the fault duty, TEMPS and the excursion timer (R135, R142, R143, R147, R152,
R158). -/

namespace Sys2Proof.Laws
open Sys2Proof Sys2Proof.Machine

section
variable {s : State}

/-! ### The heater and the drip timer (R142, R143) -/

/-- R142: heating ends in DRIP and gives its grant back. -/
theorem heaterTimer_ends {ends : Nat} (ht : s.cool.plant.heaterTimer = some ends) (hq : s.load.requests = []) :
    let u := s.advanceTo ends
    ∃ t : State, exec .heaterTimerExpiry s = .next t ∧
      LinksOnly ((u.setPlant { u.cool.plant with
        phase := .drip, heaterTimer := none, dripAt := u.now
        dripTimer := some (u.now + 1000 * s.settings.drip) }).setLoad (s.load.released .heater)) t := by
  intro u
  have expires : exec .heaterTimerExpiry s = finish s (endHeating u) := by
    show execHeaterTimerExpiry s = _
    rw [execHeaterTimerExpiry, ht]
  have load : u.load = s.load := s.advanceTo_load ends
  have settings : u.settings = s.settings := s.advanceTo_settings ends
  rw [← load] at hq ⊢
  rw [expires, ← settings]
  exact finish_runs (release_runs (js := []) hq rfl) (by decide)

/-- R143, R138: DRIP ends in READY with min off passed, else in LOCKOUT; nothing due and no demand, the record rests. -/
theorem dripTimer_ends {ends : Nat} (ht : s.cool.plant.dripTimer = some ends) (hd : s.cool.plant.due = false)
    (hz : s.cool.anyDemand = false) :
    let u := s.advanceTo ends
    ∃ t : State, exec .dripTimerExpiry s = .next t ∧
      LinksOnly (u.setPlant { u.cool.plant with
        dripTimer := none
        phase := if s.cool.plant.lastStop + 1000 * s.settings.minOff ≤ u.now then .ready else .lockout }) t := by
  intro u
  have judged : (if u.minOffPassed then PlantPhase.ready else .lockout) =
      if s.cool.plant.lastStop + 1000 * s.settings.minOff ≤ u.now then .ready else .lockout := by
    simp only [State.minOffPassed, decide_eq_true_eq, u, s.advanceTo_plant_lastStop, s.advanceTo_settings]
    rfl
  let ended := u.setPlant { u.cool.plant with dripTimer := none, phase := if u.minOffPassed then .ready else .lockout }
  have expires : exec .dripTimerExpiry s = finish s (ended, [.coolAct]) := by
    show execDripTimerExpiry s = _
    rw [execDripTimerExpiry, ht]
    rfl
  have due : ended.cool.plant.due = false := (s.advanceTo_plant_due _).trans hd
  have demand : ended.cool.anyDemand = false := by simpa [ended, u, Cooling.anyDemand] using hz
  have rests : coolAct ended = (ended, []) := by
    by_cases passed : u.minOffPassed = true
    · exact coolAct_ready_rests (if_pos passed) due demand
    · exact coolAct_waits (.inl (if_neg passed))
  rw [expires, ← judged]
  exact finish_runs (coolAct_runs rests) (by decide)

/-! ### The fault duty (R135) -/

/-- R135: a phase of the duty gives way to the other; the record does not act in the states in which it waits. -/
theorem dutyPhase_ends {z : ZoneId} {phase : DutyPhase} {ends : Nat} (hd : s.cool.zones[z].duty = some (phase, ends))
    (hp : s.cool.plant.phase = .lockout ∨ s.cool.plant.phase = .starting ∨ s.cool.plant.phase = .heatWait ∨
      s.cool.plant.phase = .heating ∨ s.cool.plant.phase = .drip) :
    let u := s.advanceTo ends
    ∃ t : State, exec (.dutyPhaseExpiry z) s = .next t ∧
      LinksOnly (u.setZone z ((s.cool.zones[z]).nextDuty u.now)) t := by
  intro u
  have expires : exec (.dutyPhaseExpiry z) s =
      finish s (u.setZone z ((u.cool.zones[z]).nextDuty u.now), [.coolAct]) := by
    show execDutyPhaseExpiry z s = _
    rw [execDutyPhaseExpiry, hd]
  rw [expires, s.advanceTo_zones]
  have phase' : (u.setZone z ((s.cool.zones[z]).nextDuty u.now)).cool.plant.phase = s.cool.plant.phase :=
    s.advanceTo_plant_phase ends
  exact finish_runs (coolAct_runs (coolAct_waits (phase' ▸ hp))) (by decide)

/-! ### TEMPS (R147) -/

/-- The three zones are the entries of the zone table. -/
theorem toList_eq_allZones {α : Type} (v : Vector α 3) : v.toList = allZones.map fun z => v[z] :=
  List.ext_getElem (by simp [allZones]) fun i hi _ => by
    have : i < 3 := by simpa using hi
    interval_cases i <;> rfl

/-- R136: the fan stands in HEATING and DRIP. -/
theorem fanOn_eq_false_iff (p : PlantPhase) : p.fanOn = false ↔ p = .heating ∨ p = .drip := by
  rw [PlantPhase.fanOn, Bool.not_eq_false', decide_eq_true_eq]

/-- R147: what a TEMPS shows of the record, of the channels' last codes and of the zones' demands. -/
theorem tempsReport_shows (s : State) :
    (tempsReport s).channels.map ChannelView.lastCode = s.cool.channels.toList.map Channel.lastCode ∧
      (tempsReport s).zones.map ZoneView.demand = s.cool.zones.toList.map Zone.demand := by
  simp [tempsReport, toList_eq_allZones]

/-! ### The excursion timer (R152, R158) -/

/-- R158: the ZONE report joins where the reserve is open, with the zone's health as it stands. -/
theorem zoneReport_joins {z : ZoneId} {k : ZoneCause} (h : s.port.reports.length < 20) :
    ∃ r : ZoneReport, .zone r ∈ (s.zoneReport z k).port.reports ∧ r.zone = z ∧ r.cause = k ∧
      r.health = (s.health[z]).state := by
  rw [State.zoneReport, State.report_open rfl h]
  exact ⟨_, List.mem_append_right _ List.mem_cons_self, rfl, rfl, rfl⟩

/-- R152, R158: the map and the health monitor with a zone held as its excursion lasts its allowance. -/
def excursionHeld (s : State) (z : ZoneId) : State :=
  (s.setHealth (s.health.set z (.held .expired))).setMap (zoneHanded s.map z .held).recompute

theorem handHealth_expired {z : ZoneId} (hm : s.map.zoneHealth[z] = .warning) (hs : s.sale.current = none) :
    s.handHealth z (.held .expired) = (excursionHeld s z, []) :=
  handHealth_idle hs (by simp [Health.state, hm])

/-- R152, R158: an excursion that lasts its allowance holds the zone, hands that to the map and reports it. -/
theorem excursion_ends {z : ZoneId} {start : Nat} (hw : s.health[z] = .warning start)
    (hm : s.map.zoneHealth[z] = .warning) (hs : s.sale.current = none) :
    ∃ t : State, exec (.excursionTimerExpiry z) s = .next t ∧
      LinksOnly ((excursionHeld (s.advanceTo (start + 60000 * s.cool.zones[z].allowance)) z).zoneReport z .expired)
        t := by
  have held := handHealth_expired (s := s.advanceTo (start + 60000 * s.cool.zones[z].allowance)) (z := z)
    ((congrArg (·.zoneHealth[z]) (s.advanceTo_map _)).trans hm) ((congrArg (·.current) (s.advanceTo_sale _)).trans hs)
  have expires : exec (.excursionTimerExpiry z) s =
      finish s (excursionHeld (s.advanceTo (start + 60000 * s.cool.zones[z].allowance)) z,
        [.zoneReport z .expired]) := by
    show execExcursionTimerExpiry z s = _
    rw [execExcursionTimerExpiry, hw]
    dsimp only [excursionEnd, minutes]
    rw [held]
    rfl
  rw [expires]
  exact finish_runs (Runs.quiet rfl) (by decide)

end

/-- Settles O60: each timer's own effect at its moment, and what the record and the health monitor make of it. -/
theorem heatDutyTempsExcursionTaken : Obligations.HeatDutyTempsExcursionTaken := by
  unfold Obligations.HeatDutyTempsExcursionTaken
  intro s
  refine ⟨fun ends ht hq => ?_, fun ends ht hd hz => ?_, fun z phase ends hd hp => ?_, ?_, fun z start hw hm hs hr => ?_⟩
  · exact heaterTimer_ends ht hq
  · have satisfied : s.cool.anyDemand = false := by
      rw [← Bool.not_eq_true, anyDemand_iff]
      rintro ⟨z, hc, hdem⟩
      rw [hz z hc] at hdem
      cases hdem
    exact dripTimer_ends ht hd satisfied
  · have h := dutyPhase_ends hd hp
    cases phase <;>
      · simp only [Zone.nextDuty, hd] at h
        exact h
  · intro u
    let taken := u.setCool { u.cool with nextTemps := s.cool.nextTemps + 60000 }
    let r := tempsReport taken
    obtain ⟨t, he, l⟩ := finish_only s (taken.report (.temps r))
    refine ⟨t, he, (LinksOnly.report taken (.temps r) rfl).trans l, fun hlen => ⟨r, l.mem_outLine ?_, ?_⟩⟩
    · rw [State.report_open (s := taken) rfl (by simpa [taken, u] using hlen)]
      exact List.mem_append_right _ List.mem_cons_self
    · obtain ⟨codes, demands⟩ := tempsReport_shows taken
      have phase : r.phase = s.cool.plant.phase := s.advanceTo_plant_phase _
      have heater : r.heater = r.phase.heaterOn := rfl
      have fan : r.fan = r.phase.fanOn := rfl
      rw [heater, fan, phase]
      refine ⟨rfl, ?_, decide_eq_true_iff, fanOn_eq_false_iff _, rfl, ?_, ?_, ?_, ?_⟩
      · exact congrArg PlantPhase.compressorOn phase
      · exact s.advanceTo_plant_due _
      · exact congrArg (u.now - ·) (s.advanceTo_plant_lastStop _)
      · exact codes.trans (congrArg (·.toList.map Channel.lastCode) (s.advanceTo_channels _))
      · exact demands.trans (congrArg (·.toList.map Zone.demand) (s.advanceTo_zones _))
  · let moment := start + 60000 * s.cool.zones[z].allowance
    let held := excursionHeld (s.advanceTo moment) z
    obtain ⟨t, he, l⟩ := excursion_ends hw hm hs
    obtain ⟨hlinked, -⟩ := zoneReport_grows held z .expired
    have hlinks := hlinked.trans l
    simp only [held, excursionHeld, s.advanceTo_health, s.advanceTo_map] at hlinks
    have hmap : t.map = (zoneHanded s.map z .held).recompute := hlinks.map
    obtain ⟨r, hmem, zone, cause, health⟩ := zoneReport_joins (s := held) (z := z) (k := .expired)
      ((congrArg (·.reports.length) (s.advanceTo_port moment)).trans_lt hr)
    refine ⟨t, he, ?_, r, l.mem_outLine hmem, zone, cause, health.trans ?_⟩
    · rw [hmap]
      exact hlinks
    · simp [held, excursionHeld, Health.state]

end Sys2Proof.Laws
end

section
/-! SUPPORT. A SAMPLE in LOCKOUT: what it makes of its zone and of the zone's health (R132, R134, R135, R150, R151, R153,
R154), and the health handed to the map (R158). -/

namespace Sys2Proof.Laws
open Sys2Proof Sys2Proof.Machine

/-! ### The zone (R134, R135) -/

section
variable (z : Zone) (before after : Channel) (now : Nat)

/-- A sample changes a zone's demand and its duty alone. -/
theorem afterSample_kept : z.afterSample before after now =
    { z with demand := (z.afterSample before after now).demand, duty := (z.afterSample before after now).duty } := by
  fun_cases Zone.afterSample z before after now with
  | case3 _ _ t _ =>
    fun_cases Zone.judge { z with duty := none } t <;> rfl
  | _ => rfl

/-- R134: the demand that a temperature makes. -/
theorem judge_demand (t : Int) : (z.judge t).demand =
    match z.mode with
    | .monitor => .satisfied
    | .chill => if z.setpoint + z.differential ≤ t then .demand else if t ≤ z.setpoint then .satisfied else z.demand := by
  fun_cases Zone.judge z t <;> simp [*]

theorem judge_duty (t : Int) : (z.judge t).duty = z.duty := by
  fun_cases Zone.judge z t <;> rfl

variable {z before after now}

/-- R132, R135: a temperature ends the duty and judges the demand. -/
theorem afterSample_temperature {code : Nat} {t : Int} (hc : after.lastCode = some code) (h1 : 15 < code)
    (h2 : code < 1008) (hs : after.status = .valid) (ht : after.temperature = some t) :
    z.afterSample before after now = ({ z with duty := none } : Zone).judge t := by
  have valid : faultClass (after.lastCode.getD 0) = none := by rw [hc]; exact faultClass_valid h1 h2
  simp only [Zone.afterSample, hs, valid, ht, if_true]

/-- R135: a channel that becomes FAULT starts the duty of a CHILL zone. -/
theorem afterSample_becomesFault (hs : after.status = .fault) (hb : before.status ≠ .fault) :
    z.afterSample before after now = if z.mode = .chill then z.startDuty now else z := by
  simp only [Zone.afterSample, hs, hb, ne_eq, not_false_eq_true, true_and]

/-- R132: a sample that makes no temperature and no change of status leaves the zone. -/
theorem afterSample_nothing {code : Nat} (hc : after.lastCode = some code)
    (h : code ≤ 15 ∨ 1008 ≤ code ∨ after.status ≠ .valid) (hb : after.status = before.status) :
    z.afterSample before after now = z := by
  cases hs : after.status with
  | fault => simp [Zone.afterSample, hs, ← hb]
  | noData => simp [Zone.afterSample, hs]
  | valid =>
    have fault : faultClass (after.lastCode.getD 0) ≠ none := by
      rw [hc, Option.getD_some, faultClass_fault (by simpa [hs] using h)]
      nofun
    simp only [Zone.afterSample, hs, if_neg fault]
end

/-! ### The health (R150, R151, R153, R154) -/

/-- R149 to R154: what a sample makes of a zone's health, `handed` where it made a temperature or changed the status. -/
def healthOnSample (h : Health) (c : Channel) (limit : Int) (now : Nat) (handed : Bool) : Health × Option ZoneCause :=
  if handed then
    match c.status with
    | .valid => match c.temperature with
      | some t => healthOnTemperature h limit t now
      | none => (h, none)
    | .fault => healthOnFault h
    | .noData => (h, none)
  else (h, none)

section
variable {h : Health} {c : Channel} {limit t : Int} {now : Nat} {handed : Bool}

/-- R150, R151, R154: a temperature handed, by the zone's health. -/
theorem healthOnSample_temperature (hh : handed = true) (hs : c.status = .valid) (ht : c.temperature = some t) :
    (healthOnSample h c limit now handed).1 = match h with
      | .proving => if t ≤ limit then .normal else .held .proveFailed
      | .normal => if t ≤ limit then .normal else .warning now
      | .warning start => if t ≤ limit then .normal else .warning start
      | .none => .none
      | .held cause => .held cause := by
  simp only [healthOnSample, hh, hs, ht, if_true]
  cases h <;> simp only [healthOnTemperature] <;> split <;> rfl

/-- R153, R154: a channel that becomes FAULT, by the zone's health. -/
theorem healthOnSample_fault (hh : handed = true) (hs : c.status = .fault) :
    (healthOnSample h c limit now handed).1 = match h with
      | .proving => .held .sensor
      | .normal => .held .sensor
      | .warning _ => .held .sensor
      | .none => .none
      | .held cause => .held cause := by
  simp only [healthOnSample, hh, hs, if_true]
  cases h <;> rfl

theorem healthOnSample_nothing (hh : handed = false) : (healthOnSample h c limit now handed).1 = h := by
  rw [healthOnSample, if_neg (by simp [hh])]
end

/-- R132: a sample is handed to the health monitor where it made a temperature or changed the status. -/
def sampleHanded (before after : Channel) (code : Nat) : Bool :=
  decide (faultClass code = none) && decide (after.status = .valid) || decide (before.status ≠ after.status)

section
variable {before after : Channel} {code : Nat}

theorem sampleHanded_temperature (h1 : 15 < code) (h2 : code < 1008) (hs : after.status = .valid) :
    sampleHanded before after code = true := by
  simp [sampleHanded, faultClass_valid h1 h2, hs]

theorem sampleHanded_change (h : after.status ≠ before.status) : sampleHanded before after code = true := by
  simp [sampleHanded, h.symm]

theorem sampleHanded_nothing (h : code ≤ 15 ∨ 1008 ≤ code ∨ after.status ≠ .valid)
    (hb : after.status = before.status) : sampleHanded before after code = false := by
  have unmade : faultClass code ≠ none ∨ after.status ≠ .valid := by
    rcases or_assoc.mpr h with h | h
    · exact .inl (by rw [faultClass_fault h]; nofun)
    · exact .inr h
  rw [hb] at unmade
  rcases unmade with h | h <;> simp [sampleHanded, h, hb]
end

/-- R158: the map as a zone's health is handed to it, recomputed where that is another. -/
def healthHanded (m : SelMap) (z : ZoneId) (h : HealthState) : SelMap :=
  if h = m.zoneHealth[z] then m else (zoneHanded m z h).recompute

theorem healthHanded_eq (m : SelMap) (z : ZoneId) (h : HealthState) : healthHanded m z h =
    { m with zoneHealth := m.zoneHealth.set z h
             pMin := if h = m.zoneHealth[z] then m.pMin else (healthHanded m z h).lowest } := by
  by_cases same : h = m.zoneHealth[z]
  · have kept : m.zoneHealth.set z h = m.zoneHealth := by rw [same]; exact Vector.set_getElem_self ..
    rw [if_pos same, kept, healthHanded, if_pos same]
  · rw [if_neg same, healthHanded, if_neg same]
    rfl

section
variable {s : State} {z : ZoneId}

theorem handHealth_saleIdle (h : Health) (hs : s.sale.current = none) :
    s.handHealth z h =
      ((s.setHealth (s.health.set z h)).setMap (healthHanded s.map z h.state), []) := by
  by_cases same : h.state = s.map.zoneHealth[z]
  · rw [State.handHealth, if_pos same, healthHanded, if_pos same]
    rfl
  · rw [handHealth_idle hs same, healthHanded, if_neg same]

/-- R149, R158: the health monitor takes a sample while the sale unit is IDLE: the record, the map, and at most a ZONE
report. -/
theorem healthSample_runs (handed : Bool) (cause : Option ZoneCause) (hs : s.sale.current = none) :
    let h := (healthOnSample s.health[z] s.cool.channels[zoneChannel z] (s.cool.zones[z]).healthLimit s.now handed).1
    ∃ w k, k ≤ 2 ∧ Runs k (s, [.healthSample z handed cause]) (w, []) ∧
      LinksOnly ((s.setHealth (s.health.set z h)).setMap (healthHanded s.map z h.state)) w := by
  intro h
  let r := healthOnSample s.health[z] s.cool.channels[zoneChannel z] (s.cool.zones[z]).healthLimit s.now handed
  have taken : runOne (.healthSample z handed cause) s = (match r.2.or cause with
      | some k => ((s.handHealth z h).1, (s.handHealth z h).2 ++ [.zoneReport z k])
      | none => s.handHealth z h) := rfl
  rw [handHealth_saleIdle h hs] at taken
  cases hc : r.2.or cause with
  | none =>
    rw [hc] at taken
    exact ⟨_, 1, by decide, Runs.quiet taken, .refl _⟩
  | some k =>
    rw [hc] at taken
    exact ⟨_, 1 + 1, le_rfl, (Runs.step taken).trans (Runs.quiet rfl), (zoneReport_grows _ z k).1⟩

/-! ### The sample taken (R128, R132) -/

/-- R132, R146: the cause of a ZONE report that a sample's change of status or of the LIMIT mark gives. -/
def sampleCause (before after : Channel) : Option ZoneCause :=
  if before.status ≠ after.status then some .channel
  else if before.limitMark ≠ after.limitMark then some .limit
  else none

/-- R132: a sample of a zone's channel reaches the channel and the zone, then the record and the health monitor. -/
theorem takeSample_zone (s : State) (z : ZoneId) (code : Nat) :
    let before := s.cool.channels[zoneChannel z]
    let after := before.sample s.cool.calibration code
    takeSample (zoneChannel z) code s =
      ((s.setChannel (zoneChannel z) after).setZone z ((s.cool.zones[z]).afterSample before after s.now),
        [.coolAct, .healthSample z (sampleHanded before after code) (sampleCause before after)]) := by
  simp only [takeSample]
  rw [dif_pos (show (zoneChannel z).val < 3 from z.isLt)]
  rfl

/-- In LOCKOUT and while the sale unit is IDLE, a sample's own effect and what it hands on: its channel, its zone and its
zone's health. -/
theorem takeSample_links {code : Nat} (hp : s.cool.plant.phase = .lockout) (hs : s.sale.current = none) :
    let before := s.cool.channels[zoneChannel z]
    let after := before.sample s.cool.calibration code
    let health := (healthOnSample s.health[z] after (s.cool.zones[z]).healthLimit s.now
      (sampleHanded before after code)).1
    LinksOnly ((((s.setChannel (zoneChannel z) after).setZone z
        ((s.cool.zones[z]).afterSample before after s.now)).setHealth (s.health.set z health)).setMap
          (healthHanded s.map z health.state))
      (runOut (takeSample (zoneChannel z) code s)) := by
  intro before after health
  let taken := (s.setChannel (zoneChannel z) after).setZone z ((s.cool.zones[z]).afterSample before after s.now)
  have waits : runOne .coolAct taken = (taken, []) := coolAct_waits (.inl hp)
  have limit : (taken.cool.zones[z]).healthLimit = (s.cool.zones[z]).healthLimit := by
    simp only [taken, State.setZone_cool, State.setChannel_cool, Fin.getElem_fin, Vector.getElem_set_self]
    rw [afterSample_kept]
  have channel : taken.cool.channels[zoneChannel z] = after := by
    simp only [taken, State.setZone_cool, State.setChannel_cool, Fin.getElem_fin, Vector.getElem_set_self]
  obtain ⟨w, k, hk, runs, links⟩ :=
    healthSample_runs (s := taken) (z := z) (sampleHanded before after code) (sampleCause before after) hs
  rw [channel, limit] at links
  rw [takeSample_zone, ((Runs.quiet waits).trans runs).runOut (by omega)]
  exact links

end

/-- R132: in LOCKOUT a sample of the evaporator reaches its channel alone. -/
theorem takeSample_evaporator_runs {s : State} {code : Nat} (hp : s.cool.plant.phase = .lockout) :
    Runs 2 (takeSample evaporator code s)
      (s.setChannel evaporator ((s.cool.channels[evaporator]).sample s.cool.calibration code), []) := by
  let taken := s.setChannel evaporator ((s.cool.channels[evaporator]).sample s.cool.calibration code)
  have unheated : runOne .heatTest taken = (taken, []) := if_neg fun h => by
    have phase : taken.cool.plant.phase = .heating := h.1
    exact absurd (hp.symm.trans phase) (by decide)
  have waits : runOne .coolAct taken = (taken, []) := coolAct_waits (.inl hp)
  exact (Runs.quiet unheated).trans (Runs.quiet waits)

/-- The state after a sample as the claim spells it: the channel, the next sample, the zone, its health and the map. -/
theorem sampled_links {u t : State} {c : Cooling} {ch : ChannelId} {z : ZoneId} {next : Vector Nat 4} {new : Channel}
    {zone : Zone} {hs : Vector Health 3} {h st : HealthState} {m : SelMap} (same : m.zoneHealth[z] = st)
    (l : LinksOnly (((((u.setCool { c with nextSample := next }).setChannel ch new).setZone z zone).setHealth hs).setMap
      (healthHanded m z h)) t) :
    LinksOnly { u with
      cool := { c with channels := c.channels.set ch new, nextSample := next, zones := c.zones.set z zone }
      health := hs
      map := { m with zoneHealth := m.zoneHealth.set z h
                      pMin := if h = st then m.pMin else t.map.lowest } } t := by
  have hmap : t.map = healthHanded m z h := l.map
  have shown : healthHanded m z h =
      { m with zoneHealth := m.zoneHealth.set z h, pMin := if h = st then m.pMin else t.map.lowest } := by
    rw [hmap, ← same]
    exact healthHanded_eq m z h
  rw [shown] at l
  simp only [State.setMap, State.setHealth, State.setZone, State.setChannel, State.setCool] at l
  exact l

/-- At a channel's sample time in LOCKOUT: the clock moves on, and the next sample follows 1 s after (R128). -/
def sampleMoment (s : State) (ch : ChannelId) : State :=
  (s.advanceTo s.cool.nextSample[ch]).setCool
    { s.cool with nextSample := s.cool.nextSample.set ch (s.cool.nextSample[ch] + 1000) }

theorem exec_sample {s : State} (ch : ChannelId) (code : Fin 1024) (hp : s.cool.plant.phase = .lockout) :
    exec (.sample ch code) s = finish s (takeSample ch code.val (sampleMoment s ch)) := by
  have off : (s.advanceTo s.cool.nextSample[ch]).cool = s.cool := advanceTo_cool_off _ (by rw [hp]; rfl)
  show execSample ch code s = _
  simp only [execSample]
  rw [off]
  rfl

/-- Settles O58: the sample's own effect on its channel, its zone and its zone's health, at its moment. -/
theorem sampleTaken : Obligations.SampleTaken := by
  unfold Obligations.SampleTaken
  intro s ch code hp hs
  have idle : (sampleMoment s ch).sale.current = none := (congrArg (·.current) (s.advanceTo_sale _)).trans hs
  refine ⟨fun hch => ?_, fun z hz same => ?_⟩
  · obtain rfl : ch = evaporator := Fin.ext hch
    rw [exec_sample _ code hp]
    exact finish_runs (takeSample_evaporator_runs (s := sampleMoment s evaporator) hp) (by decide)
  · obtain rfl : ch = zoneChannel z := Fin.ext hz
    let u := s.advanceTo s.cool.nextSample[zoneChannel z]
    let taken := sampleMoment s (zoneChannel z)
    obtain ⟨t, he, l⟩ := finish_links s (takeSample (zoneChannel z) code.val taken)
    let old := s.cool.channels[zoneChannel z]
    let new := old.sample s.cool.calibration code.val
    let zone := (s.cool.zones[z]).afterSample old new u.now
    let health := (healthOnSample s.health[z] new (s.cool.zones[z]).healthLimit u.now
      (sampleHanded old new code.val)).1
    have links := (takeSample_links (s := taken) (z := z) (code := code.val) hp idle).trans l
    rw [show taken.health = s.health from s.advanceTo_health _, show taken.map = s.map from s.advanceTo_map _] at links
    obtain ⟨-, last, -⟩ := channelTakesSample old s.cool.calibration code.val
    refine ⟨t, zone, health, (exec_sample _ code hp).trans he, ?_, afterSample_kept _ _ _ _, fun temp h1 h2 valid made => ?_,
      fun fault sound => ⟨fun chill => ?_, fun monitor => ?_, ?_⟩, fun unmade kept =>
        ⟨afterSample_nothing last unmade kept, ?_⟩⟩
    · exact sampled_links same links
    · have judged : zone = _ := afterSample_temperature last h1 h2 valid made
      rw [judged, judge_duty, judge_demand]
      exact ⟨rfl, rfl, healthOnSample_temperature (sampleHanded_temperature h1 h2 valid) valid made⟩
    · have starts : zone = _ := (afterSample_becomesFault fault sound).trans (if_pos chill)
      rw [starts]
      exact ⟨rfl, rfl⟩
    · have resting : (s.cool.zones[z]).mode ≠ .chill := fun chill => absurd (monitor.symm.trans chill) (by decide)
      exact (afterSample_becomesFault fault sound).trans (if_neg resting)
    · exact healthOnSample_fault (sampleHanded_change fun kept => sound (kept ▸ fault)) fault
    · exact healthOnSample_nothing (sampleHanded_nothing unmade kept)

end Sys2Proof.Laws
end

section
/-! SUPPORT. The zone WRITE in LOCKOUT (R133), with the zone's health by R156's table and R157's conflict. -/

namespace Sys2Proof.Laws
open Sys2Proof Sys2Proof.Machine

/-! ### Reading the record (R133, R157, R177) -/

/-- The record of a zone as a WRITE reads it, each number clamped. -/
def zoneOf (r : RawZone) (mode : ZoneMode) : Zone where
  mode := mode
  setpoint := max (-50) (min 150 r.setpoint.toInt)
  differential := max 5 (min 50 r.differential.toNat)
  healthFlag := decide (r.healthFlag ≠ 0#8)
  healthLimit := max (-20) (min 100 r.healthLimit.toInt)
  allowance := max 10 (min 240 r.allowance.toNat)
  demand := .satisfied
  duty := none

/-- R133, R177: a zone record of a named mode is read, and was clamped where a number is not as it stands. -/
theorem readZone_eq {r : RawZone} {mode : ZoneMode} (hm : r.mode = 0#8 ∧ mode = .monitor ∨ r.mode = 1#8 ∧ mode = .chill) :
    ∃ clamped, readZone r = some (zoneOf r mode, clamped) ∧
      (takenCode clamped = .ok ↔ (zoneOf r mode).setpoint = r.setpoint.toInt ∧
        (zoneOf r mode).differential = r.differential.toNat ∧ (zoneOf r mode).healthLimit = r.healthLimit.toInt ∧
        (zoneOf r mode).allowance = r.allowance.toNat) := by
  have named : r.mode.toNat < 2 ∧ (if r.mode = 0#8 then ZoneMode.monitor else .chill) = mode := by
    rcases hm with ⟨hr, rfl⟩ | ⟨hr, rfl⟩ <;> rw [hr] <;> decide
  obtain ⟨hlt, rfl⟩ := named
  refine ⟨_, if_pos hlt, ?_⟩
  have ok (b : Bool) : takenCode b = .ok ↔ b = false := by cases b <;> simp [takenCode]
  simp only [ok, Bool.or_eq_false_iff, clampInt_kept (by decide : (-50 : Int) ≤ 150), clampNat_kept (by decide : 5 ≤ 50),
    clampInt_kept (by decide : (-20 : Int) ≤ 100), clampNat_kept (by decide : 10 ≤ 240), and_assoc]
  rfl

/-! ### The zone judged again (R133) -/

section
variable {z : Zone} {c : Channel} {now : Nat}

/-- R133: a WRITE's judgement changes a zone's demand and its duty alone. -/
theorem rejudge_kept (z : Zone) (c : Channel) (now : Nat) : z.rejudge c now =
    { z with demand := (z.rejudge c now).demand, duty := (z.rejudge c now).duty } := by
  fun_cases Zone.rejudge z c now with
  | case2 _ _ t _ => fun_cases Zone.judge z t <;> rfl
  | _ => rfl

theorem rejudge_monitor (hm : z.mode = .monitor) :
    (z.rejudge c now).demand = .satisfied ∧ (z.rejudge c now).duty = none := by
  simp [Zone.rejudge, hm]

theorem rejudge_noData (hm : z.mode = .chill) (hc : c.status = .noData) : (z.rejudge c now).demand = .satisfied := by
  simp [Zone.rejudge, hm, hc]

theorem rejudge_valid {t : Int} (hm : z.mode = .chill) (hc : c.status = .valid) (ht : c.temperature = some t) :
    z.rejudge c now = z.judge t := by
  simp only [Zone.rejudge, hm, hc, ht]

/-- R135: a CHILL zone of a FAULT channel starts its duty, or goes on with the one that runs. -/
theorem rejudge_fault (hm : z.mode = .chill) (hc : c.status = .fault) :
    z.rejudge c now = if z.duty.isSome then z else z.startDuty now := by
  simp only [Zone.rejudge, hm, hc]

theorem rejudge_duty (hm : z.mode = .chill) (hc : c.status ≠ .fault) : (z.rejudge c now).duty = z.duty := by
  fun_cases Zone.rejudge z c now with
  | case1 h => rw [hm] at h; cases h
  | case2 _ _ t _ => exact judge_duty z t
  | case4 _ h | case5 _ h => exact absurd h hc
  | case3 | case6 => rfl

/-! ### The health (R156) -/

/-- R156: a zone's health after a WRITE, by the health flag before and after it. -/
theorem healthAfterWrite_fst (h : Health) (before after : Zone) :
    (healthAfterWrite h before after c now).1 =
      match before.healthFlag, after.healthFlag with
      | false, false => h
      | true, false => .none
      | false, true => if c.status = .fault then .held .sensor else .proving
      | true, true =>
        if before.healthLimit = after.healthLimit ∧ before.allowance = after.allowance then h
        else match (if c.status = .valid then c.temperature else none), h with
          | some t, .normal => if t ≤ after.healthLimit then .normal else .warning now
          | some t, .warning start =>
            if t ≤ after.healthLimit then .normal
            else if start + 60000 * after.allowance ≤ now then .held .expired
            else .warning start
          | _, same => same := by
  have reading : c.reading = if c.status = .valid then c.temperature else none := by
    cases hs : c.status <;> simp [Channel.reading, hs]
  unfold healthAfterWrite
  rw [← reading]
  generalize before.healthFlag = was, after.healthFlag = is
  match was, is with
  | false, false => rfl
  | true, false => rfl
  | false, true =>
    dsimp only
    split <;> rfl
  | true, true =>
    dsimp only
    split
    · rfl
    · cases c.reading with
      | none => rfl
      | some t =>
        cases h with
        | normal =>
          simp only [healthRejudge, apply_ite Prod.fst]
        | warning start =>
          simp only [healthRejudge, apply_ite Prod.fst]
          rfl
        | none | proving | held => rfl

end

/-! ### The WRITE (R133, R156, R157) -/

section
variable {s : State} {z : ZoneId}

/-- R156, R158: one written zone's health, handed to the map while the sale unit is IDLE, then its ZONE report. -/
theorem healthWrite_one_runs (h : Health) (k : ZoneCause) (hs : s.sale.current = none) :
    Runs 2 (s, [.healthWrite [(z, h, k)]])
      (((s.setHealth (s.health.set z h)).setMap (zoneHanded s.map z h.state).recompute).zoneReport z k, []) := by
  have written : runOne (.healthWrite [(z, h, k)]) s =
      ((s.setHealth (s.health.set z h)).setMap (zoneHanded s.map z h.state).recompute, [.zoneReport z k]) := by
    show healthWrite [(z, h, k)] s = _
    simp only [healthWrite, List.foldl_cons, List.foldl_nil, List.map_cons, List.map_nil]
    rw [takeMap_idle (s := s.setHealth (s.health.set z h)) _ hs]
    rfl
  exact (Runs.step written).trans (Runs.quiet rfl)

/-- R133: the zone as the WRITE leaves it. -/
def writtenZone (s : State) (z : ZoneId) (r : RawZone) (mode : ZoneMode) : Zone :=
  ((s.cool.zones[z]).written (zoneOf r mode)).rejudge s.cool.channels[zoneChannel z] s.now

theorem writtenZone_eq (s : State) (z : ZoneId) (r : RawZone) (mode : ZoneMode) : writtenZone s z r mode =
    { zoneOf r mode with demand := (writtenZone s z r mode).demand, duty := (writtenZone s z r mode).duty } :=
  rejudge_kept _ _ _

/-- R156: the zone's health as the WRITE leaves it, with the cause of its ZONE report. -/
def healthWritten (s : State) (z : ZoneId) (r : RawZone) (mode : ZoneMode) : Health × Option ZoneCause :=
  healthAfterWrite s.health[z] s.cool.zones[z] (writtenZone s z r mode) s.cool.channels[zoneChannel z] s.now

theorem writtenZones_one : ∀ z : ZoneId, writtenZones z.val 1 = [z] := by decide

theorem zoneConflict_one (s : State) (r : RawZone) (mode : ZoneMode) : zoneConflict s [zoneOf r mode] = true ↔
    decide (r.healthFlag ≠ 0#8) = true ∧
      max 10 (min 240 r.allowance.toNat) * 60 ≤ s.settings.heaterMax * 60 + s.settings.drip := by
  simp [zoneConflict, conflicts, zoneOf]

/-- R157: a WRITE in conflict is refused. -/
theorem writeZones_conflict {r : RawZone} {mode : ZoneMode} {clamped : Bool}
    (hr : readZone r = some (zoneOf r mode, clamped)) (hc : zoneConflict s [zoneOf r mode] = true) :
    writeZones z.val [r] s = refuse .write .conflict s := by
  unfold writeZones
  rw [if_pos (indexFits_of z.isLt z.isLt le_rfl), readAll_singleton hr]
  exact if_pos hc

/-- R133: a WRITE that is taken: the zone put in place and judged again beside the ANSWER, then the record and the
health monitor. -/
theorem writeZones_taken {h : ReqHeader} {r : RawZone} {mode : ZoneMode} {clamped : Bool}
    (hr : readZone r = some (zoneOf r mode, clamped)) (hc : ¬ zoneConflict s [zoneOf r mode] = true) :
    writeZones z.val [r] (s.noteHeader h) =
      ((s.setCool { s.cool with zones := s.cool.zones.set z (writtenZone s z r mode) }).setPort
          (answeredPort s h .write (takenCode clamped) .empty),
        [.coolAct, .healthWrite [(z, (healthWritten s z r mode).1, (healthWritten s z r mode).2.getD .write)]]) := by
  unfold writeZones
  rw [if_pos (indexFits_of z.isLt z.isLt le_rfl), readAll_singleton hr]
  have calm : ¬ zoneConflict (s.noteHeader h) [zoneOf r mode] = true := by simpa [zoneConflict] using hc
  dsimp only
  rw [if_neg calm]
  simp only [List.length_singleton, writtenZones_one, List.foldl_cons, List.foldl_nil, List.map_cons, List.map_nil,
    putRecords_single, State.noteHeader_cool, State.noteHeader_now, takenWrite, setCool_answer]
  have put : (s.cool.zones.set z ((s.cool.zones[z]).written (zoneOf r mode))).set z
      (((s.cool.zones.set z ((s.cool.zones[z]).written (zoneOf r mode)))[z]).rejudge
        s.cool.channels[zoneChannel z] s.now) = s.cool.zones.set z (writtenZone s z r mode) := by
    simp [writtenZone]
  have health : writtenHealth (s.noteHeader h)
      ((s.noteHeader h).setCool { s.cool with zones := s.cool.zones.set z (writtenZone s z r mode) }) z =
      (z, (healthWritten s z r mode).1, (healthWritten s z r mode).2.getD .write) := by
    simp [writtenHealth, healthWritten]
  rw [put, health]
/-- R156, R158: the state with a written zone and its health, handed to the map. -/
def zoneTaken (s : State) (z : ZoneId) (zone : Zone) (health : Health) (port : Port) : State :=
  ((((s.setCool { s.cool with zones := s.cool.zones.set z zone }).setPort port).setHealth
    (s.health.set z health)).setMap (zoneHanded s.map z health.state).recompute)

/-- R133, R156: a zone WRITE taken in LOCKOUT while the sale unit is IDLE. -/
theorem writeZone_answered {h : ReqHeader} {index : Byte} {r : RawZone} {mode : ZoneMode} {clamped : Bool}
    (ht : s.takes h) (hi : index.toNat = z.val) (hs : s.sale.current = none) (hp : s.cool.plant.phase = .lockout)
    (hr : readZone r = some (zoneOf r mode, clamped)) (hc : ¬ zoneConflict s [zoneOf r mode] = true) :
    ∃ t : State, exec (.writeZoneTable h index [r]) s = .next t ∧
      LinksOnly (zoneTaken s z (writtenZone s z r mode) (healthWritten s z r mode).1
        (answeredPort s h .write (takenCode clamped) .empty)) t ∧
      t.newestAnswer = some (answerTo s h .write (takenCode clamped) .empty) := by
  let port := answeredPort s h .write (takenCode clamped) .empty
  let put := (s.setCool { s.cool with zones := s.cool.zones.set z (writtenZone s z r mode) }).setPort port
  let taken := zoneTaken s z (writtenZone s z r mode) (healthWritten s z r mode).1 port
  obtain ⟨k, body⟩ : ∃ k, writeZones index.toNat [r] (s.noteHeader h) =
      (put, [.coolAct, .healthWrite [(z, (healthWritten s z r mode).1, k)]]) := by
    rw [hi]
    exact ⟨_, writeZones_taken hr hc⟩
  have waits : runOne .coolAct put = (put, []) := coolAct_waits (.inl hp)
  have ran : runOut (writeZones index.toNat [r] (s.noteHeader h)) = taken.zoneReport z k := by
    rw [body]
    exact ((Runs.quiet waits).trans (healthWrite_one_runs _ k hs)).runOut (by decide)
  obtain ⟨linked, grown⟩ := zoneReport_grows taken z k
  obtain ⟨t, he, answered⟩ := finish_answered (before := s)
    (o := writeZones index.toNat [r] (s.noteHeader h)) (ran ▸ linked) (ran ▸ grown.slot)
  exact ⟨t, (takeRequest_taken h .write _ s ht).trans he, answered⟩
end

/-- Settles O32: a conflict refuses; else the zone is put in place and judged, and its health follows R156's table. -/
theorem zoneWritten : Obligations.ZoneWritten := by
  unfold Obligations.ZoneWritten
  intro s h z index r mode ht hi hs hp hm old ch allowance flag
  obtain ⟨clamped, hr, hok⟩ := readZone_eq hm
  refine ⟨fun on low => ?_, fun free => ?_⟩
  · refine write_refused (c := .writeZoneTable h index [r]) ht rfl ?_
    rw [hi]
    exact writeZones_conflict hr ((zoneConflict_one _ r mode).mpr ⟨on, by simpa using low⟩)
  · have calm : ¬ zoneConflict s [zoneOf r mode] = true := fun hc => by
      obtain ⟨on, low⟩ := (zoneConflict_one s r mode).mp hc
      exact absurd (free on) (Nat.not_lt.mpr low)
    obtain ⟨t, he, links, answer⟩ := writeZone_answered ht hi hs hp hr calm
    let zone := writtenZone s z r mode
    have fields : zone = { zoneOf r mode with demand := zone.demand, duty := zone.duty } := writtenZone_eq s z r mode
    have chill (hc : mode = .chill) : (old.written (zoneOf r mode)).mode = .chill := hc
    refine ⟨t, takenCode clamped, zone, he, ?_, ?_, congrArg Zone.mode fields, congrArg Zone.setpoint fields,
      congrArg Zone.differential fields, congrArg Zone.healthFlag fields, congrArg Zone.healthLimit fields,
      congrArg Zone.allowance fields, fun hc => rejudge_monitor hc, fun hc hn => rejudge_noData (chill hc) hn,
      fun hc hn => rejudge_duty (chill hc) hn, fun hc hf hd => ?_, fun hc hf hd => ?_, fun hc hv temp htemp => ?_, ?_,
      answer⟩
    · cases clamped <;> simp [takenCode]
    · rw [hok, fields]
    · have starts : zone = _ := (rejudge_fault (chill hc) hf).trans (if_neg (by simpa [Zone.written] using hd))
      rw [starts]
      exact ⟨rfl, rfl⟩
    · have kept : zone = _ := (rejudge_fault (chill hc) hf).trans
        (if_pos (by simpa [Zone.written, Option.isSome_iff_ne_none] using hd))
      rw [kept]
      exact ⟨rfl, rfl⟩
    · have made : zone = _ := rejudge_valid (chill hc) hv htemp
      have demand : zone.demand = _ := (congrArg Zone.demand made).trans (judge_demand _ temp)
      rw [congrArg Zone.setpoint fields, congrArg Zone.differential fields, demand, chill hc]
      rfl
    · intro stated
      have same : stated = (healthWritten s z r mode).1 := by
        have table := healthAfterWrite_fst (c := ch) (now := s.now) s.health[z] old zone
        rw [congrArg Zone.healthFlag fields] at table
        exact table.symm
      have hmap : t.map = (zoneHanded s.map z (healthWritten s z r mode).1.state).recompute := links.map
      rw [same, hmap]
      exact links

end Sys2Proof.Laws
end

section
/-! SUPPORT. The line queue's three bounds (R173): which changes of the queue keep them, and what the shared operations
make of the queue. -/

namespace Sys2Proof.Laws
open Sys2Proof Sys2Proof.Machine

/-! ### The three bounds of a queue (R173) -/

/-- R173: two entries that may not stand together: of one station, and of one kind of which it has at most one. -/
def Clash (a b : QueueEntry) : Prop :=
  a.station = b.station ∧ a.request.kind = b.request.kind ∧ a.request.kind.single = true

/-- R173, of a queue. -/
structure QueueFits (q : List QueueEntry) : Prop where
  short : q.length ≤ 16
  relays : (q.filter QueueEntry.isRelay).length ≤ 8
  apart : q.Pairwise fun a b => ¬ Clash a b

theorem lineQueueBounded_iff (s : State) : LineQueueBounded s ↔ QueueFits s.line.queue :=
  ⟨fun ⟨hs, hr, ha⟩ => ⟨hs, hr, ha⟩, fun ⟨hs, hr, ha⟩ => ⟨hs, hr, ha⟩⟩

theorem queueFits_nil : QueueFits [] := ⟨Nat.zero_le _, Nat.zero_le _, .nil⟩

/-- Taking entries away keeps the bounds. -/
theorem QueueFits.sublist {q q' : List QueueEntry} (h : QueueFits q) (hs : q'.Sublist q) : QueueFits q' :=
  ⟨hs.length_le.trans h.short, (hs.filter _).length_le.trans h.relays, h.apart.sublist hs⟩

@[simp] theorem QueueFits.filter {q : List QueueEntry} (h : QueueFits q) (p : QueueEntry → Bool) :
    QueueFits (q.filter p) := h.sublist List.filter_sublist

/-- An entry joins where there is room for it, and no entry it may not stand beside. -/
theorem QueueFits.append {q : List QueueEntry} {e : QueueEntry} (h : QueueFits q) (hs : q.length < 16)
    (hr : e.isRelay = true → (q.filter QueueEntry.isRelay).length < 8) (ha : ∀ a ∈ q, ¬ Clash a e) :
    QueueFits (q ++ [e]) where
  short := by rw [List.length_append, List.length_singleton]; omega
  relays := by
    have hq := h.relays
    rw [List.filter_append, List.length_append]
    cases he : e.isRelay with
    | true =>
      have := hr he
      simp [he]
      omega
    | false => simpa [he] using hq
  apart := List.pairwise_append.mpr ⟨h.apart, List.pairwise_singleton _ _, fun a ha' b hb => by
    rw [List.mem_singleton.mp hb]
    exact ha a ha'⟩

/-! ### A frame handed by an owner (R173) -/

/-- Rewriting is of no relayed kind, and of a kind of which a station has one entry for the same kind alone. -/
theorem rewrites_kinds {new old : LineKind} (h : new.rewrites old = true) :
    new.isRelayed = false ∧ old.isRelayed = false ∧ (new = old ∨ new.single = false) := by
  revert h
  fun_cases LineKind.rewrites new old <;> simp [LineKind.isRelayed, LineKind.single]

theorem single_rewrites {k : LineKind} (h : k.single = true) : k.rewrites k = true := by
  revert h
  cases k <;> simp [LineKind.rewrites, LineKind.single]

/-- Nothing but what stood beside the entry rewritten stands beside the entry it became. -/
theorem not_clash_rewritten {a e : QueueEntry} {r : LineRequest} (h : r.kind.rewrites e.request.kind = true)
    (ha : ¬ Clash a e) : ¬ Clash a { e with request := r } := by
  rintro ⟨hst, hk, hs⟩
  obtain ⟨-, -, hsame | hmany⟩ := rewrites_kinds h
  · exact ha ⟨hst, hk.trans hsame, hs⟩
  · rw [hk] at hs
    exact absurd hs (by simp [hmany])

theorem Clash.symm {a b : QueueEntry} (h : Clash a b) : Clash b a := by
  obtain ⟨hst, hk, hs⟩ := h
  exact ⟨hst.symm, hk.symm, hk ▸ hs⟩

/-- Rewriting an entry keeps the queue's length, its relay entries and what may stand together. -/
theorem rewriteEntry_fits {st : StationId} {r : LineRequest} : ∀ {q q' : List QueueEntry},
    rewriteEntry st r q = some q' → (∀ a, (∀ e ∈ q, ¬ Clash a e) → ∀ e ∈ q', ¬ Clash a e) ∧
      q'.length = q.length ∧ q'.filter QueueEntry.isRelay = q.filter QueueEntry.isRelay ∧
      (q.Pairwise (fun a b => ¬ Clash a b) → q'.Pairwise fun a b => ¬ Clash a b)
  | [], _, h => by cases h
  | e :: es, q', h => by
    rw [rewriteEntry] at h
    split at h
    · rename_i hc
      obtain rfl : _ :: es = q' := Option.some.inj h
      obtain ⟨-, hw⟩ := hc
      obtain ⟨hnew, hold, -⟩ := rewrites_kinds hw
      refine ⟨fun a ha b hb => ?_, rfl, by simp [QueueEntry.isRelay, hnew, hold], fun hp => ?_⟩
      · rcases List.mem_cons.mp hb with rfl | hb
        · exact not_clash_rewritten hw (ha e List.mem_cons_self)
        · exact ha b (List.mem_cons_of_mem _ hb)
      · obtain ⟨he, hes⟩ := List.pairwise_cons.mp hp
        refine List.pairwise_cons.mpr ⟨fun b hb hcl => ?_, hes⟩
        exact not_clash_rewritten hw (fun h => he b hb h.symm) hcl.symm
    · obtain ⟨es', hes, rfl⟩ := Option.map_eq_some_iff.mp h
      obtain ⟨hfree, hlen, hrel, hpair⟩ := rewriteEntry_fits hes
      refine ⟨fun a ha b hb => ?_, by simp [hlen], by simp [List.filter_cons, hrel], fun hp => ?_⟩
      · rcases List.mem_cons.mp hb with rfl | hb
        · exact ha _ List.mem_cons_self
        · exact hfree a (fun x hx => ha x (List.mem_cons_of_mem _ hx)) b hb
      · obtain ⟨he, hes⟩ := List.pairwise_cons.mp hp
        exact List.pairwise_cons.mpr ⟨hfree e he, hpair hes⟩

/-- Where nothing is rewritten, no entry stands beside which the frame's may not. -/
theorem not_clash_of_rewriteEntry {st : StationId} {r : LineRequest} : ∀ {q : List QueueEntry},
    rewriteEntry st r q = none → ∀ a ∈ q, ¬ Clash a { station := st, request := r }
  | [], _ => nofun
  | e :: es, h => by
    rw [rewriteEntry] at h
    split at h
    · cases h
    · rename_i hc
      intro a ha hcl
      rcases List.mem_cons.mp ha with rfl | ha
      · obtain ⟨hst, hk, hs⟩ := hcl
        exact hc ⟨hst, by rw [← show a.request.kind = r.kind from hk]; exact single_rewrites hs⟩
      · exact not_clash_of_rewriteEntry (Option.map_eq_none_iff.mp h) a ha hcl

/-- Making room takes one entry away (R173). -/
theorem dropNewestRelay_sublist : ∀ {q : List QueueEntry} {p : QueueEntry × List QueueEntry},
    dropNewestRelay q = some p → p.2.Sublist q ∧ p.2.length + 1 = q.length
  | [], _, h => by cases h
  | e :: es, p, h => by
    rw [dropNewestRelay] at h
    split at h
    · rename_i p' hp
      obtain rfl := Option.some.inj h
      obtain ⟨hsub, hlen⟩ := dropNewestRelay_sublist hp
      exact ⟨hsub.cons_cons e, by simpa using hlen⟩
    · split at h
      · obtain rfl := Option.some.inj h
        exact ⟨List.sublist_cons_self e es, rfl⟩
      · cases h

theorem askKept_sublist (st : StationId) (r : LineRequest) (q : List QueueEntry) : (askKept st r q).Sublist q := by
  unfold askKept
  split
  · exact List.filter_sublist
  · exact List.Sublist.refl q

/-- R173: handing a frame of the owners' own kinds keeps the bounds. -/
theorem handedQueue_fits {st : StationId} {r : LineRequest} {q : List QueueEntry} (hr : r.kind.isRelayed = false)
    (h : QueueFits q) : QueueFits (handedQueue st r q) := by
  have kept : QueueFits (askKept st r q) := h.sublist (askKept_sublist st r q)
  have noRelay : QueueEntry.isRelay { station := st, request := r } ≠ true := by simp [QueueEntry.isRelay, hr]
  unfold handedQueue
  split
  · rename_i q' hq
    obtain ⟨-, hlen, hrel, hpair⟩ := rewriteEntry_fits hq
    exact ⟨hlen ▸ kept.short, hrel ▸ kept.relays, hpair kept.apart⟩
  · rename_i hq
    have apart := not_clash_of_rewriteEntry hq
    split
    · rename_i hroom
      exact kept.append hroom (fun hc => absurd hc noRelay) apart
    · split
      · rename_i q' hdrop
        obtain ⟨hsub, hlen⟩ := dropNewestRelay_sublist hdrop
        refine (kept.sublist hsub).append ?_ (fun hc => absurd hc noRelay) fun a ha => apart a (hsub.subset ha)
        have hshort := kept.short
        exact Nat.lt_of_lt_of_le (Nat.lt_of_succ_le hlen.le) hshort
      · exact kept

/-! ### The shared operations -/

section
variable {s : State}

@[simp] theorem hand_fits (st : StationId) {r : LineRequest} (hr : r.kind.isRelayed = false)
    (h : QueueFits s.line.queue) : QueueFits (s.hand st r).line.queue := by
  rw [State.hand_queue]
  split
  · exact handedQueue_fits hr h
  · exact h

/-! The owners' frames are of no relayed kind (R163). -/

@[simp] theorem admitRequest_owned (a : AdmitSet) (st : StationId) : (admitRequest a st).kind.isRelayed = false := rfl
@[simp] theorem steerRequest_owned (r : Vector Route 16) : (steerRequest r).kind.isRelayed = false := rfl
@[simp] theorem payRequest_owned (c : PayCmd) : (payRequest c).kind.isRelayed = false := rfl
@[simp] theorem chargeAskRequest_owned (n p : Nat) (i : SelectionId) :
    (chargeAskRequest n p i).kind.isRelayed = false := rfl
@[simp] theorem chargeEndRequest_owned (b : Bool) : (chargeEndRequest b).kind.isRelayed = false := rfl
@[simp] theorem showRequest_owned (m : ShowCode × Nat) : (showRequest m).kind.isRelayed = false := rfl
@[simp] theorem keepBill_owned : (LineRequest.plain .keepBill).kind.isRelayed = false := rfl
@[simp] theorem giveBack_owned : (LineRequest.plain .giveBack).kind.isRelayed = false := rfl

@[simp] theorem show_fits (c : ShowCode) (n : Nat) (h : QueueFits s.line.queue) :
    QueueFits (s.show c n).line.queue := by
  simp -implicitDefEqProofs [State.show, h]

@[simp] theorem removeFrames_fits (st : StationId) (ks : List LineKind) (h : QueueFits s.line.queue) :
    QueueFits (s.removeFrames st ks).line.queue := h.filter _

@[simp] theorem handPart_fits (st : StationId) (h : QueueFits s.line.queue) :
    QueueFits (s.handPart st).line.queue := by
  fun_cases State.handPart s st <;> simp -implicitDefEqProofs [h]

@[simp] theorem recomputeSet_fits (h : QueueFits s.line.queue) : QueueFits s.recomputeSet.line.queue := by
  unfold State.recomputeSet
  exact handPart_fits _ (handPart_fits _ (handPart_fits (s := s.setCash _) _ h))

@[simp] theorem refreshSet_fits (h : QueueFits s.line.queue) : QueueFits s.refreshSet.line.queue := by
  unfold State.refreshSet
  exact recomputeSet_fits (recomputeSet_fits h)

@[simp] theorem reroute_fits (h : QueueFits s.line.queue) : QueueFits s.reroute.line.queue := by
  fun_cases State.reroute s <;> simp -implicitDefEqProofs [h]

@[simp] theorem tubeResult_fits (n : TubeId) (f : Tube → Tube) (h : QueueFits s.line.queue) :
    QueueFits (s.tubeResult n f).line.queue := by
  unfold State.tubeResult
  exact reroute_fits (s := s.setTube n _) h

/-! ### What follows an event, and what ends a step (R31, R110, R37, R181, R172) -/

theorem eventEnd_fits (before : State) (h : QueueFits s.line.queue) : QueueFits (s.eventEnd before).line.queue := by
  have hcredit : QueueFits (s.creditEnd before).line.queue := by
    fun_cases State.creditEnd s before <;> simp [h]
  unfold State.eventEnd
  refine refreshSet_fits ?_
  fun_cases State.panelEnd (s.creditEnd before) before <;> simp [hcredit]

/-- Sending an entry takes it out of the queue (R172). -/
theorem takeEntry_sublist {f : QueueEntry → Bool} : ∀ {q : List QueueEntry} {p : QueueEntry × List QueueEntry},
    takeEntry f q = some p → p.2.Sublist q
  | [], _, h => by cases h
  | e :: es, p, h => by
    rw [takeEntry] at h
    split at h
    · obtain rfl := Option.some.inj h
      exact List.sublist_cons_self e es
    · obtain ⟨p', hp, rfl⟩ := Option.map_eq_some_iff.mp h
      exact (takeEntry_sublist hp).cons_cons e

theorem commandEntry_sublist {p : QueueEntry × List QueueEntry} (h : s.commandEntry = some p) :
    p.2.Sublist s.line.queue := by
  rcases Option.or_eq_some_iff.mp h with h | ⟨-, h⟩
  · rcases Option.or_eq_some_iff.mp h with h | ⟨-, h⟩
    · exact takeEntry_sublist h
    · exact takeEntry_sublist h
  · exact takeEntry_sublist h

theorem send_queue (st : StationId) (r : LineRequest) : (s.send st r).line.queue = s.line.queue := by
  unfold State.send
  dsimp only
  split <;> rfl

theorem pollSlot_queue : s.pollSlot.line.queue = s.line.queue := by
  fun_cases State.pollSlot s <;> simp +zetaDelta [send_queue]

theorem beginSlot_fits (h : QueueFits s.line.queue) : QueueFits s.beginSlot.line.queue := by
  fun_cases State.beginSlot s with
  | case2 _ _ p hp =>
    rw [send_queue]
    exact h.sublist (commandEntry_sublist hp)
  | case1 | case3 => rwa [pollSlot_queue]
  | case4 => exact h

theorem stepEnd_fits (h : QueueFits s.line.queue) : QueueFits s.stepEnd.line.queue := by
  unfold State.stepEnd
  refine beginSlot_fits ?_
  rw [State.transmit_line]
  refine refreshSet_fits ?_
  rwa [State.transmit_line]

end

end Sys2Proof.Laws
end

section
/-! SUPPORT. The inner steps of an event and the line queue (R173): those that leave the line alone, and those whose
frames and removals keep the queue's bounds. -/

namespace Sys2Proof.Laws
open Sys2Proof Sys2Proof.Machine

/-! ### Inner steps that leave the line alone -/

section
variable (s : State)

@[simp] theorem loadStep_line (op : LoadOp) : (loadStep op s).1.line = s.line := by
  obtain ⟨l, hl, -⟩ := loadStep_eq op s
  rw [hl, State.setLoad_line]

@[simp] theorem deposit_line (v : Nat) : (s.deposit v).line = s.line := by simp [State.deposit]
@[simp] theorem returnHold_line : s.returnHold.line = s.line := by simp [State.returnHold]
@[simp] theorem releaseAll_line : s.releaseAll.line = s.line := by simp [State.releaseAll]
@[simp] theorem oweWhole_line : s.oweWhole.line = s.line := rfl

@[simp] theorem takeMap_line (m : SelMap) : (s.takeMap m).1.line = s.line := rfl
@[simp] theorem handHealth_line (z : ZoneId) (h : Health) : (s.handHealth z h).1.line = s.line := by
  fun_cases State.handHealth s z h <;> simp +zetaDelta
@[simp] theorem healthSample_line (z : ZoneId) (b : Bool) (c : Option ZoneCause) :
    (healthSample z b c s).1.line = s.line := by
  fun_cases healthSample z b c s <;> simp +zetaDelta
@[simp] theorem healthWrite_line (l : List (ZoneId × Health × ZoneCause)) : (healthWrite l s).1.line = s.line := rfl
@[simp] theorem zoneReport_line (z : ZoneId) (c : ZoneCause) : (s.zoneReport z c).line = s.line := by
  simp [State.zoneReport]

@[simp] theorem coolAct_line : (coolAct s).1.line = s.line := by
  fun_cases coolAct s <;> simp
@[simp] theorem lockoutTest_line : (lockoutTest s).1.line = s.line := by
  fun_cases lockoutTest s <;> simp
@[simp] theorem endHeating_line : (endHeating s).1.line = s.line := rfl
@[simp] theorem heatTest_line : (heatTest s).1.line = s.line := by
  fun_cases heatTest s <;> simp
@[simp] theorem heatPast_line : (heatPast s).1.line = s.line := by
  fun_cases heatPast s <;> simp
@[simp] theorem endDrip_line : (endDrip s).1.line = s.line := rfl
@[simp] theorem dripTest_line : (dripTest s).1.line = s.line := by
  fun_cases dripTest s <;> simp
@[simp] theorem compressorGiven_line : (compressorGiven s).1.line = s.line := by
  fun_cases compressorGiven s <;> simp
@[simp] theorem heaterGiven_line : (heaterGiven s).1.line = s.line := by
  fun_cases heaterGiven s <;> simp

@[simp] theorem payoutDone_line (o : Occasion) (m : Bool) (p w : Nat) (e : List TubeEntry) :
    (s.payoutDone o m p w e).line = s.line := by simp [State.payoutDone]
@[simp] theorem commandEnded_line (n : TubeId) (p v : Nat) (e : PayEnding) :
    (s.commandEnded n p v e).line = s.line := rfl
@[simp] theorem payStart_line : (payStart s).1.line = s.line := by
  fun_cases payStart s <;> simp +zetaDelta
@[simp] theorem payTell_line : (payTell s).1.line = s.line := by
  fun_cases payTell s <;> simp
@[simp] theorem payPlan_line : (payPlan s).1.line = s.line := by
  fun_cases payPlan s <;> simp +zetaDelta
@[simp] theorem payNext_line : (payNext s).1.line = s.line := by
  fun_cases payNext s <;> simp
@[simp] theorem payOweEnd_line : (payOweEnd s).1.line = s.line := by
  unfold payOweEnd
  split <;> simp
@[simp] theorem payEnd_line : (payEnd s).1.line = s.line := by simp [payEnd]
@[simp] theorem payCut_line : (payCut s).1.line = s.line := by
  fun_cases payCut s <;> simp

@[simp] theorem stackAsk_line : (stackAsk s).1.line = s.line := by
  fun_cases stackAsk s <;> simp
@[simp] theorem billStackedTail_line (b : BillId) (v : Nat) : (billStackedTail b v s).1.line = s.line := by
  fun_cases billStackedTail b v s <;> simp +zetaDelta
@[simp] theorem stackUncertain_line : (stackUncertain s).1.line = s.line := by
  fun_cases stackUncertain s <;> simp
@[simp] theorem escrowLost_line : (escrowLost s).1.line = s.line := by
  fun_cases escrowLost s <;> simp
@[simp] theorem cardClose_line : (cardClose s).1.line = s.line := by
  fun_cases cardClose s <;> simp

@[simp] theorem testGiven_line : (testGiven s).1.line = s.line := by
  fun_cases testGiven s <;> simp
@[simp] theorem testLeave_line : (testLeave s).1.line = s.line := by
  fun_cases testLeave s <;> simp
@[simp] theorem serviceLeft_line : (serviceLeft s).1.line = s.line := by simp [serviceLeft]
@[simp] theorem testResult_line (c : ColumnId) (o : TestOutcome) (d : DropField) (b : ColState) :
    (s.testResult c o d b).line = s.line := by simp [State.testResult]
@[simp] theorem testNever_line (c : ColumnId) (o : TestOutcome) : (s.testNever c o).line = s.line := by
  simp [State.testNever]

@[simp] theorem saleGiven_line : (saleGiven s).1.line = s.line := by
  fun_cases saleGiven s <;> simp [State.startSale, refusedTry]
@[simp] theorem saleDriven_line (c : ColumnId) (r : DriveResult) (n : Nat) (b : Bool) :
    (saleDriven c r n b s).1.line = s.line := by
  fun_cases saleDriven c r n b s <;> simp
@[simp] theorem vendedCursor_line (x : Sale) (o : SaleOutcome) : (s.vendedCursor x o).line = s.line := by
  fun_cases State.vendedCursor s x o <;> simp
@[simp] theorem saleReport_line (x : Sale) (o : SaleOutcome) (n : Nat) : (s.saleReport x o n).line = s.line := by
  simp [State.saleReport]
@[simp] theorem returnTest_line : (returnTest s).1.line = s.line := by
  fun_cases returnTest s <;> simp
@[simp] theorem leverPulled_line : (leverPulled s).1.line = s.line := by
  fun_cases leverPulled s <;> simp
@[simp] theorem saleNotice_line (c : ColumnId) (k : NoticeCause) : (saleNotice c k s).1.line = s.line := by
  fun_cases saleNotice c k s <;> simp
@[simp] theorem modeNote_line (m : Mode) (c : ModeCause) : (s.modeNote m c).line = s.line := by
  simp [State.modeNote]
theorem modeChange_line {c : ModeCause} {o : Out} (h : modeChange c s = some o) : o.1.line = s.line := by
  simp only [modeChange] at h
  split at h
  · cases h
  · injection h with h
    subst h
    simp
@[simp] theorem modeRestart_line : (modeRestart s).1.line = s.line := by
  unfold modeRestart
  dsimp only
  split
  · rename_i o h
    have kept := modeChange_line _ h
    exact kept
  · simp

theorem foldl_line {α : Type} (f : State → α → State) (h : ∀ s a, (f s a).line = s.line) :
    ∀ (l : List α) (s : State), (l.foldl f s).line = s.line
  | [], _ => rfl
  | a :: l, s => by rw [List.foldl_cons, foldl_line f h l, h]

end

/-! ### Inner steps that hand frames or take some back (R173, R174) -/

section
variable {s : State}

@[simp] theorem payGiven_fits (h : QueueFits s.line.queue) : QueueFits (payGiven s).1.line.queue := by
  fun_cases payGiven s <;> simp +zetaDelta -implicitDefEqProofs [h]
@[simp] theorem payLost_fits (h : QueueFits s.line.queue) : QueueFits (payLost s).1.line.queue := by
  fun_cases payLost s <;> simp [h]

@[simp] theorem giveBack_fits (b : BillId) (v : Nat) (h : QueueFits s.line.queue) :
    QueueFits (s.giveBack b v).line.queue := by
  fun_cases State.giveBack s b v <;> simp -implicitDefEqProofs [h]
@[simp] theorem billEscrowed_fits (b : BillId) (h : QueueFits s.line.queue) :
    QueueFits (billEscrowed b s).1.line.queue := by
  fun_cases billEscrowed b s <;> simp [h]
@[simp] theorem stackGiven_fits (h : QueueFits s.line.queue) : QueueFits (stackGiven s).1.line.queue := by
  fun_cases stackGiven s <;> simp -implicitDefEqProofs [h]
@[simp] theorem dropBillFrames_fits (h : QueueFits s.line.queue) : QueueFits s.dropBillFrames.line.queue :=
  removeFrames_fits _ _ h
@[simp] theorem billReturned_fits (h : QueueFits s.line.queue) : QueueFits (billReturned s).1.line.queue := by
  fun_cases billReturned s <;> simp +zetaDelta [h]
@[simp] theorem stackGaveUp_fits (h : QueueFits s.line.queue) : QueueFits (stackGaveUp s).1.line.queue := by
  unfold stackGaveUp
  split
  · split <;> simp [h]
  · exact h
@[simp] theorem returnEscrow_fits (h : QueueFits s.line.queue) : QueueFits s.returnEscrow.line.queue := by
  fun_cases State.returnEscrow s <;> simp [h]

@[simp] theorem enterHost_fits (x : Sale) (h : QueueFits s.line.queue) : QueueFits (enterHost x s).1.line.queue := by
  simp -implicitDefEqProofs [enterHost, h]
@[simp] theorem enterReader_fits (x : Sale) (h : QueueFits s.line.queue) :
    QueueFits (enterReader x s).1.line.queue := by
  simp -implicitDefEqProofs [enterReader, h]
@[simp] theorem enterReaderOrTry_fits (x : Sale) (h : QueueFits s.line.queue) :
    QueueFits (enterReaderOrTry x s).1.line.queue := by
  fun_cases enterReaderOrTry x s <;> simp [h]
@[simp] theorem enterStage_fits (x : Sale) (h : QueueFits s.line.queue) :
    QueueFits (enterStage x s).1.line.queue := by
  fun_cases enterStage x s <;> simp [h]
@[simp] theorem acceptSale_fits (o : Origin) (i : SelectionId) (c : Source) (h : QueueFits s.line.queue) :
    QueueFits (acceptSale o i c s).1.line.queue := by
  fun_cases acceptSale o i c s <;> simp +zetaDelta -implicitDefEqProofs [h]
@[simp] theorem showStacking_fits (h : QueueFits s.line.queue) : QueueFits s.showStacking.line.queue := by
  fun_cases State.showStacking s <;> simp [h]
@[simp] theorem stackOutcome_fits (b : Bool) (h : QueueFits s.line.queue) :
    QueueFits (stackOutcome b s).1.line.queue := by
  fun_cases stackOutcome b s <;> simp -implicitDefEqProofs [h]
@[simp] theorem saleTry_fits (h : QueueFits s.line.queue) : QueueFits (saleTry s).1.line.queue := by
  fun_cases saleTry s <;> simp +zetaDelta -implicitDefEqProofs [h]
@[simp] theorem tellReader_fits (x : Sale) (o : SaleOutcome) (h : QueueFits s.line.queue) :
    QueueFits (tellReader x o s).line.queue := by
  fun_cases tellReader x o s <;> simp +zetaDelta -implicitDefEqProofs [h]
@[simp] theorem saleEnd_fits (o : SaleOutcome) (h : QueueFits s.line.queue) :
    QueueFits (saleEnd o s).1.line.queue := by
  fun_cases saleEnd o s <;> simp +zetaDelta -implicitDefEqProofs [h]
@[simp] theorem saleFinish_fits (n : Nat) (h : QueueFits s.line.queue) :
    QueueFits (saleFinish n s).1.line.queue := by
  fun_cases saleFinish n s <;> simp +zetaDelta -implicitDefEqProofs [h]
@[simp] theorem returnAct_fits (h : QueueFits s.line.queue) : QueueFits (returnAct s).1.line.queue := by
  simp -implicitDefEqProofs [returnAct, h]
@[simp] theorem cardLost_fits (h : QueueFits s.line.queue) : QueueFits (cardLost s).1.line.queue := by
  fun_cases cardLost s <;> simp [h]
@[simp] theorem giveGrant_fits (who : Requester) (h : QueueFits s.line.queue) :
    QueueFits (giveGrant who s).1.line.queue := by
  cases who <;> simp [giveGrant, h]
@[simp] theorem modeTail_fits (b : Mode) (c : ModeCause) (h : QueueFits s.line.queue) :
    QueueFits (s.modeTail b c).line.queue := by
  unfold State.modeTail
  fun_cases State.modePanel s.refreshSet b <;> simp [h]

/-! ### Inner steps of the line master (R166, R171) -/

@[simp] theorem leaveActive_fits (st : StationId) (c : StationCause) (h : QueueFits s.line.queue) :
    QueueFits (leaveActive st c s).1.line.queue := by
  unfold leaveActive
  dsimp only
  split
  · split <;> simp [foldl_line, h]
  · simp [foldl_line, h]
@[simp] theorem lineRestart_fits (h : QueueFits s.line.queue) : QueueFits (lineRestart s).1.line.queue := by
  fun_cases lineRestart s <;> simp [h]
@[simp] theorem holdBreak_fits (h : QueueFits s.line.queue) : QueueFits s.holdBreak.line.queue := h

/-- An inner step keeps the queue's bounds, whichever block it is of. -/
theorem runOne_fits (j : Job) (h : QueueFits s.line.queue) : QueueFits (runOne j s).1.line.queue := by
  cases j with
  | _ => simp [runOne, State.saleRestart, State.showRestart, h]

/-- So does an event, from its own effect on. -/
theorem event_fits (before : State) {o : Out} (h : QueueFits o.1.line.queue) :
    QueueFits (event before o).line.queue := by
  unfold event runOut
  exact eventEnd_fits before (runJobs_keeps (P := fun u => QueueFits u.line.queue) (fun j u hu => runOne_fits j hu)
    (fun _ hu => hu) _ _ _ h)

end

end Sys2Proof.Laws
end

section
/-! SUPPORT. The items of a REPLY, the ends of an exchange, the requests and the drive's events, and the line queue
(R173). -/

namespace Sys2Proof.Laws
open Sys2Proof Sys2Proof.Machine

section
variable {s : State}

/-! ### The items of a REPLY (R165) -/

@[simp] theorem coinMoney_line (s : State) (v : Nat) : (s.coinMoney v).1.line = s.line := by
  fun_cases State.coinMoney s v <;> simp
@[simp] theorem coinValueFault_line (s : State) (v : Nat) (i : Item) : (s.coinValueFault v i).line = s.line := by
  fun_cases State.coinValueFault s v i <;> simp
@[simp] theorem coinSeen_fits (c : CoinId) (d : CoinDest) (h : QueueFits s.line.queue) :
    QueueFits (coinSeen c d s).1.line.queue := by
  fun_cases coinSeen c d s <;> simp +zetaDelta [h]
@[simp] theorem billStackedItem_line (s : State) (b : BillId) : (billStackedItem b s).1.line = s.line := by
  fun_cases billStackedItem b s <;> simp
@[simp] theorem billSeen_fits (b : BillId) (e : BillEvent) (h : QueueFits s.line.queue) :
    QueueFits (billSeen b e s).1.line.queue := by
  fun_cases billSeen b e s <;> simp [h]
@[simp] theorem tubeSense_fits (n : Fin 64) (e : Sense) (h : QueueFits s.line.queue) :
    QueueFits (tubeSense n e s).1.line.queue := by
  fun_cases tubeSense n e s <;> simp [h]
@[simp] theorem bookPaid_line (s : State) (x : Nat) : (s.bookPaid x).line = s.line := by
  fun_cases State.bookPaid s x <;> simp
@[simp] theorem overpaidReport_line (s : State) (n : Fin 64) (k a : Nat) :
    (s.overpaidReport n k a).line = s.line := by
  fun_cases State.overpaidReport s n k a <;> simp
@[simp] theorem paidItem_fits (n : Fin 64) (k : Nat) (h : QueueFits s.line.queue) :
    QueueFits (paidItem n k s).1.line.queue := by
  fun_cases paidItem n k s <;> simp [paidFull, paidShort, paidUnasked, h]
@[simp] theorem keyItem_fits (n : Nat) (h : QueueFits s.line.queue) : QueueFits (keyItem n s).1.line.queue := by
  fun_cases keyItem n s <;> simp [h]
@[simp] theorem chargeAnswer_line (s : State) (n : Nat) (b : Bool) : (chargeAnswer n b s).1.line = s.line := by
  fun_cases chargeAnswer n b s <;> simp +zetaDelta
/-- An item's own effect, whichever block owns it (R165). -/
@[simp] theorem itemOut_fits (st : StationId) (i : Item) (h : QueueFits s.line.queue) :
    QueueFits (itemOut st i s).1.line.queue := by
  unfold itemOut
  split
  · cases i <;> simp [cardOn, h]
  · simp [h]

theorem takeItems_fits (st : StationId) : ∀ (l : List Item) {s : State}, QueueFits s.line.queue →
    QueueFits (takeItems st l s).line.queue
  | [], _, h => h
  | i :: l, _, h => takeItems_fits st l (event_fits _ (itemOut_fits st i h))

/-! ### The exchange (R167 to R170) -/

@[simp] theorem endExchange_queue (s : State) : (endExchange s).1.line.queue = s.line.queue := by
  fun_cases endExchange s <;> simp +zetaDelta
@[simp] theorem probeLater_queue (s : State) (st : StationId) : (s.probeLater st).line.queue = s.line.queue := rfl
@[simp] theorem waitTaken_queue (s : State) (x : Exchange) : (waitTaken x s).1.line.queue = s.line.queue := by
  fun_cases waitTaken x s <;> simp +zetaDelta
@[simp] theorem missTaken_queue (s : State) (x : Exchange) : (missTaken x s).1.line.queue = s.line.queue := by
  fun_cases missTaken x s <;> simp +zetaDelta
@[simp] theorem mirror_line (s : State) (x : Exchange) (p : List Byte) : (s.mirror x p).line = s.line := by
  fun_cases State.mirror s x p <;> simp +zetaDelta
@[simp] theorem flagUnknown_line (s : State) (b : Bool) : (s.flagUnknown b).line = s.line := by
  fun_cases State.flagUnknown s b <;> simp
@[simp] theorem replyTaken_queue (s : State) (x : Exchange) (p : List Byte) (b : Bool) :
    (s.replyTaken x p b).line.queue = s.line.queue := by
  simp [State.replyTaken]
@[simp] theorem firstFrames_fits (st : StationId) (h : QueueFits s.line.queue) :
    QueueFits (s.firstFrames st).line.queue := by
  fun_cases State.firstFrames s st <;> simp +zetaDelta -implicitDefEqProofs [h]
@[simp] theorem joinReply_fits (st : StationId) (r l : Byte) (h : QueueFits s.line.queue) :
    QueueFits (joinReply st r l s).line.queue := by
  fun_cases joinReply st r l s <;> simp +zetaDelta -implicitDefEqProofs [h]
@[simp] theorem joinTaken_fits (x : Exchange) (p : List Byte) (h : QueueFits s.line.queue) :
    QueueFits (joinTaken x p s).line.queue := by
  fun_cases joinTaken x p s <;> simp [h]

theorem takeReply_fits (x : Exchange) (p : List Byte) (l : List Item) (b : Bool) (h : QueueFits s.line.queue) :
    QueueFits (takeReply x p l b s).line.queue := by
  fun_cases takeReply x p l b s with
  | case1 => exact joinTaken_fits x p h
  | case2 => exact takeItems_fits _ l (by simpa using h)

/-- The end of an exchange, whatever the reply was judged to be. -/
theorem exchangeEnds_fits (x : Exchange) (j : ReplyJudgement) (h : QueueFits s.line.queue) :
    QueueFits (Machine.exchangeEnds x j s).line.queue := by
  fun_cases Machine.exchangeEnds x j s with
  | case1 p l b s1 => exact event_fits _ (by simpa using takeReply_fits x p l b h)
  | case2 => exact event_fits _ (by simpa using h)
  | case3 => exact event_fits _ (by simpa using h)

/-! ### The requests (R178, R183) -/

@[simp] theorem refuse_line (s : State) (k : ReqKind) (c : ResultCode) : (refuse k c s).1.line = s.line := rfl
@[simp] theorem takenWrite_line (s : State) (b : Bool) (l : List Job) : (takenWrite b s l).1.line = s.line := rfl
@[simp] theorem writeCoins_line (s : State) (n : Nat) (l : List RawValue) : (writeCoins n l s).1.line = s.line := by
  fun_cases writeCoins n l s <;> simp
@[simp] theorem writeBills_line (s : State) (n : Nat) (l : List RawValue) : (writeBills n l s).1.line = s.line := by
  fun_cases writeBills n l s <;> simp
@[simp] theorem writeTubes_fits (n : Nat) (l : List RawTube) (h : QueueFits s.line.queue) :
    QueueFits (writeTubes n l s).1.line.queue := by
  fun_cases writeTubes n l s <;> simp +zetaDelta -implicitDefEqProofs [h]
@[simp] theorem writeSelections_line (s : State) (n : Nat) (l : List RawSelection) :
    (writeSelections n l s).1.line = s.line := by
  fun_cases writeSelections n l s <;> simp +zetaDelta
@[simp] theorem columnChanged_line (s : State) (c : ColumnId) (b : ColState) (k : ColCause) :
    (s.columnChanged c b k).line = s.line := by
  fun_cases State.columnChanged s c b k <;> simp [State.columnReport]
@[simp] theorem writtenReports_line (s : State) (m : SelMap) : (s.writtenReports m).line = s.line := by
  simp [State.writtenReports, foldl_line]
@[simp] theorem writeColumns_line (s : State) (n : Nat) (l : List RawColumn) :
    (writeColumns n l s).1.line = s.line := by
  fun_cases writeColumns n l s <;> simp +zetaDelta
@[simp] theorem writeCalibration_line (s : State) (n : Nat) (l : List RawBreakpoint) :
    (writeCalibration n l s).1.line = s.line := by
  fun_cases writeCalibration n l s <;> simp
@[simp] theorem writeChannels_line (s : State) (n : Nat) (l : List Byte) : (writeChannels n l s).1.line = s.line := by
  fun_cases writeChannels n l s <;> simp
@[simp] theorem writeZones_line (s : State) (n : Nat) (l : List RawZone) : (writeZones n l s).1.line = s.line := by
  fun_cases writeZones n l s <;> simp +zetaDelta
@[simp] theorem minOffWritten_line (s : State) : (minOffWritten s).1.line = s.line := by
  fun_cases minOffWritten s <;> simp
@[simp] theorem writeSettings_line (s : State) (n : Nat) (l : List RawSettings) :
    (writeSettings n l s).1.line = s.line := by
  fun_cases writeSettings n l s <;> simp +zetaDelta
@[simp] theorem writeRelays_queue (s : State) (n : Nat) (l : List Byte) :
    (writeRelays n l s).1.line.queue = s.line.queue := by
  fun_cases writeRelays n l s <;> simp +zetaDelta
@[simp] theorem readTable_line (s : State) (t f c : Nat) : (readTable t f c s).1.line = s.line := by
  fun_cases readTable t f c s <;> simp
theorem modeChange_getD_line (s : State) (c : ModeCause) : ((modeChange c s).getD s.only).1.line = s.line := by
  cases h : modeChange c s with
  | none => rfl
  | some o => exact modeChange_line s h
@[simp] theorem modeRequest_line (s : State) (v : Byte) : (modeRequest v s).1.line = s.line := by
  fun_cases modeRequest v s with
  | case1 m _ => simp [setRequested, modeChange_getD_line]
  | case2 => simp
@[simp] theorem doorMoved_line (s : State) (d : Door) : (doorMoved d s).1.line = s.line :=
  modeChange_getD_line (s.setMode { s.mode with door := d }) .door
@[simp] theorem fillRequest_fits (b : Bool) (h : QueueFits s.line.queue) :
    QueueFits (fillRequest b s).1.line.queue := by
  fun_cases fillRequest b s <;> simp +zetaDelta -implicitDefEqProofs [h]
@[simp] theorem selectRequest_fits (n : Nat) (h : QueueFits s.line.queue) :
    QueueFits (selectRequest n s).1.line.queue := by
  fun_cases selectRequest n s <;> simp +zetaDelta -implicitDefEqProofs [h]
@[simp] theorem approveRequest_fits (n : Nat) (b : Bool) (h : QueueFits s.line.queue) :
    QueueFits (approveRequest n b s).1.line.queue := by
  fun_cases approveRequest n b s <;> simp +zetaDelta -implicitDefEqProofs [h]
@[simp] theorem leverRequest_line (s : State) : (leverRequest s).1.line = s.line := by simp [leverRequest]
@[simp] theorem testRequest_line (s : State) (n : Nat) : (testRequest n s).1.line = s.line := by
  fun_cases testRequest n s <;> simp
@[simp] theorem tubeOutRequest_line (s : State) (n c : Nat) : (tubeOutRequest n c s).1.line = s.line := by
  fun_cases tubeOutRequest n c s <;> simp +zetaDelta [payManual]
@[simp] theorem releaseRequest_line (s : State) (n : Nat) : (releaseRequest n s).1.line = s.line := by
  fun_cases releaseRequest n s <;> simp +zetaDelta
@[simp] theorem setDue_line (s : State) : s.setDue.line = s.line := rfl
@[simp] theorem defrostRequest_line (s : State) : (defrostRequest s).1.line = s.line := by
  fun_cases defrostRequest s <;> simp +zetaDelta
@[simp] theorem statusRequest_line (s : State) (n : Nat) : (statusRequest n s).1.line = s.line := by
  fun_cases statusRequest n s <;> simp
@[simp] theorem restartRequest_line (s : State) : (restartRequest s).1.line = s.line := by
  fun_cases restartRequest s <;> simp

/-- R175: a RELAY is queued while the queue has room for it; of its kind a station may have several entries. -/
theorem relayTo_fits (st : StationId) (k : Byte) (p : List Byte) (h : QueueFits s.line.queue) :
    QueueFits (relayTo st k p s).1.line.queue := by
  fun_cases relayTo st k p s with
  | case1 | case2 | case3 => exact h
  | case4 r _ _ hroom n s1 =>
    have room : s.line.relayRoom = true := by simpa using hroom
    obtain ⟨hrelays, hlength⟩ := Bool.and_eq_true_iff.mp room
    refine h.append (of_decide_eq_true hlength) (fun _ => of_decide_eq_true hrelays) ?_
    rintro a - ⟨-, hk, hs⟩
    rw [hk] at hs
    cases hs
@[simp] theorem relayRequest_fits (st : Fin 8) (k : Byte) (p : List Byte) (h : QueueFits s.line.queue) :
    QueueFits (relayRequest st k p s).1.line.queue := by
  fun_cases relayRequest st k p s with
  | case1 => exact relayTo_fits _ k p h
  | case2 => exact h

/-! ### The spiral drive's events, and the other commands' own effects -/

@[simp] theorem columnAfter_line (s : State) (c : ColumnId) (r : Column) (k : ColCause) :
    (s.columnAfter c r k).line = s.line := by
  simp [State.columnAfter, State.driveColumn]
@[simp] theorem handResult_line (s : State) (b : Bool) : (handResult b s).1.line = s.line := by
  fun_cases handResult b s <;> simp +zetaDelta
@[simp] theorem endAttempt_line (s : State) (a : Attempt) (r : DriveResult) (b : Bool) :
    (endAttempt a r b s).1.line = s.line := by simp [endAttempt]
@[simp] theorem stopEarly_line (s : State) (a : Attempt) (r : DriveResult) : (stopEarly a r s).1.line = s.line := by
  fun_cases stopEarly a r s <;> simp
@[simp] theorem turnDone_line (s : State) (a : Attempt) : (turnDone a s).1.line = s.line := by
  fun_cases turnDone a s <;> simp
@[simp] theorem windowEnds_line (s : State) (a : Attempt) : (windowEnds a s).1.line = s.line := by
  fun_cases windowEnds a s <;> simp
@[simp] theorem strayDrop_line (s : State) : s.strayDrop.line = s.line := by simp [State.strayDrop]
@[simp] theorem dropCounted_line (s : State) : (dropCounted s).1.line = s.line := by
  fun_cases dropCounted s <;> simp
@[simp] theorem beamBreaks_line (s : State) : (beamBreaks s).1.line = s.line := by
  fun_cases beamBreaks s <;> simp
@[simp] theorem beamClears_line (s : State) : s.beamClears.line = s.line := by
  fun_cases State.beamClears s <;> simp
@[simp] theorem senseCurrent_line (s : State) (a : Attempt) (n : Nat) : (s.senseCurrent a n).line = s.line := by
  fun_cases State.senseCurrent s a n <;> simp
@[simp] theorem setHome_line (s : State) (c : ColumnId) (b : Bool) : (s.setHome c b).line = s.line := rfl
@[simp] theorem homeOpens_line (s : State) (a : Attempt) (n : Nat) : (homeOpens a n s).1.line = s.line := by
  fun_cases homeOpens a n s <;> simp +zetaDelta
@[simp] theorem homeCloses_line (s : State) (a : Attempt) : (homeCloses a s).1.line = s.line := by
  fun_cases homeCloses a s <;> simp +zetaDelta
@[simp] theorem currentChanges_line (s : State) (a : Attempt) (n : Nat) :
    (currentChanges a n s).1.line = s.line := by
  fun_cases currentChanges a n s <;> simp +zetaDelta
@[simp] theorem openChecked_line (s : State) (a : Attempt) (n : Nat) : (openChecked a n s).1.line = s.line := by
  fun_cases openChecked a n s <;> simp
@[simp] theorem leaveHomeEnds_line (s : State) (a : Attempt) (n : Nat) : (leaveHomeEnds a n s).1.line = s.line :=
  endAttempt_line _ _ _ _
@[simp] theorem takeSample_line (s : State) (c : ChannelId) (n : Nat) : (takeSample c n s).1.line = s.line := by
  fun_cases takeSample c n s <;> simp +zetaDelta
@[simp] theorem payLimitEnds_fits (c : PayCmd) (h : QueueFits s.line.queue) :
    QueueFits (payLimitEnds c s).1.line.queue := by
  simp [payLimitEnds, h]
end

end Sys2Proof.Laws
end

section
/-! SUPPORT. Every command keeps the line queue's three bounds (R173). -/

namespace Sys2Proof.Laws
open Sys2Proof Sys2Proof.Machine

section
variable {s : State}

/-- A command that is one event keeps the bounds that its own effect keeps. -/
theorem finish_bounded {before : State} {o : Out} (h : QueueFits o.1.line.queue) :
    NextHas LineQueueBounded (finish before o) :=
  nextHas_next.mpr ((lineQueueBounded_iff _).mpr (stepEnd_fits (event_fits before h)))

/-- A state whose line is that of a state within the bounds. -/
theorem next_bounded {t : State} (h : QueueFits s.line.queue) (hl : t.line = s.line) :
    NextHas LineQueueBounded (.next t) :=
  nextHas_next.mpr ((lineQueueBounded_iff t).mpr (hl ▸ h))

theorem takeRequest_bounded {r : ReqHeader} {k : ReqKind} {body : State → Out}
    (hb : ∀ u, QueueFits u.line.queue → QueueFits (body u).1.line.queue) (h : QueueFits s.line.queue) :
    NextHas LineQueueBounded (takeRequest r k body s) := by
  have noted : QueueFits (s.noteHeader r).line.queue := by simpa using h
  unfold takeRequest
  dsimp only
  split
  · exact next_bounded h (by simp)
  · split
    · exact finish_bounded noted
    · exact finish_bounded (hb _ noted)

theorem execRelay_bounded (r : ReqHeader) (k : Byte) (p : List Byte) (h : QueueFits s.line.queue) :
    NextHas LineQueueBounded (execRelay r k p s) := by
  have noted : QueueFits (s.noteHeader r).line.queue := by simpa using h
  fun_cases execRelay r k p s with
  | case1 => exact next_bounded h (by simp +zetaDelta)
  | case2 => exact finish_bounded (relayRequest_fits _ k p noted)

theorem takeCommand_bounded (c : Instr) (h : QueueFits s.line.queue) :
    NextHas LineQueueBounded (takeCommand c s) := by
  cases c with
  | relay r k p => exact execRelay_bounded r k p h
  | read | writeCoinTable | writeBillTable | writeTubeTable | writeSelectionTable | writeColumnTable
  | writeCalibrationTable | writeChannelTable | writeZoneTable | writeSettings | writeRelayTable | mode | select
  | approve | lever | testDrive | tubeOut | fill | release | defrost | status | restart =>
    exact takeRequest_bounded (fun u hu => by simp [hu]) h
  | _ => exact next_bounded h rfl

theorem takeJudged_bounded (j : FrameJudgement) (h : QueueFits s.line.queue) :
    NextHas LineQueueBounded (takeJudged j s) := by
  fun_cases takeJudged j s with
  | case1 => exact next_bounded h rfl
  | case2 => exact next_bounded h (by unfold State.discardFrame; split <;> simp)
  | case3 c => exact takeCommand_bounded c h
  | case4 => exact takeRequest_bounded (fun u hu => by simp [hu]) h

/-- The end of an exchange and of the step, from a state with the same line. -/
theorem exchange_bounded (x : Exchange) (j : ReplyJudgement) {u : State} (h : QueueFits s.line.queue)
    (hl : u.line = s.line) : NextHas LineQueueBounded (.next (Machine.exchangeEnds x j u).stepEnd) :=
  nextHas_next.mpr ((lineQueueBounded_iff _).mpr (stepEnd_fits (exchangeEnds_fits x j (hl ▸ h))))

/-- Every command keeps the bounds. -/
theorem exec_bounded (c : Instr) (h : QueueFits s.line.queue) : NextHas LineQueueBounded (exec c s) := by
  have same : NextHas LineQueueBounded (.next s) := next_bounded h rfl
  cases c with
  | powerOn => exact nextHas_next.mpr ((lineQueueBounded_iff _).mpr queueFits_nil)
  | holdAsserted => exact next_bounded h rfl
  | serviceFrameDiscarded l => exact takeJudged_bounded _ h
  | serviceByteGap l => exact takeJudged_bounded _ h
  | relay r k p => exact execRelay_bounded r k p h
  | read | writeCoinTable | writeBillTable | writeTubeTable | writeSelectionTable | writeColumnTable
  | writeCalibrationTable | writeChannelTable | writeZoneTable | writeSettings | writeRelayTable | mode | select
  | approve | lever | testDrive | tubeOut | fill | release | defrost | status | restart =>
    exact takeRequest_bounded (fun u hu => by simp [hu]) h
  | doorSwitch | holdReleased | beamBroken | beamUnbroken | sample | temps => exact finish_bounded (by simp [h])
  | frameTransmitted =>
    simp only [exec, execFrameTransmitted]
    split
    · exact same
    · exact finish_bounded h
  | replyReceived | replyWindowExpiry | replyGap =>
    simp only [exec, execReplyReceived, execReplyWindowExpiry, execReplyGap]
    split
    · exact exchange_bounded _ _ h (by simp)
    · exact same
    · exact same
  | lineBreakEnd | probeDue | retryAt | stackingLimitExpiry | payLimitExpiry | hostApprovalLimitExpiry
  | readerApprovalLimitExpiry | loadLimitExpiry =>
    simp only [exec, execLineBreakEnd, execProbeDue, execRetryAt, execStackingLimitExpiry, execPayLimitExpiry,
      execHostApprovalLimitExpiry, execReaderApprovalLimitExpiry, execLoadLimitExpiry]
    split <;> simp -implicitDefEqProofs [same, finish_bounded, h]
  | homeSwitchOpens | homeSwitchCloses | motorCurrentChange | clearTimerExpiry | blockTimerExpiry
  | testLoadLimitExpiry | promotionTimerExpiry =>
    simp only [exec, execHomeSwitchOpens, execHomeSwitchCloses, execMotorCurrentChange, execClearTimerExpiry,
      execBlockTimerExpiry, execTestLoadLimitExpiry, execPromotionTimerExpiry]
    split <;> simp -implicitDefEqProofs [same, finish_bounded, h]
  | openCheckExpiry | leaveHomeLimitExpiry | turnLimitExpiry | jamRunExpiry | dropWindowExpiry =>
    simp only [exec, execOpenCheckExpiry, execLeaveHomeLimitExpiry, execTurnLimitExpiry, execJamRunExpiry,
      execDropWindowExpiry]
    split
    · split <;> simp -implicitDefEqProofs [same, finish_bounded, h]
    · exact same
  | dutyPhaseExpiry | minOffPassed | startWindowExpiry | minRunExpiry | defrostIntervalReached | heaterTimerExpiry
  | dripTimerExpiry | excursionTimerExpiry =>
    simp only [exec, execDutyPhaseExpiry, execMinOffPassed, execStartWindowExpiry, execMinRunExpiry,
      execDefrostIntervalReached, execHeaterTimerExpiry, execDripTimerExpiry, execExcursionTimerExpiry]
    split <;> simp -implicitDefEqProofs [same, finish_bounded, h]

end

/-- Settles O9: a millisecond leaves the line alone, and every command keeps the bounds. -/
theorem lineQueueBoundedByStep : Obligations.LineQueueBoundedByStep := by
  unfold Obligations.LineQueueBoundedByStep
  intro s t hs ht
  have fits := (lineQueueBounded_iff s).mp hs
  unfold step at ht
  split at ht
  · injection ht with ht
    subst ht
    refine (lineQueueBounded_iff _).mpr ?_
    simpa [State.tick] using fits
  · rename_i c rest _
    exact exec_bounded (s := s.setPending rest) c fits t ht

end Sys2Proof.Laws
end

section
/-! SUPPORT. The header check of both links: its check bits add up bit by bit, so that what R161 makes of a header rests
on the inverted bits alone (R160, R161). -/

namespace Sys2Proof.Laws
open Sys2Proof Sys2Proof.Machine

/-! ### The check bits of a sum of headers (R160) -/

theorem xorPositions_xor (a b : Nat) : ∀ (ps : List Nat) (k : Nat),
    xorPositions (a ^^^ b) k ps = xorPositions a k ps ^^^ xorPositions b k ps
  | [], _ => by simp [xorPositions]
  | p :: ps, k => by
    have first : (if (a ^^^ b).testBit k then p else 0) =
        (if a.testBit k then p else 0) ^^^ (if b.testBit k then p else 0) := by
      rw [Nat.testBit_xor]
      cases a.testBit k <;> cases b.testBit k <;> simp
    rw [xorPositions, xorPositions, xorPositions, first, xorPositions_xor a b ps]
    ac_rfl

theorem checkBits_xor (a b : Nat) : checkBits (a ^^^ b) = checkBits a ^^^ checkBits b := xorPositions_xor a b _ 0

theorem xorPositions_lt (bits : Nat) : ∀ (ps : List Nat) (k : Nat), (∀ p ∈ ps, p < 2 ^ 5) →
    xorPositions bits k ps < 2 ^ 5
  | [], _, _ => by simp [xorPositions]
  | p :: ps, k, h => by
    refine Nat.xor_lt_two_pow ?_ (xorPositions_lt bits ps _ fun q hq => h q (List.mem_cons_of_mem _ hq))
    have := h p List.mem_cons_self
    split <;> omega

theorem checkBits_lt (bits : Nat) : checkBits bits < 32 := xorPositions_lt bits _ 0 (by decide)

theorem oddOnes_xor (a b : Nat) : ∀ n, oddOnes n (a ^^^ b) = (oddOnes n a ^^ oddOnes n b)
  | 0 => rfl
  | n + 1 => by
    rw [oddOnes, oddOnes, oddOnes, Nat.testBit_xor, oddOnes_xor a b n]
    cases a.testBit n <;> cases b.testBit n <;> simp

/-! ### The check byte (R160) -/

/-- Check bits 0 to 4, and check bit 5, which makes the number of ones even. -/
theorem checkByte_toNat (bits : Nat) : (checkByte bits).toNat =
    checkBits bits + if (oddOnes 24 bits ^^ oddOnes 5 (checkBits bits)) then 32 else 0 := by
  have hlt := checkBits_lt bits
  unfold checkByte
  dsimp only
  rw [BitVec.toNat_ofNat]
  refine Nat.mod_eq_of_lt ?_
  split <;> omega

/-- The check bits of the header against those of its check byte (R161). -/
def syndrome (h : Header) : Nat := checkBits h.bits ^^^ (h.check.toNat % 32)

/-- The number of ones of the header and of check bits 0 to 5 is odd (R161). -/
def oddErrors (h : Header) : Bool := oddOnes 24 h.bits ^^ oddOnes 6 h.check.toNat

/-- A header with the check byte of R160. -/
structure Checked (h : Header) : Prop where
  low : h.check.toNat < 64
  syndrome : syndrome h = 0
  even : oddErrors h = false

theorem oddOnes_checkByte : ∀ c < 32, ∀ p : Bool, oddOnes 6 (c + if p then 32 else 0) = (p ^^ oddOnes 5 c) := by
  decide

theorem checked_of_check {h : Header} (hc : h.check = checkByte h.bits) : Checked h := by
  have hlt := checkBits_lt h.bits
  have hbyte := checkByte_toNat h.bits
  rw [← hc] at hbyte
  refine ⟨?_, ?_, ?_⟩
  · rw [hbyte]
    split <;> omega
  · have hmod : h.check.toNat % 32 = checkBits h.bits := by
      rw [hbyte]
      split <;> omega
    rw [syndrome, hmod, Nat.xor_self]
  · rw [oddErrors, hbyte, oddOnes_checkByte _ hlt]
    cases oddOnes 24 h.bits <;> cases oddOnes 5 (checkBits h.bits) <;> rfl

/-! ### An inverted header bit -/

/-- Two numbers put together from parts, one of them below a power of 2, add up part by part. -/
theorem xor_parts {a c k : Nat} (b d : Nat) (ha : a < 2 ^ k) (hc : c < 2 ^ k) :
    (a + 2 ^ k * b) ^^^ (c + 2 ^ k * d) = (a ^^^ c) + 2 ^ k * (b ^^^ d) := by
  have hx := Nat.xor_lt_two_pow ha hc
  refine Nat.eq_of_testBit_eq fun i => ?_
  rw [Nat.testBit_xor, Nat.add_comm a, Nat.add_comm c, Nat.add_comm (a ^^^ c), Nat.testBit_two_pow_mul_add _ ha,
    Nat.testBit_two_pow_mul_add _ hc, Nat.testBit_two_pow_mul_add _ hx]
  split <;> rw [Nat.testBit_xor]

theorem bits_eq (h : Header) : h.bits = h.h0.toNat + 2 ^ 8 * (h.h1.toNat + 2 ^ 8 * h.h2.toNat) := by
  unfold Header.bits
  omega

/-- A byte with one bit inverted. -/
theorem toNat_inverted (b : Byte) {n : Nat} (hn : n < 8) :
    (b ^^^ BitVec.ofNat 8 (2 ^ n)).toNat = b.toNat ^^^ 2 ^ n := by
  rw [BitVec.toNat_xor, BitVec.toNat_ofNat, Nat.mod_eq_of_lt (Nat.pow_lt_pow_right (by decide) hn)]

theorem flip_bits (h : Header) {n : Nat} (hn : n < 24) : (h.flip n).bits = h.bits ^^^ 2 ^ n := by
  have l0 := h.h0.isLt
  have l1 := h.h1.isLt
  rw [bits_eq, bits_eq]
  unfold Header.flip
  split
  · rename_i h8
    have parts := xor_parts (h.h1.toNat + 2 ^ 8 * h.h2.toNat) 0 l0 (Nat.pow_lt_pow_right (by decide) h8)
    rw [Nat.mul_zero, Nat.add_zero, Nat.xor_zero] at parts
    dsimp only
    rw [toNat_inverted _ h8, parts]
  · split
    · rename_i h8 h16
      have e : (2 : Nat) ^ n = 0 + 2 ^ 8 * (2 ^ (n - 8) + 2 ^ 8 * 0) := by
        rw [Nat.mul_zero, Nat.add_zero, Nat.zero_add, ← Nat.pow_add]
        congr 1
        omega
      have hk : n - 8 < 8 := by omega
      rw [e, xor_parts _ _ l0 (by decide), xor_parts _ _ l1 (Nat.pow_lt_pow_right (by decide) hk)]
      dsimp only
      rw [toNat_inverted _ hk, Nat.xor_zero, Nat.xor_zero]
    · rename_i h8 h16
      have e : (2 : Nat) ^ n = 0 + 2 ^ 8 * (0 + 2 ^ 8 * 2 ^ (n - 16)) := by
        rw [Nat.zero_add, Nat.zero_add, ← Nat.pow_add, ← Nat.pow_add]
        congr 1
        omega
      have hk : n - 16 < 8 := by omega
      rw [e, xor_parts _ _ l0 (by decide), xor_parts _ _ l1 (by decide)]
      dsimp only
      rw [toNat_inverted _ hk, Nat.xor_zero, Nat.xor_zero]

theorem flip_check (h : Header) (n : Nat) : (h.flip n).check = h.check := by
  unfold Header.flip
  split
  · rfl
  · split <;> rfl

theorem flip_flip (h : Header) (n : Nat) : (h.flip n).flip n = h := by
  have twice : ∀ b m : Byte, b ^^^ m ^^^ m = b := fun b m => by rw [BitVec.xor_assoc, BitVec.xor_self, BitVec.xor_zero]
  by_cases h8 : n < 8
  · simp [Header.flip, h8, twice]
  · by_cases h16 : n < 16 <;> simp [Header.flip, h8, h16, twice]

theorem headerBit_odd : ∀ n < 24, oddOnes 24 (2 ^ n) = true := by decide

theorem syndrome_flip (h : Header) {n : Nat} (hn : n < 24) :
    syndrome (h.flip n) = syndrome h ^^^ checkBits (2 ^ n) := by
  unfold syndrome
  rw [flip_bits h hn, flip_check, checkBits_xor]
  ac_rfl

theorem oddErrors_flip (h : Header) {n : Nat} (hn : n < 24) : oddErrors (h.flip n) = !oddErrors h := by
  unfold oddErrors
  rw [flip_bits h hn, flip_check, oddOnes_xor, headerBit_odd n hn]
  cases oddOnes 24 h.bits <;> simp

/-! ### The judgement (R161) -/

section
variable {h : Header}

theorem judgeHeader_eq (h : Header) : judgeHeader h =
    if 64 ≤ h.check.toNat then .uncorrectable
    else if syndrome h = 0 then (if oddErrors h then .corrected h else .clean h)
    else if !oddErrors h then .uncorrectable
    else if syndrome h = 1 ∨ syndrome h = 2 ∨ syndrome h = 4 ∨ syndrome h = 8 ∨ syndrome h = 16 then .corrected h
    else match codePositions.idxOf? (syndrome h) with
      | some n => .corrected (h.flip n)
      | none => .uncorrectable := rfl

theorem judgeHeader_checked (hc : Checked h) : judgeHeader h = .clean h := by
  rw [judgeHeader_eq, if_neg (Nat.not_le.mpr hc.low), if_pos hc.syndrome, hc.even]
  rfl

theorem judgeHeader_high (hc : 64 ≤ h.check.toNat) : judgeHeader h = .uncorrectable := by
  rw [judgeHeader_eq, if_pos hc]

/-- Two errors leave an even number of ones and a syndrome. -/
theorem judgeHeader_two (hs : syndrome h ≠ 0) (he : oddErrors h = false) : judgeHeader h = .uncorrectable := by
  rw [judgeHeader_eq, if_neg hs, he]
  simp

/-- An error in one of the check bits 0 to 5 leaves the header as it came. -/
theorem judgeHeader_checkBit (hl : h.check.toNat < 64) (ho : oddErrors h = true)
    (hs : syndrome h = 0 ∨ syndrome h = 1 ∨ syndrome h = 2 ∨ syndrome h = 4 ∨ syndrome h = 8 ∨ syndrome h = 16) :
    judgeHeader h = .corrected h := by
  rw [judgeHeader_eq, if_neg (Nat.not_le.mpr hl), ho]
  by_cases h0 : syndrome h = 0
  · rw [if_pos h0]
    rfl
  · rw [if_neg h0, if_pos (hs.resolve_left h0)]
    rfl

/-- A code position is none of the check bits' own, and is found at its header bit. -/
theorem codePosition_found : ∀ n < 24, checkBits (2 ^ n) ≠ 0 ∧
    ¬ (checkBits (2 ^ n) = 1 ∨ checkBits (2 ^ n) = 2 ∨ checkBits (2 ^ n) = 4 ∨ checkBits (2 ^ n) = 8 ∨
      checkBits (2 ^ n) = 16) ∧ codePositions.idxOf? (checkBits (2 ^ n)) = some n := by
  decide

/-- An error in one header bit is found at its code position. -/
theorem judgeHeader_headerBit {n : Nat} (hn : n < 24) (hl : h.check.toNat < 64) (ho : oddErrors h = true)
    (hs : syndrome h = checkBits (2 ^ n)) : judgeHeader h = .corrected (h.flip n) := by
  obtain ⟨hne, hbits, hfound⟩ := codePosition_found n hn
  rw [judgeHeader_eq, if_neg (Nat.not_le.mpr hl), ho, hs, if_neg hne, if_neg hbits, hfound]
  rfl

/-- R161: one header bit inverted is inverted back. -/
theorem judgeHeader_flip (hc : Checked h) {n : Nat} (hn : n < 24) : judgeHeader (h.flip n) = .corrected h := by
  rw [judgeHeader_headerBit hn, flip_flip]
  · rw [flip_check]
    exact hc.low
  · rw [oddErrors_flip h hn, hc.even]
    rfl
  · rw [syndrome_flip h hn, hc.syndrome, Nat.zero_xor]

theorem codePositions_differ : ∀ n < 24, ∀ m < n, checkBits (2 ^ m) ≠ checkBits (2 ^ n) := by decide

/-- R161: two header bits inverted are refused. -/
theorem judgeHeader_flip_flip (hc : Checked h) {m n : Nat} (hm : m < n) (hn : n < 24) :
    judgeHeader ((h.flip m).flip n) = .uncorrectable := by
  have hm' := hm.trans hn
  refine judgeHeader_two ?_ ?_
  · rw [syndrome_flip _ hn, syndrome_flip _ hm', hc.syndrome, Nat.zero_xor]
    exact fun h0 => codePositions_differ n hn m hm (Nat.xor_eq_zero_iff.mp h0)
  · rw [oddErrors_flip _ hn, oddErrors_flip _ hm', hc.even]
    rfl

/-- A single check bit, read as the syndrome it makes, is odd by itself. -/
theorem checkBit_odd : ∀ n < 6, oddOnes 6 (2 ^ n) = true ∧ (2 ^ n % 32 = 0 ∨ 2 ^ n % 32 = 1 ∨ 2 ^ n % 32 = 2 ∨
    2 ^ n % 32 = 4 ∨ 2 ^ n % 32 = 8 ∨ 2 ^ n % 32 = 16) := by decide

/-- R161: one check bit of 0 to 5 inverted leaves the header as it came. -/
theorem judgeHeader_checkFlip (hc : Checked h) {n : Nat} (hn : n < 6) :
    judgeHeader { h with check := h.check ^^^ BitVec.ofNat 8 (2 ^ n) } =
      .corrected { h with check := h.check ^^^ BitVec.ofNat 8 (2 ^ n) } := by
  obtain ⟨hodd, hbit⟩ := checkBit_odd n hn
  have hbyte := toNat_inverted h.check (show n < 8 by omega)
  have hsum : checkBits h.bits ^^^ (h.check.toNat % 32) = 0 := hc.syndrome
  have heven : (oddOnes 24 h.bits ^^ oddOnes 6 h.check.toNat) = false := hc.even
  refine judgeHeader_checkBit ?_ ?_ ?_
  · show (h.check ^^^ BitVec.ofNat 8 (2 ^ n)).toNat < 2 ^ 6
    rw [hbyte]
    exact Nat.xor_lt_two_pow hc.low (Nat.pow_lt_pow_right (by decide) hn)
  · show (oddOnes 24 h.bits ^^ oddOnes 6 (h.check ^^^ BitVec.ofNat 8 (2 ^ n)).toNat) = true
    rw [hbyte, oddOnes_xor, hodd, ← Bool.xor_assoc, heven]
    rfl
  · have hs : syndrome { h with check := h.check ^^^ BitVec.ofNat 8 (2 ^ n) } = 2 ^ n % 32 := by
      show checkBits h.bits ^^^ ((h.check ^^^ BitVec.ofNat 8 (2 ^ n)).toNat % 2 ^ 5) = 2 ^ n % 2 ^ 5
      rw [hbyte, Nat.xor_mod_two_pow, ← Nat.xor_assoc, hsum, Nat.zero_xor]
    rwa [hs]

/-- R161: check bits 6 and 7 are 0 in every check byte. -/
theorem judgeHeader_highFlip (hc : Checked h) {n : Nat} (h6 : 6 ≤ n) (h8 : n < 8) :
    judgeHeader { h with check := h.check ^^^ BitVec.ofNat 8 (2 ^ n) } = .uncorrectable := by
  refine judgeHeader_high ?_
  show 2 ^ 6 ≤ (h.check ^^^ BitVec.ofNat 8 (2 ^ n)).toNat
  have hbit : h.check.toNat.testBit n = false :=
    Nat.testBit_lt_two_pow (hc.low.trans_le (Nat.pow_le_pow_right (n := 2) (by decide) h6))
  have hset : (h.check.toNat ^^^ 2 ^ n).testBit n = true := by
    rw [Nat.testBit_xor, hbit, Nat.testBit_two_pow_self]
    rfl
  rw [toNat_inverted _ h8]
  exact (Nat.pow_le_pow_right (n := 2) (by decide) h6).trans (Nat.ge_two_pow_of_testBit hset)

end

/-- Settles O18: the check bits of a header with bits inverted are its own, changed by those bits' positions. -/
theorem headerCheckCorrectsOneBit : Obligations.HeaderCheckCorrectsOneBit := by
  unfold Obligations.HeaderCheckCorrectsOneBit
  intro h0 h1 h2 h
  have hc : Checked h := checked_of_check rfl
  exact ⟨judgeHeader_checked hc, fun _ hn => judgeHeader_flip hc hn, fun _ hn => ⟨_, judgeHeader_checkFlip hc hn⟩,
    fun _ h6 h8 => judgeHeader_highFlip hc h6 h8, fun _ _ hm hn => judgeHeader_flip_flip hc hm hn⟩

end Sys2Proof.Laws
end

section
/-! SUPPORT. A frame built (R159, R160, R162): its header's fields, its check, and its payload read back. -/

namespace Sys2Proof.Laws
open Sys2Proof Sys2Proof.Machine

/-! ### The header of a frame built (R159, R160) -/

/-- The header with the fields given and their check byte. -/
def builtHeader (kind : Byte) (station : Nat) (turn direction : Bool) (length : Nat) : Header :=
  let h : Header :=
    { h0 := kind, h1 := BitVec.ofNat 8 (station + (if turn then 16 else 0) + (if direction then 32 else 0))
      h2 := BitVec.ofNat 8 length, check := 0 }
  { h with check := checkByte h.bits }

theorem builtHeader_checked (k : Byte) (n : Nat) (t d : Bool) (l : Nat) : Checked (builtHeader k n t d l) :=
  checked_of_check rfl

section
variable (k : Byte) (t d : Bool) (l : Nat)

/-- The fields of H1, of the sixteen stations it has room for. -/
theorem stationByte_fields : ∀ n < 16, ∀ t d : Bool,
    let b : Byte := BitVec.ofNat 8 (n + (if t then 16 else 0) + (if d then 32 else 0))
    b.toNat % 16 = n ∧ b.getLsbD 4 = t ∧ b.getLsbD 5 = d ∧ b.toNat < 64 := by
  decide

theorem builtHeader_station {n : Nat} (hn : n < 16) : (builtHeader k n t d l).station = n :=
  (stationByte_fields n hn t d).1

theorem builtHeader_turn {n : Nat} (hn : n < 16) : (builtHeader k n t d l).turn = t :=
  (stationByte_fields n hn t d).2.1

theorem builtHeader_direction {n : Nat} (hn : n < 16) : (builtHeader k n t d l).direction = d :=
  (stationByte_fields n hn t d).2.2.1

theorem builtHeader_spareClear {n : Nat} (hn : n < 16) : (builtHeader k n t d l).spareClear = true :=
  decide_eq_true (stationByte_fields n hn t d).2.2.2

theorem builtHeader_length (n : Nat) {l : Nat} (hl : l ≤ 120) : (builtHeader k n t d l).length = l := by
  show (BitVec.ofNat 8 l).toNat = l
  rw [BitVec.toNat_ofNat]
  exact Nat.mod_eq_of_lt (by omega)

/-! ### The frame (R159) -/

/-- What stands behind the header: the payload, and its CRC where it is not empty. -/
def frameTail (payload : List Byte) : List Byte :=
  payload ++ (if payload.isEmpty then [] else twoBytes (crc payload).toNat)

theorem buildFrame_eq (n : Nat) (payload : List Byte) : buildFrame k n t d payload =
    let h := builtHeader k n t d payload.length
    0x5A#8 :: h.h0 :: h.h1 :: h.h2 :: h.check :: frameTail payload := rfl

theorem afterSync_sync (bytes : List Byte) : afterSync (0x5A#8 :: bytes) = some bytes := rfl

/-- R162: the payload is read back, with a good CRC. -/
theorem splitPayload_tail (payload : List Byte) :
    splitPayload payload.length (frameTail payload) = some (payload, true) := by
  unfold splitPayload frameTail
  cases payload with
  | nil => rfl
  | cons b bs => simp [twoBytes]
end

/-! ### A request's frame (R178) -/

/-- The bytes of a header that R161 finds clean go on to the further steps. -/
theorem judgeService_clean {h g : Header} (gap : Bool) (rest : List Byte) (hj : judgeHeader h = .clean g) :
    judgeService gap (0x5A#8 :: h.h0 :: h.h1 :: h.h2 :: h.check :: rest) = judgeRequest gap false g rest := by
  unfold judgeService
  rw [afterSync_sync]
  dsimp only [splitHeader]
  rw [hj]

/-- So do those of one that R161 corrects, as corrected. -/
theorem judgeService_corrected {h g : Header} (gap : Bool) (rest : List Byte) (hj : judgeHeader h = .corrected g) :
    judgeService gap (0x5A#8 :: h.h0 :: h.h1 :: h.h2 :: h.check :: rest) = judgeRequest gap true g rest := by
  unfold judgeService
  rw [afterSync_sync]
  dsimp only [splitHeader]
  rw [hj]

/-- R178: steps 2 to 6 find nothing wrong with a frame that spells a request. -/
theorem judgeRequest_built {kind : Byte} {station : Fin 8} {turn corrected : Bool} {payload : List Byte}
    {r : ReadRequest} (hl : payload.length ≤ 120) (hsize : sizeFits kind payload = true)
    (hr : readRequest { station := station, corrected := corrected } kind payload = some r) :
    judgeRequest false corrected (builtHeader kind station.val turn false payload.length) (frameTail payload) =
      .request r := by
  have hst : station.val < 16 := by omega
  have hlength := builtHeader_length kind turn false station.val hl
  have hfield := builtHeader_station kind turn false payload.length hst
  unfold judgeRequest
  rw [dif_pos (by rw [hfield]; exact station.isLt), builtHeader_spareClear _ _ _ _ hst,
    builtHeader_direction _ _ _ _ hst,
    hlength, splitPayload_tail]
  have hshort : (decide (Config.payloadMax < payload.length) || false) = false := by
    rw [Bool.or_false]
    exact decide_eq_false (Nat.not_lt.mpr hl)
  have hkind : (builtHeader kind station.val turn false payload.length).h0 = kind := rfl
  simp [hshort, hkind, hsize, hfield, hr]

/-- Settles O19: the header is clean, or corrected where one bit is inverted, and the frame behind it is whole. -/
theorem requestFrameReadsBack : Obligations.RequestFrameReadsBack := by
  unfold Obligations.RequestFrameReadsBack
  intro kind station turn corrected payload r n hl hsize hn hr
  have hc := builtHeader_checked kind station.val turn false payload.length
  have whole := judgeRequest_built (turn := turn) hl hsize hr
  rw [buildFrame_eq]
  refine ⟨rfl, ?_⟩
  cases corrected with
  | false => exact (judgeService_clean false _ (judgeHeader_checked hc)).trans whole
  | true => exact (judgeService_corrected false _ (judgeHeader_flip hc hn)).trans whole

end Sys2Proof.Laws
end

section
/-! SUPPORT. A reply on the peripheral line: what its header and payload must be, and the walk of its items (R165,
R168). -/

namespace Sys2Proof.Laws
open Sys2Proof Sys2Proof.Machine

/-! ### From the bytes to the frame (R161, R168) -/

section
variable {x : Exchange} {h g : Header} {rest : List Byte}

theorem judgeReply_uncorrectable (hj : judgeHeader h = .uncorrectable) :
    judgeReply x (0x5A#8 :: h.h0 :: h.h1 :: h.h2 :: h.check :: rest) = .miss false := by
  unfold judgeReply
  rw [afterSync_sync]
  dsimp only [splitHeader]
  rw [hj]

theorem judgeReply_header (hj : judgeHeader h = .clean g ∨ judgeHeader h = .corrected g) :
    judgeReply x (0x5A#8 :: h.h0 :: h.h1 :: h.h2 :: h.check :: rest) = judgeFrame x g rest := by
  unfold judgeReply
  rw [afterSync_sync]
  dsimp only [splitHeader]
  rcases hj with hj | hj <;> rw [hj]

/-! ### The frame (R168) -/

/-- A frame of another kind flags it, whatever else it holds (log 15). -/
theorem judgeFrame_otherKind (h0 : h.h0 ≠ 0x90#8) (h1 : h.h0 ≠ 0x91#8) : judgeFrame x h rest = .miss true := by
  rw [judgeFrame, if_pos ⟨h0, h1⟩]

/-- A REPLY or a WAIT that is not from the station asked, or not with its turn bit. -/
theorem judgeFrame_otherHeader (hk : h.h0 = 0x90#8 ∨ h.h0 = 0x91#8)
    (hf : ¬ (h.station = x.station.val + 1 ∧ h.spareClear ∧ h.direction ∧ h.turn = x.turn)) :
    judgeFrame x h rest = .miss false := by
  rw [judgeFrame, if_neg (fun hc => hk.elim hc.1 hc.2), if_neg hf]

/-- One whose payload is too long, is not there in full, or has a wrong CRC. -/
theorem judgeFrame_badPayload (hk : h.h0 = 0x90#8 ∨ h.h0 = 0x91#8)
    (hp : Config.payloadMax < h.length ∨ splitPayload h.length rest = none ∨
      ∃ p, splitPayload h.length rest = some (p, false)) : judgeFrame x h rest = .miss false := by
  rw [judgeFrame, if_neg (fun hc => hk.elim hc.1 hc.2)]
  split
  · by_cases hl : Config.payloadMax < h.length
    · rw [if_pos hl]
    · rw [if_neg hl]
      rcases hp.resolve_left hl with hs | ⟨p, hs⟩
      · rw [hs]
      · rw [hs]
        rfl
  · rfl

theorem splitPayload_short {n : Nat} (hn : 0 < n) (hl : rest.length < n + 2) : splitPayload n rest = none := by
  rw [splitPayload, if_neg (by omega), if_pos hl]

theorem splitPayload_badCrc {n : Nat} (hn : 0 < n) (hl : rest.length = n + 2)
    (hc : rest.drop n ≠ twoBytes (crc (rest.take n)).toNat) : splitPayload n rest = some (rest.take n, false) := by
  have hcrc : (rest.drop n).take 2 = rest.drop n := List.take_of_length_le (by rw [List.length_drop]; omega)
  rw [splitPayload, if_neg (by omega), if_neg (by omega), hcrc, decide_eq_false hc]

/-- R168: the faults of a reply of kind REPLY or WAIT. -/
theorem judgeFrame_fault (hk : h.h0 = 0x90#8 ∨ h.h0 = 0x91#8)
    (hf : h.station ≠ x.station.val + 1 ∨ h.direction = false ∨ 64 ≤ h.h1.toNat ∨ h.turn ≠ x.turn ∨
      120 < h.h2.toNat ∨ (0 < h.h2.toNat ∧ rest.length < h.h2.toNat + 2) ∨
      (0 < h.h2.toNat ∧ rest.length = h.h2.toNat + 2 ∧
        rest.drop h.h2.toNat ≠ twoBytes (crc (rest.take h.h2.toNat)).toNat)) : judgeFrame x h rest = .miss false := by
  rcases hf with hf | hf | hf | hf | hl | ⟨hn, hl⟩ | ⟨hn, hl, hc⟩
  · exact judgeFrame_otherHeader hk fun ⟨hst, _⟩ => hf hst
  · exact judgeFrame_otherHeader hk fun ⟨_, _, hd, _⟩ => by simp [hf] at hd
  · exact judgeFrame_otherHeader hk fun ⟨_, hs, _⟩ => absurd (of_decide_eq_true hs) (Nat.not_lt.mpr hf)
  · exact judgeFrame_otherHeader hk fun ⟨_, _, _, ht⟩ => hf ht
  · exact judgeFrame_badPayload hk (.inl hl)
  · exact judgeFrame_badPayload hk (.inr (.inl (splitPayload_short hn hl)))
  · exact judgeFrame_badPayload hk (.inr (.inr ⟨_, splitPayload_badCrc hn hl hc⟩))

/-- A frame built from the station asked, with its turn bit, goes on to its payload. -/
theorem judgeReply_built {k : Byte} {payload : List Byte} (hk : k = 0x90#8 ∨ k = 0x91#8)
    (hl : payload.length ≤ 120) : judgeReply x (buildFrame k (x.station.val + 1) x.turn true payload) =
      if k = 0x91#8 then (if payload.isEmpty then .wait else .miss false) else judgePayload x payload := by
  have hst : x.station.val + 1 < 16 := by omega
  have hlength := builtHeader_length k x.turn true (x.station.val + 1) hl
  have hkind : (builtHeader k (x.station.val + 1) x.turn true payload.length).h0 = k := rfl
  rw [buildFrame_eq]
  refine (judgeReply_header (.inl (judgeHeader_checked (builtHeader_checked _ _ _ _ _)))).trans ?_
  rw [judgeFrame, hkind, if_neg (fun hc => hk.elim hc.1 hc.2), if_pos ⟨builtHeader_station _ _ _ _ hst,
    builtHeader_spareClear _ _ _ _ hst, builtHeader_direction _ _ _ _ hst, builtHeader_turn _ _ _ _ hst⟩,
    if_neg (by rw [hlength]; exact Nat.not_lt.mpr hl), hlength, splitPayload_tail]
  rfl
end

/-! ### The walk (R165) -/

/-- An item takes at least its code. -/
theorem nextItem_shorter {bytes rest : List Byte} {i : Item} (h : nextItem bytes = .item i rest) :
    rest.length < bytes.length := by
  revert h
  fun_cases nextItem bytes <;> simp_all <;> omega

/-- The walk ends with the bytes, whatever fuel is left. -/
theorem walkItems_fuel : ∀ (n m : Nat) (bytes : List Byte), bytes.length ≤ n → bytes.length ≤ m →
    walkItems n bytes = walkItems m bytes
  | 0, 0, _, _, _ => rfl
  | 0, _ + 1, [], _, _ | _ + 1, 0, [], _, _ => rfl
  | n + 1, m + 1, bytes, hn, hm => by
    rw [walkItems, walkItems]
    cases hnext : nextItem bytes with
    | item i rest =>
      have hs := nextItem_shorter hnext
      dsimp only
      rw [walkItems_fuel n m rest (by omega) (by omega)]
    | _ => rfl

section
variable {bytes rest : List Byte}

theorem readItems_item {i : Item} (h : nextItem bytes = .item i rest) :
    readItems bytes = (readItems rest).map fun p => (i :: p.1, p.2) := by
  have hs := nextItem_shorter h
  obtain ⟨n, hn⟩ : ∃ n, bytes.length = n + 1 := ⟨bytes.length - 1, by omega⟩
  rw [readItems, hn, walkItems, h]
  dsimp only
  rw [walkItems_fuel n rest.length rest (by omega) (Nat.le_refl _)]
  rfl

theorem readItems_unknown (h : nextItem bytes = .unknown) : readItems bytes = some ([], true) := by
  cases bytes with
  | nil => cases h
  | cons b bs =>
    show walkItems (bs.length + 1) (b :: bs) = _
    rw [walkItems, h]

theorem readItems_truncated (h : nextItem bytes = .truncated) : readItems bytes = none := by
  cases bytes with
  | nil => cases h
  | cons b bs =>
    show walkItems (bs.length + 1) (b :: bs) = _
    rw [walkItems, h]
end

/-! ### The fields of an item (R165) -/

theorem toNat_ofNat_fin {n : Nat} (hn : n ≤ 256) (c : Fin n) : (BitVec.ofNat 8 c.val).toNat = c.val := by
  rw [BitVec.toNat_ofNat]
  exact Nat.mod_eq_of_lt (by omega)

theorem ofNat_toNat_byte (a : Byte) : BitVec.ofNat 8 a.toNat = a := by simp

theorem half_toNat (hi lo : Byte) : (half hi lo).toNat = 256 * hi.toNat + lo.toNat := by
  have hh := hi.isLt
  have hl := lo.isLt
  have hor : half hi lo = hi ++ lo := by
    rw [half]
    ext i hi'
    simp
    grind
  rw [hor, BitVec.toNat_append, Nat.shiftLeft_eq, Nat.mul_comm, ← Nat.two_pow_add_eq_or_of_lt hl]

theorem bytes_eq_max {hi lo : Byte} : 256 * hi.toNat + lo.toNat = 65535 ↔ hi = 0xFF#8 ∧ lo = 0xFF#8 := by
  bv_omega

theorem coinDest_eq_some {b : Byte} {d : CoinDest} : coinDest b = some d ↔
    (∃ n : Fin 64, b.toNat = n.val ∧ d = .tube n) ∨ (b = 0x40#8 ∧ d = .cashbox) ∨ (b = 0x41#8 ∧ d = .rejected) := by
  rw [coinDest]
  split
  next h =>
    constructor
    · rintro ⟨⟩
      exact .inl ⟨⟨b.toNat, h⟩, rfl, rfl⟩
    · rintro (⟨n, hn, rfl⟩ | ⟨rfl, -⟩ | ⟨rfl, -⟩)
      · simp only [hn]
      · exact absurd h (by decide)
      · exact absurd h (by decide)
  next h =>
    have hno : ¬ ∃ n : Fin 64, b.toNat = n.val ∧ d = .tube n := fun ⟨n, hn, _⟩ => h (hn ▸ n.isLt)
    rw [or_iff_right hno]
    split
    next hb => simp [hb, eq_comm]
    next hb =>
      split
      next hb' => simp [hb', eq_comm]
      next hb' => simp [hb, hb']

theorem senseOf_eq_some {b : Byte} {sense : Sense} : senseOf b = some sense ↔
    (b = 0#8 ∧ sense = .empty) ∨ (b = 1#8 ∧ sense = .normal) ∨ (b = 2#8 ∧ sense = .full) := by
  simp only [← BitVec.toNat_inj]
  rw [senseOf]
  split
  next h => simp [h, eq_comm]
  next h => simp [h, eq_comm]
  next h => simp [h, eq_comm]
  next h0 h1 h2 => simpa using ⟨fun h => (h0 h).elim, fun h => (h1 h).elim, fun h => (h2 h).elim⟩

theorem billEvent_eq_some {b : Byte} {event : BillEvent} : billEvent b = some event ↔
    (b = 0#8 ∧ event = .escrowed) ∨ (b = 1#8 ∧ event = .stacked) ∨ (b = 2#8 ∧ event = .returned) ∨
      (b = 3#8 ∧ event = .rejected) := by
  simp only [← BitVec.toNat_inj]
  rw [billEvent]
  split
  next h => simp [h, eq_comm]
  next h => simp [h, eq_comm]
  next h => simp [h, eq_comm]
  next h => simp [h, eq_comm]
  next h0 h1 h2 h3 =>
    simpa using ⟨fun h => (h0 h).elim, fun h => (h1 h).elim, fun h => (h2 h).elim, fun h => (h3 h).elim⟩

/-! ### The items (R165) -/

/-- The bytes that spell an item. -/
def ItemReads (bytes : List Byte) (i : Item) : Prop :=
  (∃ (c : CoinId) (place : Byte) (dest : CoinDest), bytes = [1#8, BitVec.ofNat 8 c.val, place] ∧
    ((∃ n : Fin 64, place.toNat = n.val ∧ dest = .tube n) ∨ (place = 0x40#8 ∧ dest = .cashbox) ∨
      (place = 0x41#8 ∧ dest = .rejected)) ∧ i = .coinSeen c dest) ∨
  (∃ (n : Fin 64) (k : Byte), bytes = [2#8, BitVec.ofNat 8 n.val, k] ∧ i = .paid n k.toNat) ∨
  (∃ (n : Fin 64) (k : Byte) (sense : Sense), bytes = [3#8, BitVec.ofNat 8 n.val, k] ∧
    ((k = 0#8 ∧ sense = .empty) ∨ (k = 1#8 ∧ sense = .normal) ∨ (k = 2#8 ∧ sense = .full)) ∧
    i = .tubeSense n sense) ∨
  (∃ (b : BillId) (k : Byte) (event : BillEvent), bytes = [4#8, BitVec.ofNat 8 b.val, k] ∧
    ((k = 0#8 ∧ event = .escrowed) ∨ (k = 1#8 ∧ event = .stacked) ∨ (k = 2#8 ∧ event = .returned) ∨
      (k = 3#8 ∧ event = .rejected)) ∧ i = .billSeen b event) ∨
  (∃ hi lo : Byte, bytes = [5#8, hi, lo] ∧
    i = .cardOn (if hi = 0xFF#8 ∧ lo = 0xFF#8 then none else some (256 * hi.toNat + lo.toNat))) ∨
  (bytes = [6#8] ∧ i = .cardOff) ∨
  (∃ hi lo yes : Byte, bytes = [7#8, hi, lo, yes] ∧ yes.toNat < 2 ∧
    i = .chargeAnswer (256 * hi.toNat + lo.toNat) (decide (yes = 1#8))) ∨
  (∃ k : Byte, bytes = [8#8, k] ∧ i = .key k.toNat) ∨
  (bytes = [9#8] ∧ i = .lever) ∨
  (∃ k : Byte, bytes = [10#8, k] ∧ i = .fault k)

section
variable {code a b : Byte}

/-- Codes 1 to 5: the next item, where its two fields are in the table. -/
theorem nextItem_twoFields {i : Item} (h0 : code.toNat ≠ 0) (h5 : code.toNat ≤ 5) (hi : twoFieldItem code a b = some i)
    (rest : List Byte) : nextItem (code :: a :: b :: rest) = .item i rest := by
  rw [nextItem, if_neg (by omega), if_pos h5, hi]

theorem nextItem_twoFields_none (h0 : code.toNat ≠ 0) (h5 : code.toNat ≤ 5) (hi : twoFieldItem code a b = none)
    (rest : List Byte) : nextItem (code :: a :: b :: rest) = .unknown := by
  rw [nextItem, if_neg (by omega), if_pos h5, hi]
end

/-- Code 7. -/
theorem nextItem_charge (hi lo yes : Byte) (rest : List Byte) : nextItem (7#8 :: hi :: lo :: yes :: rest) =
    if yes.toNat < 2 then .item (.chargeAnswer (256 * hi.toNat + lo.toNat) (decide (yes = 1#8))) rest
    else .unknown := by
  have hyes : yes = 1#8 ↔ yes.toNat = 1 := by bv_omega
  simp only [nextItem, half_toNat, hyes]
  by_cases h0 : yes.toNat = 0
  · simp [h0]
  · by_cases h1 : yes.toNat = 1
    · simp [h1]
    · have h2 : ¬ yes.toNat < 2 := by omega
      simp [h0, h1, h2]

/-- The bytes of an item are read as the item. -/
theorem nextItem_of_reads {bytes : List Byte} {i : Item} (h : ItemReads bytes i) (rest : List Byte) :
    nextItem (bytes ++ rest) = .item i rest := by
  have h16 : (16 : Nat) ≤ 256 := by omega
  have h64 : (64 : Nat) ≤ 256 := by omega
  have h8 : (8 : Nat) ≤ 256 := by omega
  rcases h with ⟨c, place, dest, rfl, hd, rfl⟩ | ⟨n, k, rfl, rfl⟩ | ⟨n, k, sense, rfl, hs, rfl⟩ |
    ⟨b, k, event, rfl, he, rfl⟩ | ⟨hi, lo, rfl, rfl⟩ | ⟨rfl, rfl⟩ | ⟨hi, lo, yes, rfl, hy, rfl⟩ | ⟨k, rfl, rfl⟩ |
    ⟨rfl, rfl⟩ | ⟨k, rfl, rfl⟩
  · have hdest := coinDest_eq_some.mpr hd
    exact nextItem_twoFields (by decide) (by decide) (by simp [twoFieldItem, toNat_ofNat_fin h16, hdest]) rest
  · exact nextItem_twoFields (by decide) (by decide) (by simp [twoFieldItem, toNat_ofNat_fin h64]) rest
  · have hsense := senseOf_eq_some.mpr hs
    exact nextItem_twoFields (by decide) (by decide) (by simp [twoFieldItem, toNat_ofNat_fin h64, hsense]) rest
  · have hevent := billEvent_eq_some.mpr he
    exact nextItem_twoFields (by decide) (by decide) (by simp [twoFieldItem, toNat_ofNat_fin h8, hevent]) rest
  · refine nextItem_twoFields (by decide) (by decide) ?_ rest
    show some (Item.cardOn (if (half hi lo).toNat = 65535 then none else some (half hi lo).toNat)) = _
    simp only [half_toNat, bytes_eq_max]
  · rfl
  · exact (nextItem_charge hi lo yes rest).trans (if_pos hy)
  · rfl
  · rfl
  · rfl

/-- Two fields in the table spell an item. -/
theorem reads_of_twoFieldItem {code a b : Byte} {i : Item} (h : twoFieldItem code a b = some i) :
    ItemReads [code, a, b] i := by
  have hcode {k : Nat} (hk : code.toNat = k) : code = BitVec.ofNat 8 k := by rw [← hk, ofNat_toNat_byte]
  have ha := (ofNat_toNat_byte a).symm
  rw [twoFieldItem] at h
  split at h
  next hk =>
    split at h
    next h16 =>
      obtain ⟨dest, hd, rfl⟩ := Option.map_eq_some_iff.mp h
      exact .inl ⟨⟨a.toNat, h16⟩, b, dest, by rw [← ha, hcode hk], coinDest_eq_some.mp hd, rfl⟩
    next => cases h
  next hk =>
    split at h
    next h64 =>
      cases h
      exact .inr (.inl ⟨⟨a.toNat, h64⟩, b, by rw [← ha, hcode hk], rfl⟩)
    next => cases h
  next hk =>
    split at h
    next h64 =>
      obtain ⟨sense, hs, rfl⟩ := Option.map_eq_some_iff.mp h
      exact .inr (.inr (.inl ⟨⟨a.toNat, h64⟩, b, sense, by rw [← ha, hcode hk], senseOf_eq_some.mp hs, rfl⟩))
    next => cases h
  next hk =>
    split at h
    next h8 =>
      obtain ⟨event, he, rfl⟩ := Option.map_eq_some_iff.mp h
      exact .inr (.inr (.inr (.inl
        ⟨⟨a.toNat, h8⟩, b, event, by rw [← ha, hcode hk], billEvent_eq_some.mp he, rfl⟩)))
    next => cases h
  next hk =>
    cases h
    refine .inr (.inr (.inr (.inr (.inl ⟨a, b, by rw [hcode hk], ?_⟩))))
    simp only [half_toNat, bytes_eq_max]
  next => cases h

/-- The bytes an item takes, by its code. -/
def itemSizes : List Nat := [0, 3, 3, 3, 3, 3, 1, 4, 2, 1, 2]

/-- The codes of the table and the bytes each takes. -/
theorem itemSizes_eq_some {code : Byte} {n : Nat} (h : itemSizes[code.toNat]? = some n) (hn : 0 < n) :
    (code.toNat ≠ 0 ∧ code.toNat ≤ 5 ∧ n = 3) ∨ (code = 6#8 ∧ n = 1) ∨ (code = 7#8 ∧ n = 4) ∨ (code = 8#8 ∧ n = 2) ∨
      (code = 9#8 ∧ n = 1) ∨ (code = 10#8 ∧ n = 2) := by
  have hlt : code.toNat < 11 := (List.getElem?_eq_some_iff.mp h).1
  simp only [← BitVec.toNat_inj]
  generalize code.toNat = k at h hlt ⊢
  interval_cases k <;> obtain rfl := Option.some.inj h <;> simp at hn ⊢

/-- All the bytes of an item that none of the table is: the walk stops. -/
theorem nextItem_of_not_reads {code : Byte} {fields : List Byte}
    (hsize : itemSizes[code.toNat]? = some (fields.length + 1)) (h : ∀ i, ¬ ItemReads (code :: fields) i)
    (rest : List Byte) : nextItem (code :: (fields ++ rest)) = .unknown := by
  rcases itemSizes_eq_some hsize (Nat.succ_pos _) with ⟨h0, h5, hn⟩ | ⟨rfl, hn⟩ | ⟨rfl, hn⟩ |
    ⟨rfl, hn⟩ | ⟨rfl, hn⟩ | ⟨rfl, hn⟩
  · obtain ⟨a, b, rfl⟩ := List.length_eq_two.mp (Nat.succ.inj hn)
    refine nextItem_twoFields_none h0 h5 (Option.eq_none_iff_forall_ne_some.mpr fun i hi => ?_) rest
    exact h i (reads_of_twoFieldItem hi)
  · obtain rfl := List.eq_nil_of_length_eq_zero (Nat.succ.inj hn)
    exact absurd (by simp [ItemReads]) (h .cardOff)
  · obtain ⟨hi, lo, yes, rfl⟩ := List.length_eq_three.mp (Nat.succ.inj hn)
    refine (nextItem_charge hi lo yes rest).trans (if_neg fun hy => ?_)
    exact absurd (by simp [ItemReads, Nat.le_of_lt_succ hy])
      (h (.chargeAnswer (256 * hi.toNat + lo.toNat) (decide (yes = 1#8))))
  · obtain ⟨k, rfl⟩ := List.length_eq_one_iff.mp (Nat.succ.inj hn)
    exact absurd (by simp [ItemReads]) (h (.key k.toNat))
  · obtain rfl := List.eq_nil_of_length_eq_zero (Nat.succ.inj hn)
    exact absurd (by simp [ItemReads]) (h .lever)
  · obtain ⟨k, rfl⟩ := List.length_eq_one_iff.mp (Nat.succ.inj hn)
    exact absurd (by simp [ItemReads]) (h (.fault k))

/-- An item whose fields run past the end (log 16). -/
theorem nextItem_truncated {code : Byte} {fields : List Byte} {size : Nat} (hsize : itemSizes[code.toNat]? = some size)
    (hl : fields.length + 1 < size) : nextItem (code :: fields) = .truncated := by
  rcases itemSizes_eq_some hsize (by omega) with ⟨h0, h5, rfl⟩ | ⟨rfl, rfl⟩ | ⟨rfl, rfl⟩ |
    ⟨rfl, rfl⟩ | ⟨rfl, rfl⟩ | ⟨rfl, rfl⟩
  · match fields, hl with
    | [], _ | [_], _ => rw [nextItem.eq_def]; exact (if_neg (by omega)).trans (if_pos h5)
  · omega
  · match fields, hl with
    | [], _ | [_], _ | [_, _], _ => rfl
  · obtain rfl : fields = [] := List.eq_nil_of_length_eq_zero (by omega)
    rfl
  · omega
  · obtain rfl : fields = [] := List.eq_nil_of_length_eq_zero (by omega)
    rfl

/-! ### The judgement -/

section
variable {x : Exchange} {payload : List Byte}

theorem judgePayload_join (hj : x.request.kind = .join) :
    judgePayload x payload = if payload.length = 2 then .reply payload [] false else .miss false := by
  rw [judgePayload, if_pos hj]

theorem judgePayload_outer (hs : 4 ≤ x.station.val) (hj : x.request.kind ≠ .join) :
    judgePayload x payload = .reply payload [] false := by
  rw [judgePayload, if_neg hj, if_pos hs]
end

/-- Settles O47: a frame built is judged by its kind and payload, any other by its header first; the items by the code
they begin with. -/
theorem replyFrameJudged : Obligations.ReplyFrameJudged := by
  unfold Obligations.ReplyFrameJudged
  refine ⟨fun x payload hl => ?_, fun x h g rest => ?_, rfl, ?_, ?_, ?_, ?_⟩
  · have hreply := (judgeReply_built (x := x) (.inl rfl) hl).trans (if_neg (by decide))
    refine ⟨fun hs hj => hreply.trans (judgePayload_outer hs hj), fun hs hj => ?_,
      fun hj => hreply.trans (judgePayload_join hj), ?_⟩
    · rw [hreply, judgePayload, if_neg hj, if_neg (Nat.not_le.mpr hs)]
      cases readItems payload <;> rfl
    · refine (judgeReply_built (.inr rfl) hl).trans ((if_pos rfl).trans ?_)
      simp only [List.isEmpty_iff]
  · refine ⟨judgeReply_uncorrectable, fun hj => ?_⟩
    rw [judgeReply_header hj]
    exact ⟨judgeFrame_otherKind, judgeFrame_fault⟩
  · exact fun bytes rest i h => readItems_item (nextItem_of_reads h rest)
  · exact fun code rest h => readItems_unknown (if_pos (h.imp_left (congrArg BitVec.toNat)))
  · exact fun code fields rest hsize h => readItems_unknown (nextItem_of_not_reads hsize h rest)
  · exact fun code fields size hsize hl => readItems_truncated (nextItem_truncated hsize hl)

end Sys2Proof.Laws
end

section
/-! SUPPORT. The transmitter of the service link (R181) and the bytes of the frame it sends (R159). -/

namespace Sys2Proof.Laws
open Sys2Proof Sys2Proof.Machine

/-! ### One look of the transmitter (R181) -/

section
variable {s before : State}

theorem transmit_busy {f : OutFrame} (h : s.port.sending = some f) : s.transmit = s := by
  rw [State.transmit, if_pos (.inl (Option.isSome_iff_exists.mpr ⟨f, h⟩))]

theorem transmit_held (h : s.pins.hold = true) : s.transmit = s := by
  rw [State.transmit, if_pos (.inr h)]

/-- Idle and not held, it begins the ANSWER of the slot. -/
theorem transmit_begins_answer {a : Answer} (hi : s.port.sending = none) (hh : s.pins.hold = false)
    (ha : s.port.slot = some a) : s.transmit = s.setPort { s.port with slot := none, sending := some (.answer a) } := by
  rw [State.transmit, if_neg (by simp [hi, hh]), ha]

/-- With no ANSWER in the slot it begins the oldest report. -/
theorem transmit_begins_report {r : Report} {rs : List Report} (hi : s.port.sending = none) (hh : s.pins.hold = false)
    (ha : s.port.slot = none) (hr : s.port.reports = r :: rs) :
    s.transmit = s.setPort { s.port with reports := rs, sending := some (.report r) } := by
  rw [State.transmit, if_neg (by simp [hi, hh]), ha, hr]

/-! ### The end of a step -/

/-- A frame begun at the first look is being sent at the end of the step, and the slot is as the first look left it. -/
theorem stepEnd_sending {f : OutFrame} (h : s.transmit.port.sending = some f) :
    s.stepEnd.port.sending = some f ∧ s.stepEnd.port.slot = s.transmit.port.slot := by
  have hg := s.transmit.refreshSet_grows
  rw [State.stepEnd, State.beginSlot_port, transmit_busy (hg.sending.trans h)]
  exact ⟨hg.sending.trans h, hg.slot⟩

variable (hi : s.port.sending = none)
include hi

theorem ends_held (hh : s.pins.hold = true) : (s.eventEnd before).stepEnd.port.sending = none := by
  have hu : (s.eventEnd before).pins.hold = true := by rw [(LinksOnly.eventEnd s before).pins, hh]
  have hv : (s.eventEnd before).refreshSet.pins.hold = true := by rw [(LinksOnly.refreshSet _).pins, hu]
  rw [State.stepEnd, State.beginSlot_port, transmit_held hu, transmit_held hv, (State.refreshSet_grows _).sending,
    (s.eventEnd_grows before).sending, hi]

variable (hh : s.pins.hold = false)
include hh

/-- After an event that left the transmitter idle and an ANSWER in the slot, that ANSWER is being sent. -/
theorem ends_answer {a : Answer} (ha : s.port.slot = some a) :
    (s.eventEnd before).stepEnd.port.sending = some (.answer a) ∧ (s.eventEnd before).stepEnd.port.slot = none := by
  have hg := s.eventEnd_grows before
  have ht := transmit_begins_answer (hg.sending.trans hi) (by rw [(LinksOnly.eventEnd s before).pins, hh])
    (hg.slot.trans ha)
  have hp : (s.eventEnd before).transmit.port.slot = none := by rw [ht]; rfl
  obtain ⟨hsend, hslot⟩ := stepEnd_sending (s := s.eventEnd before) (f := .answer a) (by rw [ht]; rfl)
  exact ⟨hsend, hslot.trans hp⟩

/-- With no ANSWER in the slot, the oldest report is. -/
theorem ends_report {r : Report} {rs : List Report} (ha : s.port.slot = none) (hr : s.port.reports = r :: rs) :
    (s.eventEnd before).stepEnd.port.sending = some (.report r) := by
  have hg := s.eventEnd_grows before
  obtain ⟨more, hm⟩ := hg.reports
  rw [hr, List.cons_append] at hm
  have ht := transmit_begins_report (hg.sending.trans hi) (by rw [(LinksOnly.eventEnd s before).pins, hh])
    (hg.slot.trans ha) hm
  exact (stepEnd_sending (by rw [ht]; rfl)).1
end

/-! ### The bytes of a frame sent (R159, R160, R162) -/

theorem outFrame_payload_length (f : OutFrame) : f.payload.length ≤ 120 := List.length_take_le _ _

/-- A frame built with station field 0, turn bit 0 and direction 1. -/
theorem buildFrame_outward (k : Byte) (payload : List Byte) : ∃ check : Byte,
    (let h : Header := { h0 := k, h1 := 0x20#8, h2 := BitVec.ofNat 8 payload.length, check := check }
     judgeHeader h = .clean h) ∧
    buildFrame k 0 false true payload = [0x5A#8, k, 0x20#8, BitVec.ofNat 8 payload.length, check] ++ payload ++
      (if payload = [] then [] else twoBytes (crc payload).toNat) := by
  refine ⟨(builtHeader k 0 false true payload.length).check,
    judgeHeader_checked (builtHeader_checked k 0 false true _), ?_⟩
  rw [buildFrame_eq, frameTail]
  simp only [List.isEmpty_iff]
  rfl

/-- Settles O21: the frame begun is that of the transmitter's first look after the event, and its bytes are those of a
frame built. -/
theorem transmitterTakesAnswerFirst : Obligations.TransmitterTakesAnswerFirst := by
  unfold Obligations.TransmitterTakesAnswerFirst
  refine ⟨fun s => rfl, fun s => ?_, fun s f hf => ?_, fun s => ?_, fun s f hf => ?_⟩
  · let u := s.setPins { s.pins with hold := false }
    refine ⟨(u.eventEnd s).stepEnd, rfl, .ends _ _, fun hi a ha => ?_, fun hi ha r rs hr => ?_⟩
    · exact ends_answer (s := u) hi rfl ha
    · exact ends_report (s := u) hi rfl ha hr
  · let u := s.setPort { s.port with sending := none }
    have he : exec .frameTransmitted s = finish s u.only := by
      show execFrameTransmitted s = _
      rw [execFrameTransmitted, hf]
    refine ⟨(u.eventEnd s).stepEnd, he.trans ?_, .ends _ _, fun hh => ?_, fun hh a ha => ?_,
      fun hh ha r rs hr => ?_⟩
    · rw [finish, event, runOut_only]
    · exact ends_held (s := u) rfl hh
    · exact ends_answer (s := u) rfl hh ha
    · exact ends_report (s := u) rfl hh ha hr
  · cases hs : s.port.slot <;> simp [State.attention, hs]
  · intro code
    have hcode : f.code = code := by
      cases f with
      | answer a => rfl
      | report r => cases r <;> rfl
    obtain ⟨check, hclean, hbytes⟩ := buildFrame_outward f.code f.payload
    rw [hcode] at hclean hbytes
    refine ⟨f.payload, check, outFrame_payload_length f, hclean, ?_⟩
    rw [State.sentBytes, hf, Option.map_some, OutFrame.wire, hcode, hbytes]

end Sys2Proof.Laws
end

section
/-! SUPPORT. RELAY (R175, R190): its checks in their order, and the frame that joins the line queue. -/

namespace Sys2Proof.Laws
open Sys2Proof Sys2Proof.Machine

/-! ### An event that leaves the set handed (R37, R38) -/

section
variable {s u before : State}

theorem refreshSet_handed (h : SetHanded u) : u.refreshSet = u := by
  obtain ⟨hcur, hhanded⟩ := h
  have hp (st : StationId) : PartHanded st u := fun _ => by rw [hhanded]
  have same := recomputeSet_same hcur ⟨hp _, hp _, hp _⟩
  rw [State.refreshSet, same, same]

/-- An event that changes no money shows none (R31, R110). -/
theorem eventEnd_handed (h : SetHanded u) (hc : u.creditReport = before.creditReport) : u.eventEnd before = u := by
  have hcredit : u.ledger.credit = before.ledger.credit := congrArg CreditReport.credit hc
  have hescrow : u.escrowValue = before.escrowValue := congrArg CreditReport.escrowValue hc
  have hcard : u.card = before.card := congrArg CreditReport.card hc
  have hpanel : u.panelEnd before = u := if_neg (by simp [hcredit, hescrow, hcard])
  rw [State.eventEnd, State.creditEnd, if_pos hc, hpanel, refreshSet_handed h]

/-- The set still stands where the links left the cash record and the reports. -/
theorem setHanded_of_links (h : SetHanded s) (l : LinksOnly s u) (hcash : u.cash = s.cash)
    (hr : u.port.reports = s.port.reports) : SetHanded u := by
  obtain ⟨hcur, hhanded⟩ := h
  have hopen : u.reserveOpen = s.reserveOpen := by rw [State.reserveOpen, State.freeReports, hr]; rfl
  refine ⟨?_, by rw [hcash, hhanded]⟩
  rw [SetCurrent, hcash, acceptSet_of_links l hopen]
  exact hcur

/-- The transmitter takes the ANSWER before any report. -/
theorem transmit_reports {a : Answer} (ha : s.port.slot = some a) : s.transmit.port.reports = s.port.reports := by
  rw [State.transmit]
  split
  · rfl
  · rw [ha]
    rfl

/-- While the line is not IDLE and the set is handed, a request answered leaves the line as its own effect left it. -/
theorem ends_line {a : Answer} (h : SetHanded u) (hc : u.creditReport = before.creditReport)
    (ha : u.port.slot = some a) (hl : u.line.phase ≠ .idle) : (u.eventEnd before).stepEnd.line = u.line := by
  have ht : SetHanded u.transmit := setHanded_of_links h (.transmit u) (transmit_cash u) (transmit_reports ha)
  have hline : (u.transmit.transmit).line = u.line := by rw [State.transmit_line, State.transmit_line]
  rw [eventEnd_handed h hc, State.stepEnd, refreshSet_handed ht, State.beginSlot,
    if_neg (by rw [hline]; exact fun hc => hl hc.1), hline]
end

/-- R175: the line once a frame for a station has joined its queue with the next relay number. -/
def relayedLine (st : StationId) (kind : Byte) (payload : List Byte) (l : Line) : Line :=
  let number := nextRelayNumber l.lastRelay
  { l with
    lastRelay := number
    queue := l.queue ++
      [{ station := st, request := { kind := .relayed kind, payload := payload, relayNo := some number } }] }

/-! ### The checks of a RELAY (R175, R178, R190) -/

section
variable {s : State} {h : ReqHeader} {kind : Byte} {payload : List Byte}

theorem exec_relay (hslot : s.port.slot = none) : exec (.relay h kind payload) s =
    finish s (relayRequest h.station kind payload (s.noteHeader h)) := by
  show execRelay h kind payload s = _
  rw [execRelay]
  simp [hslot]

/-- A RELAY refused. -/
theorem relay_refused {code : ResultCode} (hslot : s.port.slot = none)
    (hb : relayRequest h.station kind payload (s.noteHeader h) = refuse .relay code (s.noteHeader h)) :
    ∃ t : State, exec (.relay h kind payload) s = .next t ∧
      LinksOnly { s with port := answeredPort s h .relay code .empty } t ∧
      t.newestAnswer = some (answerTo s h .relay code .empty) := by
  rw [exec_relay hslot, hb, refuse_noteHeader]
  exact request_answered s _ _ rfl

theorem isRelayedCode_iff : isRelayedCode kind = true ↔ 0xC0 ≤ kind.toNat ∧ kind.toNat ≤ 0xDF := by
  simp [isRelayedCode]

variable {st : StationId}

theorem relayRequest_station {n : Fin 8} (hst : n.val = st.val + 1) (s : State) :
    relayRequest n kind payload s = relayTo st kind payload s := by
  have hn : (⟨n.val - 1, by omega⟩ : StationId) = st := Fin.ext (by show n.val - 1 = st.val; omega)
  rw [relayRequest, dif_pos (by omega), hn]

theorem relayTo_forbidden (hf : kind.toNat < 0xC0 ∨ 0xDF < kind.toNat ∨ s.line.stations[st].downAllowed = false) :
    relayTo st kind payload s = refuse .relay .forbidden s := by
  refine if_pos ?_
  rw [Bool.not_eq_true', ← Bool.not_eq_true, Bool.and_eq_true, isRelayedCode_iff]
  rintro ⟨⟨hlo, hhi⟩, ha⟩
  rcases hf with hf | hf | hf
  · omega
  · omega
  · exact Bool.false_ne_true (hf.symm.trans ha)

section
variable (hlo : 0xC0 ≤ kind.toNat) (hhi : kind.toNat ≤ 0xDF) (ha : s.line.stations[st].downAllowed = true)
include hlo hhi ha

theorem relayTo_allowed : (!(isRelayedCode kind && s.line.stations[st].downAllowed)) = false := by
  rw [isRelayedCode_iff.mpr ⟨hlo, hhi⟩, ha]
  rfl

theorem relayTo_absent (hact : s.line.stations[st].active = false) :
    relayTo st kind payload s = refuse .relay .absent s := by
  rw [relayTo, relayTo_allowed hlo hhi ha, hact]
  rfl

variable (hact : s.line.stations[st].active = true)
include hact

theorem relayTo_queueFull (hroom : s.line.relayRoom = false) :
    relayTo st kind payload s = refuse .relay .queueFull s := by
  rw [relayTo, relayTo_allowed hlo hhi ha, hact, hroom]
  rfl

/-- A RELAY taken: the frame is the newest entry of the queue, and the ANSWER carries its number. -/
theorem relayTo_queued (hroom : s.line.relayRoom = true) :
    relayTo st kind payload (s.noteHeader h) =
      ((s.setLine (relayedLine st kind payload s.line)).setPort
        (answeredPort s h .relay .ok (.relayNumber (nextRelayNumber s.line.lastRelay))), []) := by
  rw [relayTo, State.noteHeader_line, relayTo_allowed hlo hhi ha, hact, hroom]
  exact congrArg (·, []) (setLine_answer s h .relay .ok _ _)
end

theorem relayRoom_of (h8 : (s.line.queue.filter QueueEntry.isRelay).length < 8) (h16 : s.line.queue.length < 16) :
    s.line.relayRoom = true := by
  rw [Line.relayRoom, Bool.and_eq_true, decide_eq_true_iff, decide_eq_true_iff]
  exact ⟨h8, h16⟩

theorem relayRoom_full (hf : 8 ≤ (s.line.queue.filter QueueEntry.isRelay).length ∨ 16 ≤ s.line.queue.length) :
    s.line.relayRoom = false := by
  rw [Line.relayRoom, Bool.and_eq_false_iff, decide_eq_false_iff_not, decide_eq_false_iff_not]
  exact hf.imp Nat.not_lt.mpr Nat.not_lt.mpr
end

/-- Settles O45: the checks in their order; the frame's own effect is the line's, which the links leave while an
exchange or a break stands and the set is handed. -/
theorem relayQueuesFrame : Obligations.RelayQueuesFrame := by
  unfold Obligations.RelayQueuesFrame
  intro s h kind payload hslot
  have line := s.noteHeader_line h
  refine ⟨fun h0 => relay_refused hslot (dif_neg (by omega)), fun st hst => ?_⟩
  have body := relayRequest_station (kind := kind) (payload := payload) hst (s.noteHeader h)
  refine ⟨fun hf => relay_refused hslot (body.trans (relayTo_forbidden (by rwa [line]))),
    fun hlo hhi ha => ⟨fun hact => ?_, fun hact => ⟨fun hfull => ?_, fun h8 h16 => ?_⟩⟩⟩
  · exact relay_refused hslot (body.trans (relayTo_absent hlo hhi (by rwa [line]) (by rwa [line])))
  · have hroom : (s.noteHeader h).line.relayRoom = false := by rw [line, relayRoom_full hfull]
    exact relay_refused hslot (body.trans (relayTo_queueFull hlo hhi (by rwa [line]) (by rwa [line]) hroom))
  · let u := (s.setLine (relayedLine st kind payload s.line)).setPort
      (answeredPort s h .relay .ok (.relayNumber (nextRelayNumber s.line.lastRelay)))
    have he : exec (.relay h kind payload) s = .next (u.eventEnd s).stepEnd := by
      rw [exec_relay hslot, body, relayTo_queued hlo hhi ha hact (relayRoom_of h8 h16), finish, event, runOut_nil]
    refine ⟨_, he, .ends u s, u.ends_newestAnswer s _ rfl, fun hl hh => ?_⟩
    have hu : SetHanded u := hh
    have hline : (u.eventEnd s).stepEnd.line = u.line :=
      ends_line (a := answerTo s h .relay .ok (.relayNumber (nextRelayNumber s.line.lastRelay))) hu rfl rfl hl
    rw [hline]
    rfl

end Sys2Proof.Laws
end

section
/-! SUPPORT. RESTART (R189, R166): what its inner steps do to the line, the sale unit and the mode, beside the
ANSWER. -/

namespace Sys2Proof.Laws
open Sys2Proof Sys2Proof.Machine

/-! ### When it is taken (R189) -/

section
variable {s : State} {h : ReqHeader}

theorem noteHeader_restartable : (s.noteHeader h).restartable = s.restartable := by
  simp [State.restartable, State.saleIdle, State.payIdle]

theorem restartable_iff : s.restartable = true ↔ s.sale.current = none ∧ s.payout.phase = .idle ∧
    s.ledger.credit = 0 ∧ s.ledger.hold = 0 ∧ s.cash.escrow = .empty := by
  simp [State.restartable, State.saleIdle, State.payIdle, and_assoc]

theorem restartRequest_busy (hb : s.restartable = false) :
    restartRequest (s.noteHeader h) = refuse .restart .busy (s.noteHeader h) :=
  if_neg (by rw [noteHeader_restartable, hb]; exact Bool.false_ne_true)

/-- A RESTART taken answers at once, and then restarts the line, the sale unit, the mode and the panel. -/
theorem restartRequest_taken (hr : s.restartable = true) :
    restartRequest (s.noteHeader h) = (s.setPort (answeredPort s h .restart .ok .empty),
      [.lineRestart, .saleRestart, .modeRestart, .showRestart]) := by
  rw [restartRequest, if_pos (noteHeader_restartable.trans hr), State.noteHeader_answer]
end

/-! ### The line's restart (R166) -/

section
variable {s : State} {js : List Job}

/-- During an exchange it waits for the end. -/
theorem lineRestart_waits {x : Exchange} (hl : s.line.phase = .exchange x) :
    Runs 1 (s, .lineRestart :: js) (s.setLine { s.line with restartDue := true }, js) := by
  refine Runs.quiet ?_
  show lineRestart s = _
  rw [lineRestart, hl]
  rfl

/-- On an IDLE line with no station ACTIVE the break is held at once. -/
theorem lineRestart_breaks (hl : s.line.phase = .idle) (ha : ∀ st : StationId, s.line.stations[st].active = false) :
    Runs 2 (s, .lineRestart :: js) (s.holdBreak, js) := by
  have hjobs : restartJobs s = [.lineBreak] := by
    have hnone : allStations.filter (fun st => s.active st) = [] := List.filter_eq_nil_iff.mpr fun st _ => by
      rw [State.active, ha st]
      exact Bool.false_ne_true
    rw [restartJobs, hnone]
    rfl
  have hline : runOne .lineRestart s = (s, [.lineBreak]) := by
    show lineRestart s = _
    rw [lineRestart, hl, hjobs]
  exact (Runs.step hline).trans (Runs.quiet rfl)

/-! ### The units behind the line (R189, R91) -/

/-- `s` with the requested mode SETUP and the pending return cleared. -/
def unitsRestarted (s : State) : State :=
  (s.setSale { s.sale with pendingReturn := false }).setMode { s.mode with requested := .setup }

/-- From SETUP the units' restart notes the mode and keeps the panel's message, and no more. -/
theorem unitsRestart_runs (hm : s.mode.effective = .setup) : ∃ w : State,
    Runs 3 (s, [.saleRestart, .modeRestart, .showRestart]) (w, []) ∧ LinksOnly (unitsRestarted s) w ∧
      w.port.slot = s.port.slot := by
  let noted := (unitsRestarted s).modeNote .setup .restart
  have hstands : modeChange .restart (unitsRestarted s) = none := if_pos hm.symm
  have hmode : runOne .modeRestart s.saleRestart = (noted, []) := by
    show (match modeChange .restart (unitsRestarted s) with
      | some o => o
      | none => ((unitsRestarted s).modeNote s.mode.effective .restart).only) = _
    rw [hstands, hm]
    rfl
  have hnoted : LinksOnly (unitsRestarted s) noted := .report _ _ rfl
  refine ⟨noted.showRestart, ?_, hnoted.trans (.ofShow _ _), ?_⟩
  · exact ((Runs.quiet rfl).trans (Runs.quiet hmode)).trans (Runs.quiet rfl)
  · exact ((unitsRestarted s).report_grows _ rfl).slot
end

/-! ### The request -/

/-- What a RESTART answers whose line restart runs to `l`. -/
theorem restart_answered {s : State} {h : ReqHeader} {l : Line} {k : Nat} (ht : s.takes h) (hr : s.restartable = true)
    (hm : s.mode.effective = .setup) (hk : k ≤ 8)
    (hline : Runs k (s.setPort (answeredPort s h .restart .ok .empty),
        [.lineRestart, .saleRestart, .modeRestart, .showRestart])
      ((s.setPort (answeredPort s h .restart .ok .empty)).setLine l, [.saleRestart, .modeRestart, .showRestart])) :
    ∃ t : State, exec (.restart h) s = .next t ∧
      LinksOnly { s with line := l, sale := { s.sale with pendingReturn := false }
                         mode := { s.mode with requested := .setup }
                         port := answeredPort s h .restart .ok .empty } t ∧
      t.newestAnswer = some (answerTo s h .restart .ok .empty) := by
  let u := (s.setPort (answeredPort s h .restart .ok .empty)).setLine l
  obtain ⟨w, hw, hlinks, hslot⟩ := unitsRestart_runs (s := u) hm
  have hruns := (hline.trans hw).runOut (by omega)
  have he : exec (.restart h) s = .next (w.eventEnd s).stepEnd := by
    show takeRequest h .restart restartRequest s = _
    rw [takeRequest_taken h .restart _ s ht, restartRequest_taken hr, finish, event, hruns]
  exact ⟨_, he, hlinks.trans (.ends w s), w.ends_newestAnswer s _ (hslot.trans rfl)⟩

/-- Settles O44: the line restarts first, by its phase; the sale unit and the mode follow. -/
theorem restartRestarts : Obligations.RestartRestarts := by
  unfold Obligations.RestartRestarts
  intro s h ht
  refine ⟨fun hb => ?_, fun hsale hpay hcredit hhold hescrow hm => ?_⟩
  · have hbusy : s.restartable = false := by
      rw [← Bool.not_eq_true, restartable_iff]
      tauto
    exact request_refused (c := .restart h) ht rfl (restartRequest_busy hbusy)
  · have hr : s.restartable = true := restartable_iff.mpr ⟨hsale, hpay, hcredit, hhold, hescrow⟩
    refine ⟨fun x hl => restart_answered ht hr hm (by omega) (lineRestart_waits hl), fun hl ha => ?_⟩
    obtain ⟨t, he, hlinks, hanswer⟩ := restart_answered (l := s.holdBreak.line) ht hr hm (k := 2) (by omega)
      (lineRestart_breaks hl ha)
    refine ⟨t, s.holdBreak.line.stations, he, fun st => ?_, hlinks, hanswer⟩
    show (Vector.ofFn fun i : Fin 7 => (s.line.stations[i]).restarted (s.now + 100))[st] = _
    simp [Station.restarted, Station.powerOn]

end Sys2Proof.Laws
end

section
/-! SUPPORT. When a slot begins (R172): what stands on the line as the step ends, the JOIN of a due probe (R167) and the
repeat of an outstanding request (R170). -/

namespace Sys2Proof.Laws
open Sys2Proof Sys2Proof.Machine

/-! ### The line before the slot (R37, R110, R181) -/

/-- `t` has the clock of `s` and its line but for the queue, which gains entries of ACTIVE stations alone. -/
structure QueueAside (s t : State) : Prop where
  now : t.now = s.now
  line : t.line = { s.line with queue := t.line.queue }
  queue : ∀ e ∈ t.line.queue, e ∈ s.line.queue ∨ s.line.stations[e.station].active = true

theorem QueueAside.refl (s : State) : QueueAside s s := ⟨rfl, rfl, fun _ => .inl⟩

theorem QueueAside.trans {s t u : State} (h : QueueAside s t) (k : QueueAside t u) : QueueAside s u := by
  refine ⟨k.now.trans h.now, ?_, fun e he => ?_⟩
  · rw [k.line, h.line]
  · rcases k.queue e he with ht | ht
    · exact h.queue e ht
    · rw [h.line] at ht
      exact .inr ht

/-- What leaves the line and the clock. -/
theorem QueueAside.of_eq {s t : State} (hn : t.now = s.now) (hl : t.line = s.line) : QueueAside s t :=
  ⟨hn, by rw [hl], fun e he => .inl (hl ▸ he)⟩

section
variable (s : State)

theorem QueueAside.hand (st : StationId) (r : LineRequest) : QueueAside s (s.hand st r) := by
  refine ⟨by simp, by rw [State.hand_line], fun e he => ?_⟩
  rcases State.mem_hand_queue he with hq | ⟨ha, rfl, -⟩
  · exact .inl hq
  · exact .inr ha

theorem QueueAside.handPart (st : StationId) : QueueAside s (s.handPart st) := by
  unfold State.handPart
  split
  · exact (QueueAside.of_eq (by simp) (by simp)).trans (.hand _ _ _)
  · exact .refl s

theorem QueueAside.refreshSet : QueueAside s s.refreshSet := by
  have recompute (u : State) : QueueAside u u.recomputeSet :=
    have given : QueueAside u (u.setCash { u.cash with acceptance := acceptSet u }) := .of_eq rfl rfl
    ((given.trans (.handPart _ coinMech)).trans (.handPart _ validator)).trans (.handPart _ reader)
  exact (recompute s).trans (recompute _)

theorem QueueAside.eventEnd (before : State) : QueueAside s (s.eventEnd before) := by
  have credit : QueueAside s (s.creditEnd before) := by
    unfold State.creditEnd
    split
    · exact .refl s
    · exact .of_eq (by simp) (by simp)
  have panelled (u : State) : QueueAside u (u.panelEnd before) := by
    unfold State.panelEnd
    split
    · have shown : QueueAside u (u.setSale { u.sale with lastShow := (.credit, u.funds) }) := .of_eq rfl rfl
      exact shown.trans (.hand _ panel (showRequest (.credit, u.funds)))
    · exact .refl u
  exact (credit.trans (panelled _)).trans (.refreshSet _)

theorem QueueAside.transmit : QueueAside s s.transmit :=
  .of_eq (LinksOnly.transmit s).now s.transmit_line

/-- A step ends with the slot that a state beside it begins. -/
theorem ends_slot (before : State) : ∃ v, QueueAside s v ∧ (s.eventEnd before).stepEnd = v.beginSlot :=
  ⟨_, (((QueueAside.eventEnd s before).trans (.transmit _)).trans (.refreshSet _)).trans (.transmit _), rfl⟩
end

/-! ### Which station is asked (R172) -/

section
variable {s : State} {st : StationId}

theorem allStations_mem : ∀ st : StationId, st ∈ allStations := by decide

/-- The lowest-numbered station that passes a test. -/
theorem find_allStations {p : StationId → Bool} (h : p st = true) (first : ∀ j < st, p j = false) :
    allStations.find? p = some st := by
  have hfin : allStations = List.finRange 7 := by decide
  rw [hfin, List.find?_eq_some_iff_getElem]
  refine ⟨h, st.val, by simp, by simp, fun j hj => ?_⟩
  have hfirst := first ⟨j, hj.trans st.isLt⟩ hj
  simpa using hfirst

/-- The station is not ACTIVE and its probe has come due (R167). -/
def probeIsDue (r : Station) (now : Nat) : Bool :=
  !r.active && (match r.probeAt with
    | some t => decide (t ≤ now)
    | none => false)

theorem dueProbe_eq (s : State) : s.dueProbe = allStations.find? fun st => probeIsDue s.line.stations[st] s.now := rfl

section
variable {r : Station} {now p : Nat}

theorem probeIsDue_of (ha : r.active = false) (hp : r.probeAt = some p) (hle : p ≤ now) : probeIsDue r now = true := by
  simp [probeIsDue, ha, hp, hle]

theorem probeIsDue_not (h : r.active = true ∨ ∀ p, r.probeAt = some p → now < p) : probeIsDue r now = false := by
  rcases h with ha | hlate
  · simp [probeIsDue, ha]
  · cases hp : r.probeAt with
    | none => simp [probeIsDue, hp]
    | some p => simp [probeIsDue, hp, hlate p hp]
end

theorem dueProbe_lowest {p : Nat} (hact : s.line.stations[st].active = false)
    (hp : s.line.stations[st].probeAt = some p) (hle : p ≤ s.now)
    (first : ∀ j : StationId, j < st → s.line.stations[j].active = true ∨
      ∀ p, s.line.stations[j].probeAt = some p → s.now < p) : s.dueProbe = some st := by
  rw [dueProbe_eq]
  exact find_allStations (probeIsDue_of hact hp hle) fun j hj => probeIsDue_not (first j hj)

theorem dueProbe_none (h : ∀ j : StationId, s.line.stations[j].active = true ∨
    ∀ p, s.line.stations[j].probeAt = some p → s.now < p) : s.dueProbe = none := by
  rw [dueProbe_eq, List.find?_eq_none]
  exact fun j _ => Bool.eq_false_iff.mp (probeIsDue_not (h j))

/-- The one eligible station is polled. -/
theorem nextPolled_lone (he : s.line.stations[st].eligible s.now = true)
    (lone : ∀ j : StationId, j ≠ st → s.line.stations[j].active = false) : s.nextPolled = some st := by
  have hmem : st ∈ allStations.map fun k => s.line.lastPolled + 1 + k :=
    List.mem_map.mpr ⟨st - (s.line.lastPolled + 1), allStations_mem _, add_sub_cancel _ _⟩
  obtain ⟨j, hj⟩ := Option.isSome_iff_exists.mp
    (List.find?_isSome.mpr ⟨st, hmem, he⟩ :
      ((allStations.map fun k => s.line.lastPolled + 1 + k).find? fun k =>
        (s.line.stations[k]).eligible s.now).isSome = true)
  have helig : (s.line.stations[j]).eligible s.now = true := State.nextPolled_eligible hj
  by_cases hne : j = st
  · exact hne ▸ hj
  · rw [Station.eligible, lone j hne] at helig
    cases helig

/-- With the queue empty a command slot sends nothing. -/
theorem commandEntry_empty (h : s.line.queue = []) : s.commandEntry = none := by
  simp [State.commandEntry, h, takeEntry]

/-- Nor does it where the one ACTIVE station has a request outstanding. -/
theorem commandEntry_outstanding (ho : s.line.stations[st].outstanding ≠ none)
    (lone : ∀ j : StationId, j ≠ st → s.line.stations[j].active = false) : s.commandEntry = none := by
  refine Option.eq_none_iff_forall_ne_some.mpr fun p hp => ?_
  have helig := State.commandEntry_eligible hp
  by_cases hne : p.1.station = st
  · exact ho (hne ▸ (State.commandEntry_spec hp).1)
  · rw [Station.eligible, lone _ hne] at helig
    cases helig

/-! ### The slot -/

theorem send_line (r : LineRequest) : (s.send st r).line.phase = .exchange
      { station := st, request := r, turn := s.line.stations[st].turn, wire := r.wire st s.line.stations[st].turn
        windowEnd := s.now + 25 } ∧
    (s.send st r).line.nextSlot = s.line.nextSlot ∧ (s.send st r).line.lastPolled = s.line.lastPolled := by
  rw [State.send]
  split <;> exact ⟨rfl, rfl, rfl⟩

/-- The slot is a poll slot, by its turn or for want of an entry to send. -/
theorem beginSlot_polls (hl : s.line.phase = .idle) (hr : s.line.restartDue = false)
    (h : s.line.nextSlot = .poll ∨ s.commandEntry = none) : s.beginSlot = s.pollSlot := by
  rw [State.beginSlot, if_pos ⟨hl, hr⟩]
  cases hn : s.line.nextSlot with
  | poll => rfl
  | command =>
    rw [h.resolve_left (by simp [hn])]

theorem pollSlot_joins (hd : s.dueProbe = some st) :
    s.pollSlot = (s.setLine { s.line with nextSlot := .command }).send st (.plain .join) := by
  have hd' : (s.setLine { s.line with nextSlot := .command }).dueProbe = some st := hd
  rw [State.pollSlot, hd']

theorem pollSlot_polls (hd : s.dueProbe = none) (hp : s.nextPolled = some st) :
    s.pollSlot = (s.setLine { s.line with nextSlot := .command, lastPolled := st }).send st
      (s.line.stations[st].outstanding.getD (.plain .call)) := by
  have hd' : (s.setLine { s.line with nextSlot := .command }).dueProbe = none := hd
  have hp' : (s.setLine { s.line with nextSlot := .command }).nextPolled = some st := hp
  rw [State.pollSlot, hd', hp']
  rfl
end

/-! ### The slot that ends the step -/

section
variable {u : State} {st : StationId} (before : State) (hl : u.line.phase = .idle) (hr : u.line.restartDue = false)
include hl hr

/-- The JOIN of the lowest-numbered station whose probe is due. -/
theorem ends_joins {p : Nat} (hact : u.line.stations[st].active = false) (hp : u.line.stations[st].probeAt = some p)
    (hle : p ≤ u.now)
    (first : ∀ j : StationId, j < st → u.line.stations[j].active = true ∨
      ∀ p, u.line.stations[j].probeAt = some p → u.now < p)
    (turn : u.line.nextSlot = .poll ∨
      (u.line.queue = [] ∧ ∀ j : StationId, u.line.stations[j].active = false)) :
    (u.eventEnd before).stepEnd.line.phase = .exchange
      { station := st, request := .plain .join, turn := u.line.stations[st].turn
        wire := buildFrame 0x81#8 (st.val + 1) u.line.stations[st].turn false [], windowEnd := u.now + 25 } ∧
    (u.eventEnd before).stepEnd.line.nextSlot = .command := by
  obtain ⟨v, ⟨hnow, hline, hqueue⟩, hv⟩ := ends_slot u before
  have hd : v.dueProbe = some st := by
    have hstations : v.line.stations = u.line.stations := by rw [hline]
    refine dueProbe_lowest (p := p) ?_ ?_ (by rwa [hnow]) ?_ <;> rw [hstations]
    · exact hact
    · exact hp
    · rwa [hnow]
  have hslot : v.line.nextSlot = .poll ∨ v.commandEntry = none := by
    refine turn.imp (fun h => by rw [hline, h]) fun ⟨hq, ha⟩ => commandEntry_empty ?_
    refine List.eq_nil_iff_forall_not_mem.mpr fun e he => ?_
    rcases hqueue e he with h | h
    · rw [hq] at h
      cases h
    · exact Bool.false_ne_true ((ha e.station).symm.trans h)
  rw [hv, beginSlot_polls (by rw [hline, hl]) (by rw [hline, hr]) hslot, pollSlot_joins hd]
  obtain ⟨hphase, hnext, -⟩ := send_line (s := v.setLine { v.line with nextSlot := .command }) (st := st) (.plain .join)
  refine ⟨hphase.trans ?_, hnext⟩
  simp only [State.setLine_line, State.setLine_now, hnow]
  rw [hline]
  rfl

/-- The repeat of the outstanding request of the one ACTIVE station, where it is eligible and no probe is due. -/
theorem ends_repeats {q : LineRequest} (he : u.line.stations[st].eligible u.now = true)
    (ho : u.line.stations[st].outstanding = some q)
    (lone : ∀ j : StationId, j ≠ st → u.line.stations[j].active = false ∧
      ∀ p, u.line.stations[j].probeAt = some p → u.now < p) :
    (u.eventEnd before).stepEnd.line.lastPolled = st ∧
    (u.eventEnd before).stepEnd.line.phase = .exchange
      { station := st, request := q, turn := u.line.stations[st].turn
        wire := buildFrame q.kind.code (st.val + 1) u.line.stations[st].turn false q.payload
        windowEnd := u.now + 25 } := by
  obtain ⟨v, ⟨hnow, hline, -⟩, hv⟩ := ends_slot u before
  have hstations : v.line.stations = u.line.stations := by rw [hline]
  have hact : u.line.stations[st].active = true := by
    rw [Station.eligible, Bool.and_eq_true] at he
    exact he.1
  have hd : v.dueProbe = none := dueProbe_none fun j => by
    rw [hstations, hnow]
    by_cases hj : j = st
    · exact .inl (hj ▸ hact)
    · exact .inr (lone j hj).2
  have alone (j : StationId) (hj : j ≠ st) : v.line.stations[j].active = false := by rw [hstations, (lone j hj).1]
  have hp : v.nextPolled = some st := nextPolled_lone (by rw [hstations, hnow, he]) alone
  have hnone : v.commandEntry = none := commandEntry_outstanding (st := st) (by rw [hstations, ho]; exact nofun) alone
  rw [hv, beginSlot_polls (by rw [hline, hl]) (by rw [hline, hr]) (.inr hnone), pollSlot_polls hd hp, hstations, ho]
  obtain ⟨hphase, -, hlast⟩ :=
    send_line (s := v.setLine { v.line with nextSlot := .command, lastPolled := st }) (st := st) q
  refine ⟨hlast, hphase.trans ?_⟩
  simp only [State.setLine_line, State.setLine_now, hnow, hstations]
  rfl
end

/-- Settles O46: each command ends with a poll slot, which asks the due probe's station or repeats to the one ACTIVE
station. -/
theorem slotsBeginWhenDue : Obligations.SlotsBeginWhenDue := by
  unfold Obligations.SlotsBeginWhenDue
  intro s st hr
  refine ⟨fun ends hl hn ⟨hact, ⟨p, hp, hle⟩, first⟩ => ?_, fun due hl hp ⟨hact, _, first⟩ turn => ?_,
    fun due q hl hact hretry ho lone => ?_⟩
  · let u : State := { s.advanceTo ends with line := { s.line with phase := .idle } }
    have hnow : u.now = max s.now ends := s.advanceTo_now ends
    have he : exec .lineBreakEnd s = .next (u.eventEnd s).stepEnd := by
      show execLineBreakEnd s = _
      rw [execLineBreakEnd, hl]
      show finish s ((s.advanceTo ends).setLine { (s.advanceTo ends).line with phase := .idle }).only = _
      rw [finish, event, runOut_only, State.advanceTo_line]
      rfl
    have hj := ends_joins (u := u) s rfl hr hact hp (by rwa [hnow]) (by rwa [hnow]) (.inl hn)
    rw [hnow] at hj
    exact ⟨_, he, hj, .ends u s⟩
  · let u := s.advanceTo due
    have hnow : u.now = max s.now due := s.advanceTo_now due
    have hline : u.line = s.line := s.advanceTo_line due
    have he : exec (.probeDue st) s = .next (u.eventEnd s).stepEnd := by
      show execProbeDue st s = _
      rw [execProbeDue, hact, hp]
      show finish s u.only = _
      rw [finish, event, runOut_only]
    have hj := ends_joins (u := u) (st := st) (p := due) s (by rw [hline, hl]) (by rw [hline, hr])
      (by rw [hline, hact]) (by rw [hline, hp]) (by rw [hnow]; exact le_max_right _ _) (by rwa [hline, hnow])
      (by rwa [hline])
    rw [hnow, hline] at hj
    exact ⟨_, he, hj, .ends u s⟩
  · let u := s.advanceTo due
    have hnow : u.now = max s.now due := s.advanceTo_now due
    have hline : u.line = s.line := s.advanceTo_line due
    have he : exec (.retryAt st) s = .next (u.eventEnd s).stepEnd := by
      show execRetryAt st s = _
      rw [execRetryAt, hretry]
      show finish s u.only = _
      rw [finish, event, runOut_only]
    have helig : u.line.stations[st].eligible u.now = true := by
      rw [hline, hnow, Station.eligible, hact, hretry]
      simp
    obtain ⟨hlast, hphase⟩ := ends_repeats (u := u) s (by rw [hline, hl]) (by rw [hline, hr]) helig
      (by rw [hline, ho]) (by rwa [hline, hnow])
    rw [hnow, hline] at hphase
    exact ⟨_, he, .ends u s, hlast, hphase⟩

end Sys2Proof.Laws
end

section
/-! SUPPORT. The report queue's bound (R191) and the derived mode with its fill flag (R184, R186): which changes of the
port and of the mode record keep them, and what the shared operations make of both. -/

namespace Sys2Proof.Laws
open Sys2Proof Sys2Proof.Machine

/-! ### The report queue (R191, R192) -/

theorem dropNewestStatus_length : ∀ {l m : List Report}, dropNewestStatus l = some m → m.length + 1 = l.length
  | [], _, h => by cases h
  | r :: rs, m, h => by
    rw [dropNewestStatus] at h
    split at h
    · rename_i rs' hd
      obtain rfl := Option.some.inj h
      simpa using dropNewestStatus_length hd
    · split at h
      · obtain rfl := Option.some.inj h
        rfl
      · cases h

theorem takeClass_length {k : JoinClass} : ∀ {l : List Report} {p : Report × List Report},
    takeClass k l = some p → p.2.length + 1 = l.length
  | [], _, h => by cases h
  | r :: rs, p, h => by
    rw [takeClass] at h
    split at h
    · obtain rfl := Option.some.inj h
      rfl
    · obtain ⟨q, hq, rfl⟩ := Option.map_eq_some_iff.mp h
      simpa using takeClass_length hq

theorem joinOldest_length : ∀ {l m : List Report}, joinOldest l = some m → m.length + 1 = l.length
  | [], _, h => by cases h
  | r :: rs, m, h => by
    rw [joinOldest] at h
    split at h
    · rename_i r2 rest hb
      obtain rfl := Option.some.inj h
      obtain ⟨k, -, hk⟩ := Option.bind_eq_some_iff.mp hb
      simpa using takeClass_length hk
    · obtain ⟨m', hm, rfl⟩ := Option.map_eq_some_iff.mp h
      simpa using joinOldest_length hm

theorem mergeNewest_length {fill : Bool} {coin : CoinId} {dest : Route} : ∀ {l m : List Report},
    mergeNewest fill coin dest l = some m → m.length = l.length := by
  intro l
  fun_induction mergeNewest fill coin dest l with
  | case1 | case3 => nofun
  | case2 =>
    intro m h
    obtain ⟨c, -, rfl⟩ := Option.map_eq_some_iff.mp h
    rfl
  | case4 => nofun
  | case5 r r2 rs ih =>
    intro m h
    obtain ⟨m', hm, rfl⟩ := Option.map_eq_some_iff.mp h
    simpa using ih hm

/-- A report that must join finds the queue with room, or takes the place of a report removed or joined (R191). -/
theorem mustJoin_fits (s : State) (r : Report) (h : s.port.reports.length ≤ 32) :
    (s.mustJoin r).port.reports.length ≤ 32 := by
  fun_cases State.mustJoin s r with
  | case1 hroom =>
    have room : s.port.reports.length < 32 := hroom
    simpa [State.pushReport] using room
  | case2 _ l hl =>
    have := dropNewestStatus_length hl
    simp only [State.flag, State.pushReport, State.setPort_port, List.length_append, List.length_singleton]
    omega
  | case3 _ _ l hl =>
    have := joinOldest_length hl
    simp only [State.pushReport, State.setPort_port, List.length_append, List.length_singleton]
    omega
  | case4 => exact h

/-- Whatever report a block hands, the bound holds (R191). -/
theorem report_fits (s : State) (r : Report) (h : s.port.reports.length ≤ 32) :
    (s.report r).port.reports.length ≤ 32 := by
  fun_cases State.report s r with
  | case1 _ hopen =>
    have room : 12 < 32 - s.port.reports.length := of_decide_eq_true hopen
    simp only [State.pushReport, State.setPort_port, List.length_append, List.length_singleton]
    omega
  | case2 => exact h
  | case3 => exact mustJoin_fits s r h

theorem coinIn_fits (s : State) (f : Bool) (c : CoinId) (d : Route) (h : s.port.reports.length ≤ 32) :
    (s.coinIn f c d).port.reports.length ≤ 32 := by
  fun_cases State.coinIn s f c d with
  | case1 l hl => exact (mergeNewest_length hl).trans_le h
  | case2 => exact report_fits s _ h

/-! ### The mode record (R184, R186, R187) -/

/-- R184, R186, of a mode record. -/
def Derived (m : ModeRecord) : Prop :=
  m.effective = deriveMode m.requested m.door ∧ (m.fill = true → m.effective = .service)

theorem modeDerived_iff (s : State) : ModeDerived s ↔ Derived s.mode := Iff.rfl

/-- The record with another request and another door: the effective mode derived again, and the fill flag cleared as
SERVICE is left (R184, R186). -/
def movedMode (m : ModeRecord) (requested : Mode) (door : Door) : ModeRecord where
  requested := requested
  door := door
  effective := deriveMode requested door
  fill := if m.effective = .service ∧ deriveMode requested door ≠ .service then false else m.fill

theorem movedMode_derived {m : ModeRecord} (h : Derived m) (requested : Mode) (door : Door) :
    Derived (movedMode m requested door) := by
  obtain ⟨-, hfill⟩ := h
  refine ⟨rfl, fun hset => ?_⟩
  unfold movedMode at hset ⊢
  dsimp only at hset ⊢
  split at hset
  · cases hset
  · rename_i hstays
    exact not_not.mp fun hne => hstays ⟨hfill hset, hne⟩

/-- Deriving the mode again after a request or a door: the record moves, whether or not the effective mode changes. -/
theorem modeChange_mode (c : ModeCause) (s u : State) (requested : Mode) (door : Door)
    (hu : u.mode = { s.mode with requested := requested, door := door }) :
    ((modeChange c u).getD u.only).1.mode = movedMode s.mode requested door := by
  unfold modeChange
  dsimp only
  rw [hu]
  dsimp only
  split
  · rename_i same
    rw [movedMode, same]
    simpa using hu
  · rename_i changed
    simp only [Option.getD_some, State.setModes_mode, movedMode]
    congr 1
    split
    · rename_i serving
      rw [if_pos ⟨serving, fun h => changed (h.trans serving.symm)⟩]
    · rename_i away
      rw [if_neg fun h => away h.1]

/-- What deriving the mode again changes is the mode record. -/
theorem modeChange_port (c : ModeCause) (u : State) : ((modeChange c u).getD u.only).1.port = u.port := by
  fun_cases modeChange c u <;> rfl

/-! ### What a step keeps of both -/

/-- `t` has the report queue's bound where `s` has it, and the derived mode where `s` has it. -/
structure Upholds (s t : State) : Prop where
  reports : s.port.reports.length ≤ 32 → t.port.reports.length ≤ 32
  mode : Derived s.mode → Derived t.mode

theorem Upholds.refl (s : State) : Upholds s s := ⟨id, id⟩

/-- The same mode record, and a report queue no longer than it was. -/
theorem Upholds.shrinks {s t u : State} (h : Upholds s t) (hr : u.port.reports.length ≤ t.port.reports.length)
    (hm : u.mode = t.mode) : Upholds s u :=
  ⟨fun hs => hr.trans (h.reports hs), fun hs => hm ▸ h.mode hs⟩

/-- The same reports and the same mode record. -/
theorem upholds_iff {s t u : State} (hr : u.port.reports = t.port.reports) (hm : u.mode = t.mode) :
    Upholds s u ↔ Upholds s t :=
  ⟨fun h => h.shrinks (by rw [hr]) hm.symm, fun h => h.shrinks (by rw [hr]) hm⟩

/-- What every operation upholds, operations one after another uphold. -/
theorem upholds_foldl {α : Type} {s : State} {f : State → α → State}
    (hf : ∀ u a, Upholds s u → Upholds s (f u a)) :
    ∀ (l : List α) {u : State}, Upholds s u → Upholds s (l.foldl f u)
  | [], _, h => h
  | a :: l, _, h => upholds_foldl hf l (hf _ a h)

/-! ### What leaves the reports and the mode record alone -/

section
variable {s u : State}

@[simp] theorem upholds_setNow (n : Nat) : Upholds s (u.setNow n) ↔ Upholds s u := upholds_iff rfl rfl
@[simp] theorem upholds_setPins (p : Pins) : Upholds s (u.setPins p) ↔ Upholds s u := upholds_iff rfl rfl
@[simp] theorem upholds_setCash (c : Cash) : Upholds s (u.setCash c) ↔ Upholds s u := upholds_iff rfl rfl
@[simp] theorem upholds_setTube (n : TubeId) (t : Tube) : Upholds s (u.setTube n t) ↔ Upholds s u :=
  upholds_iff rfl rfl
@[simp] theorem upholds_setEscrow (e : Escrow) : Upholds s (u.setEscrow e) ↔ Upholds s u := upholds_iff rfl rfl
@[simp] theorem upholds_setLedger (l : Ledger) : Upholds s (u.setLedger l) ↔ Upholds s u := upholds_iff rfl rfl
@[simp] theorem upholds_setCard (c : Card) : Upholds s (u.setCard c) ↔ Upholds s u := upholds_iff rfl rfl
@[simp] theorem upholds_setPayout (p : Payout) : Upholds s (u.setPayout p) ↔ Upholds s u := upholds_iff rfl rfl
@[simp] theorem upholds_setMap (m : SelMap) : Upholds s (u.setMap m) ↔ Upholds s u := upholds_iff rfl rfl
@[simp] theorem upholds_setDrive (d : Drive) : Upholds s (u.setDrive d) ↔ Upholds s u := upholds_iff rfl rfl
@[simp] theorem upholds_setAttempt (a : Option Attempt) : Upholds s (u.setAttempt a) ↔ Upholds s u :=
  upholds_iff rfl rfl
@[simp] theorem upholds_setCurrent (n : Nat) : Upholds s (u.setCurrent n) ↔ Upholds s u := upholds_iff rfl rfl
@[simp] theorem upholds_setSale (x : SaleUnit) : Upholds s (u.setSale x) ↔ Upholds s u := upholds_iff rfl rfl
@[simp] theorem upholds_setCurrentSale (x : Option Sale) : Upholds s (u.setCurrentSale x) ↔ Upholds s u :=
  upholds_iff rfl rfl
@[simp] theorem upholds_setLoad (l : Load) : Upholds s (u.setLoad l) ↔ Upholds s u := upholds_iff rfl rfl
@[simp] theorem upholds_setCool (c : Cooling) : Upholds s (u.setCool c) ↔ Upholds s u := upholds_iff rfl rfl
@[simp] theorem upholds_setPlant (p : Plant) : Upholds s (u.setPlant p) ↔ Upholds s u := upholds_iff rfl rfl
@[simp] theorem upholds_setZone (z : ZoneId) (r : Zone) : Upholds s (u.setZone z r) ↔ Upholds s u :=
  upholds_iff rfl rfl
@[simp] theorem upholds_setChannel (c : ChannelId) (r : Channel) : Upholds s (u.setChannel c r) ↔ Upholds s u :=
  upholds_iff rfl rfl
@[simp] theorem upholds_setHealth (v : Vector Health 3) : Upholds s (u.setHealth v) ↔ Upholds s u :=
  upholds_iff rfl rfl
@[simp] theorem upholds_setLine (l : Line) : Upholds s (u.setLine l) ↔ Upholds s u := upholds_iff rfl rfl
@[simp] theorem upholds_setQueue (q : List QueueEntry) : Upholds s (u.setQueue q) ↔ Upholds s u := upholds_iff rfl rfl
@[simp] theorem upholds_setStation (st : StationId) (r : Station) : Upholds s (u.setStation st r) ↔ Upholds s u :=
  upholds_iff rfl rfl
@[simp] theorem upholds_setSettings (r : Settings) : Upholds s (u.setSettings r) ↔ Upholds s u := upholds_iff rfl rfl
@[simp] theorem upholds_setCutShort (b : Bool) : Upholds s (u.setCutShort b) ↔ Upholds s u := upholds_iff rfl rfl
@[simp] theorem upholds_only : Upholds s u.only.1 ↔ Upholds s u := Iff.rfl
@[simp] theorem upholds_flag (c : Condition) : Upholds s (u.flag c) ↔ Upholds s u := upholds_iff rfl rfl
@[simp] theorem upholds_answer (k : ReqKind) (c : ResultCode) (d : AnswerData) :
    Upholds s (u.answer k c d) ↔ Upholds s u := upholds_iff rfl rfl
@[simp] theorem upholds_removeFrames (st : StationId) (ks : List LineKind) :
    Upholds s (u.removeFrames st ks) ↔ Upholds s u := upholds_iff rfl rfl
@[simp] theorem upholds_noteHeader (r : ReqHeader) : Upholds s (u.noteHeader r) ↔ Upholds s u := by
  fun_cases State.noteHeader u r <;> simp
@[simp] theorem upholds_advanceTo (n : Nat) : Upholds s (u.advanceTo n) ↔ Upholds s u := by
  fun_cases State.advanceTo u n <;> simp
end

/-! ### Reports (R191, R192) -/

section
variable {s u : State} (h : Upholds s u)
include h

@[simp] theorem upholds_report (r : Report) : Upholds s (u.report r) :=
  ⟨fun hs => report_fits u r (h.reports hs), fun hs => by simpa using h.mode hs⟩
@[simp] theorem upholds_coinIn (f : Bool) (c : CoinId) (d : Route) : Upholds s (u.coinIn f c d) :=
  ⟨fun hs => coinIn_fits u f c d (h.reports hs), fun hs => by simpa using h.mode hs⟩
@[simp] theorem upholds_billIn (b : BillId) (t : BillInState) (n : Nat) : Upholds s (u.billIn b t n) :=
  upholds_report h _
@[simp] theorem upholds_stationReport (st : StationId) (c : StationCause) (d : StationDetail) :
    Upholds s (u.stationReport st c d) := upholds_report h _
@[simp] theorem upholds_discarded (st : StationId) (r : LineRequest) (b : Bool) (c : DiscardCause) :
    Upholds s (u.discarded st r b c) := upholds_report h _
@[simp] theorem upholds_limitReport (n : Nat) : Upholds s (u.limitReport n) := by
  fun_cases State.limitReport u n <;> simp [h]

/-! ### Frames handed, and the acceptance set (R37, R38, R173) -/

theorem upholds_dropStaleAsk (st : StationId) (r : LineRequest) : Upholds s (u.dropStaleAsk st r) := by
  fun_cases State.dropStaleAsk u st r <;> simp [h]
theorem upholds_joinQueue (st : StationId) (r : LineRequest) : Upholds s (u.joinQueue st r).1 := by
  fun_cases State.joinQueue u st r <;> simp [h]
@[simp] theorem upholds_handFrame (st : StationId) (r : LineRequest) : Upholds s (u.handFrame st r).1 := by
  have kept := upholds_dropStaleAsk h st r
  fun_cases State.handFrame u st r with
  | case1 => exact (upholds_setQueue _).mpr kept
  | case2 => exact upholds_joinQueue kept st r
  | case3 => exact h
@[simp] theorem upholds_hand (st : StationId) (r : LineRequest) : Upholds s (u.hand st r) := upholds_handFrame h st r
@[simp] theorem upholds_show (c : ShowCode) (n : Nat) : Upholds s (u.show c n) := by simp [State.show, h]
theorem upholds_handPart (st : StationId) : Upholds s (u.handPart st) := by
  fun_cases State.handPart u st <;> simp [h]
theorem upholds_recomputeSet : Upholds s u.recomputeSet :=
  upholds_handPart (upholds_handPart (upholds_handPart ((upholds_setCash _).mpr h) _) _) _
@[simp] theorem upholds_refreshSet : Upholds s u.refreshSet := upholds_recomputeSet (upholds_recomputeSet h)
@[simp] theorem upholds_reroute : Upholds s u.reroute := by
  fun_cases State.reroute u <;> simp +zetaDelta [h]
@[simp] theorem upholds_tubeResult (n : TubeId) (f : Tube → Tube) : Upholds s (u.tubeResult n f) :=
  upholds_reroute ((upholds_setTube n _).mpr h)

/-! ### The mode record (R184, R186) -/

/-- R184: a request or a door set, and the mode derived again. -/
theorem upholds_modeChange {c : ModeCause} {v : State} {requested : Mode} {door : Door}
    (hm : v.mode = { u.mode with requested := requested, door := door }) (hp : v.port.reports = u.port.reports) :
    Upholds s ((modeChange c v).getD v.only).1 where
  reports hs := by
    rw [modeChange_port, hp]
    exact h.reports hs
  mode hs := by
    rw [modeChange_mode c u v requested door hm]
    exact movedMode_derived (h.mode hs) requested door

/-! ### What follows an event, and what ends a step (R31, R110, R37, R181, R172) -/

theorem upholds_eventEnd (before : State) : Upholds s (u.eventEnd before) := by
  have credited : Upholds s (u.creditEnd before) := by
    fun_cases State.creditEnd u before <;> simp [h]
  unfold State.eventEnd
  refine upholds_refreshSet ?_
  fun_cases State.panelEnd (u.creditEnd before) before <;> simp [credited]

/-- Beginning a frame takes a report out of the queue, or none (R181). -/
theorem upholds_transmit : Upholds s u.transmit := by
  fun_cases State.transmit u with
  | case1 | case2 | case4 => exact h.shrinks le_rfl rfl
  | case3 _ _ r rs hr => exact h.shrinks (by simp [hr]) rfl

theorem upholds_stepEnd : Upholds s u.stepEnd := by
  have looked := upholds_transmit (upholds_refreshSet (upholds_transmit h))
  exact (upholds_iff (by rw [State.beginSlot_port]) (LinksOnly.beginSlot _).mode).mpr looked

end

end Sys2Proof.Laws
end

section
/-! SUPPORT. The inner steps of an event, each of which upholds the report queue's bound and the derived mode (R184,
R186, R191). -/

namespace Sys2Proof.Laws
open Sys2Proof Sys2Proof.Machine

/-! ### What leaves the reports and the mode record alone -/

section
variable {s u : State}

@[simp] theorem upholds_oweWhole : Upholds s u.oweWhole ↔ Upholds s u := upholds_iff rfl rfl
@[simp] theorem upholds_takeMap (m : SelMap) : Upholds s (u.takeMap m).1 ↔ Upholds s u := upholds_iff rfl rfl
@[simp] theorem upholds_healthWrite (l : List (ZoneId × Health × ZoneCause)) :
    Upholds s (healthWrite l u).1 ↔ Upholds s u := upholds_iff rfl rfl
@[simp] theorem upholds_endHeating : Upholds s (endHeating u).1 ↔ Upholds s u := upholds_iff rfl rfl
@[simp] theorem upholds_endDrip : Upholds s (endDrip u).1 ↔ Upholds s u := upholds_iff rfl rfl
@[simp] theorem upholds_commandEnded (n : TubeId) (p v : Nat) (e : PayEnding) :
    Upholds s (u.commandEnded n p v e) ↔ Upholds s u := upholds_iff rfl rfl
@[simp] theorem upholds_holdBreak : Upholds s u.holdBreak ↔ Upholds s u := upholds_iff rfl rfl
@[simp] theorem upholds_probeLater (st : StationId) : Upholds s (u.probeLater st) ↔ Upholds s u := upholds_iff rfl rfl
@[simp] theorem upholds_refuse (k : ReqKind) (c : ResultCode) :
    Upholds s (refuse k c u).1 ↔ Upholds s u := upholds_iff rfl rfl
@[simp] theorem upholds_takenWrite (b : Bool) (l : List Job) :
    Upholds s (takenWrite b u l).1 ↔ Upholds s u := upholds_iff rfl rfl
@[simp] theorem upholds_setDue : Upholds s u.setDue ↔ Upholds s u := upholds_iff rfl rfl
@[simp] theorem upholds_setHome (c : ColumnId) (b : Bool) :
    Upholds s (u.setHome c b) ↔ Upholds s u := upholds_iff rfl rfl
end

/-! ### Inner steps of the units -/

section
variable {s u : State} (h : Upholds s u)
include h

@[simp] theorem upholds_loadStep (op : LoadOp) : Upholds s (loadStep op u).1 := by
  obtain ⟨l, hl, -⟩ := loadStep_eq op u
  rw [hl]
  exact (upholds_setLoad l).mpr h
@[simp] theorem upholds_deposit (v : Nat) : Upholds s (u.deposit v) := by simp [State.deposit, h]
@[simp] theorem upholds_returnHold : Upholds s u.returnHold := by simp [State.returnHold, h]
@[simp] theorem upholds_releaseAll : Upholds s u.releaseAll := by simp [State.releaseAll, h]
@[simp] theorem upholds_handHealth (z : ZoneId) (x : Health) : Upholds s (u.handHealth z x).1 := by
  fun_cases State.handHealth u z x <;> simp +zetaDelta [h]
@[simp] theorem upholds_healthSample (z : ZoneId) (b : Bool) (c : Option ZoneCause) :
    Upholds s (healthSample z b c u).1 := by
  fun_cases healthSample z b c u <;> simp +zetaDelta [h]
@[simp] theorem upholds_zoneReport (z : ZoneId) (c : ZoneCause) :
    Upholds s (u.zoneReport z c) := by simp [State.zoneReport, h]
@[simp] theorem upholds_coolAct : Upholds s (coolAct u).1 := by
  fun_cases coolAct u <;> simp +zetaDelta [h]
@[simp] theorem upholds_lockoutTest : Upholds s (lockoutTest u).1 := by
  fun_cases lockoutTest u <;> simp [h]
@[simp] theorem upholds_heatTest : Upholds s (heatTest u).1 := by
  fun_cases heatTest u <;> simp [h]
@[simp] theorem upholds_heatPast : Upholds s (heatPast u).1 := by
  fun_cases heatPast u <;> simp [h]
@[simp] theorem upholds_dripTest : Upholds s (dripTest u).1 := by
  fun_cases dripTest u <;> simp [h]
@[simp] theorem upholds_compressorGiven : Upholds s (compressorGiven u).1 := by
  fun_cases compressorGiven u <;> simp [h]
@[simp] theorem upholds_heaterGiven : Upholds s (heaterGiven u).1 := by
  fun_cases heaterGiven u <;> simp [h]
@[simp] theorem upholds_payoutDone (o : Occasion) (m : Bool) (p w : Nat) (e : List TubeEntry) :
    Upholds s (u.payoutDone o m p w e) := by simp [State.payoutDone, h]
@[simp] theorem upholds_payStart : Upholds s (payStart u).1 := by
  fun_cases payStart u <;> simp +zetaDelta [h]
@[simp] theorem upholds_payTell : Upholds s (payTell u).1 := by
  fun_cases payTell u <;> simp [h]
@[simp] theorem upholds_payPlan : Upholds s (payPlan u).1 := by
  fun_cases payPlan u <;> simp +zetaDelta [h]
@[simp] theorem upholds_payNext : Upholds s (payNext u).1 := by
  fun_cases payNext u <;> simp [h]
@[simp] theorem upholds_payOweEnd : Upholds s (payOweEnd u).1 := by
  unfold payOweEnd
  split <;> simp [h]
@[simp] theorem upholds_payEnd : Upholds s (payEnd u).1 := by simp [payEnd, h]
@[simp] theorem upholds_payCut : Upholds s (payCut u).1 := by
  fun_cases payCut u <;> simp [h]
@[simp] theorem upholds_stackAsk : Upholds s (stackAsk u).1 := by
  fun_cases stackAsk u <;> simp [h]
@[simp] theorem upholds_billStackedTail (b : BillId) (v : Nat) : Upholds s (billStackedTail b v u).1 := by
  fun_cases billStackedTail b v u <;> simp +zetaDelta [h]
@[simp] theorem upholds_stackUncertain : Upholds s (stackUncertain u).1 := by
  fun_cases stackUncertain u <;> simp [h]
@[simp] theorem upholds_escrowLost : Upholds s (escrowLost u).1 := by
  fun_cases escrowLost u <;> simp [h]
@[simp] theorem upholds_cardClose : Upholds s (cardClose u).1 := by
  fun_cases cardClose u <;> simp [h]
@[simp] theorem upholds_testGiven : Upholds s (testGiven u).1 := by
  fun_cases testGiven u <;> simp [h]
@[simp] theorem upholds_testLeave : Upholds s (testLeave u).1 := by
  fun_cases testLeave u <;> simp [h]
@[simp] theorem upholds_serviceLeft : Upholds s (serviceLeft u).1 := by simp [serviceLeft, h]
@[simp] theorem upholds_testResult (c : ColumnId) (o : TestOutcome) (d : DropField) (b : ColState) :
    Upholds s (u.testResult c o d b) := by simp [State.testResult, h]
@[simp] theorem upholds_testNever (c : ColumnId) (o : TestOutcome) :
    Upholds s (u.testNever c o) := by simp [State.testNever, h]
@[simp] theorem upholds_saleGiven : Upholds s (saleGiven u).1 := by
  fun_cases saleGiven u <;> simp [State.startSale, refusedTry, h]
@[simp] theorem upholds_saleDriven (c : ColumnId) (r : DriveResult) (n : Nat) (b : Bool) :
    Upholds s (saleDriven c r n b u).1 := by
  fun_cases saleDriven c r n b u <;> simp [h]
@[simp] theorem upholds_vendedCursor (x : Sale) (o : SaleOutcome) : Upholds s (u.vendedCursor x o) := by
  fun_cases State.vendedCursor u x o <;> simp [h]
@[simp] theorem upholds_saleReport (x : Sale) (o : SaleOutcome) (n : Nat) :
    Upholds s (u.saleReport x o n) := by simp [State.saleReport, h]
@[simp] theorem upholds_returnTest : Upholds s (returnTest u).1 := by
  fun_cases returnTest u <;> simp [h]
@[simp] theorem upholds_leverPulled : Upholds s (leverPulled u).1 := by
  fun_cases leverPulled u <;> simp [h]
@[simp] theorem upholds_saleNotice (c : ColumnId) (k : NoticeCause) : Upholds s (saleNotice c k u).1 := by
  fun_cases saleNotice c k u <;> simp [h]
@[simp] theorem upholds_modeNote (m : Mode) (c : ModeCause) :
    Upholds s (u.modeNote m c) := by simp [State.modeNote, h]
/-- RESTART asks for SETUP (R189). -/
@[simp] theorem upholds_modeRestart : Upholds s (modeRestart u).1 := by
  have moved := upholds_modeChange h (c := .restart) (v := u.setMode { u.mode with requested := .setup }) rfl rfl
  fun_cases modeRestart u with
  | case1 s1 o ho => simpa [s1, ho] using moved
  | case2 s1 ho =>
    have stands : Upholds s s1 := by simpa [s1, ho] using moved
    exact upholds_modeNote stands _ _

/-! ### Inner steps that hand frames or take some back (R173, R174) -/

@[simp] theorem upholds_payGiven : Upholds s (payGiven u).1 := by
  fun_cases payGiven u <;> simp +zetaDelta [h]
@[simp] theorem upholds_payLost : Upholds s (payLost u).1 := by
  fun_cases payLost u <;> simp [h]
@[simp] theorem upholds_giveBack (b : BillId) (v : Nat) : Upholds s (u.giveBack b v) := by
  fun_cases State.giveBack u b v <;> simp [h]
@[simp] theorem upholds_billEscrowed (b : BillId) : Upholds s (billEscrowed b u).1 := by
  fun_cases billEscrowed b u <;> simp [h]
@[simp] theorem upholds_stackGiven : Upholds s (stackGiven u).1 := by
  fun_cases stackGiven u <;> simp [h]
@[simp] theorem upholds_dropBillFrames : Upholds s u.dropBillFrames := (upholds_removeFrames _ _).mpr h
@[simp] theorem upholds_billReturned : Upholds s (billReturned u).1 := by
  fun_cases billReturned u <;> simp +zetaDelta [h]
@[simp] theorem upholds_stackGaveUp : Upholds s (stackGaveUp u).1 := by
  unfold stackGaveUp
  split
  · split <;> simp [h]
  · exact h
@[simp] theorem upholds_returnEscrow : Upholds s u.returnEscrow := by
  fun_cases State.returnEscrow u <;> simp [h]
@[simp] theorem upholds_enterHost (x : Sale) : Upholds s (enterHost x u).1 := by simp [enterHost, h]
@[simp] theorem upholds_enterReader (x : Sale) : Upholds s (enterReader x u).1 := by simp [enterReader, h]
@[simp] theorem upholds_enterReaderOrTry (x : Sale) : Upholds s (enterReaderOrTry x u).1 := by
  fun_cases enterReaderOrTry x u <;> simp [h]
@[simp] theorem upholds_enterStage (x : Sale) : Upholds s (enterStage x u).1 := by
  fun_cases enterStage x u <;> simp [h]
@[simp] theorem upholds_acceptSale (o : Origin) (i : SelectionId) (c : Source) :
    Upholds s (acceptSale o i c u).1 := by
  fun_cases acceptSale o i c u <;> simp +zetaDelta [h]
@[simp] theorem upholds_showStacking : Upholds s u.showStacking := by
  fun_cases State.showStacking u <;> simp +zetaDelta [h]
@[simp] theorem upholds_stackOutcome (b : Bool) : Upholds s (stackOutcome b u).1 := by
  fun_cases stackOutcome b u <;> simp [h]
@[simp] theorem upholds_saleTry : Upholds s (saleTry u).1 := by
  fun_cases saleTry u <;> simp +zetaDelta [h]
@[simp] theorem upholds_tellReader (x : Sale) (o : SaleOutcome) : Upholds s (tellReader x o u) := by
  fun_cases tellReader x o u <;> simp +zetaDelta [h]
@[simp] theorem upholds_saleEnd (o : SaleOutcome) : Upholds s (saleEnd o u).1 := by
  fun_cases saleEnd o u <;> simp +zetaDelta [h]
@[simp] theorem upholds_saleFinish (n : Nat) : Upholds s (saleFinish n u).1 := by
  fun_cases saleFinish n u with
  | case1 | case2 => exact h
  | case3 x _ outcome _ s1 =>
    have reported : Upholds s s1 := upholds_saleReport (upholds_vendedCursor h x outcome) x outcome n
    simp +zetaDelta [reported]
@[simp] theorem upholds_returnAct : Upholds s (returnAct u).1 := by simp [returnAct, h]
@[simp] theorem upholds_cardLost : Upholds s (cardLost u).1 := by
  fun_cases cardLost u <;> simp +zetaDelta [h]
@[simp] theorem upholds_giveGrant (who : Requester) : Upholds s (giveGrant who u).1 := by
  cases who <;> simp [giveGrant, h]
theorem upholds_modePanel (b : Mode) : Upholds s (u.modePanel b) := by
  fun_cases State.modePanel u b <;> simp [h]
@[simp] theorem upholds_modeTail (b : Mode) (c : ModeCause) : Upholds s (u.modeTail b c) :=
  upholds_modeNote (upholds_modePanel (upholds_refreshSet h) b) b c

/-! ### Inner steps of the line master (R166, R171) -/

@[simp] theorem upholds_leaveActive (st : StationId) (c : StationCause) : Upholds s (leaveActive st c u).1 := by
  have kept : ∀ (l : List QueueEntry) {v : State}, Upholds s v →
      Upholds s (l.foldl (fun v e => v.discarded st e.request false (discardCause c)) v) :=
    upholds_foldl fun _ _ hv => upholds_discarded hv _ _ _ _
  unfold leaveActive
  dsimp only
  split
  · split <;> simp [kept, h]
  · simp [kept, h]
@[simp] theorem upholds_lineRestart : Upholds s (lineRestart u).1 := by
  fun_cases lineRestart u <;> simp [h]

/-! ### Any inner step -/

/-- An inner step upholds both, whichever block it is of. -/
theorem upholds_runOne (j : Job) : Upholds s (runOne j u).1 := by
  cases j with
  | _ => simp [runOne, State.saleRestart, State.showRestart, h]

theorem upholds_runJobs (n : Nat) (js : List Job) : Upholds s (runJobs n js u) :=
  runJobs_keeps (P := Upholds s) (fun j _ hv => upholds_runOne hv j) (fun _ hv => (upholds_setCutShort true).mpr hv)
    n js u h
end

/-- So does an event, from its own effect on. -/
theorem upholds_event {s : State} {o : Out} (h : Upholds s o.1) (before : State) : Upholds s (event before o) :=
  upholds_eventEnd (upholds_runJobs h _ _) before

end Sys2Proof.Laws
end

section
/-! SUPPORT. The items of a REPLY, the ends of an exchange, the requests and the drive's events, each of which upholds
the report queue's bound and the derived mode (R184, R186, R191). -/

namespace Sys2Proof.Laws
open Sys2Proof Sys2Proof.Machine

section
variable {s u : State} (h : Upholds s u)
include h

/-! ### The items of a REPLY (R165) -/

@[simp] theorem upholds_coinMoney (v : Nat) : Upholds s (u.coinMoney v).1 := by
  fun_cases State.coinMoney u v <;> simp [h]
@[simp] theorem upholds_coinValueFault (v : Nat) (i : Item) : Upholds s (u.coinValueFault v i) := by
  fun_cases State.coinValueFault u v i <;> simp [h]
@[simp] theorem upholds_coinSeen (c : CoinId) (d : CoinDest) : Upholds s (coinSeen c d u).1 := by
  fun_cases coinSeen c d u with
  | case1 => exact h
  | case2 v => simp +zetaDelta [h]
  | case3 v n hn n' t ht item =>
    have filled := upholds_tubeResult (upholds_coinValueFault h v item) n' Tube.coinAdded
    simpa using upholds_coinMoney filled v
  | case4 v n hn n' t ht item s1 o =>
    have faulted : Upholds s s1 := upholds_coinValueFault (upholds_stationReport h _ _ _) v item
    simp [o, faulted]
  | case5 v n hn item s1 o =>
    have faulted : Upholds s s1 := upholds_coinValueFault (upholds_stationReport h _ _ _) v item
    simp [o, faulted]
@[simp] theorem upholds_billStackedItem (b : BillId) : Upholds s (billStackedItem b u).1 := by
  fun_cases billStackedItem b u <;> simp [h]
@[simp] theorem upholds_billSeen (b : BillId) (e : BillEvent) : Upholds s (billSeen b e u).1 := by
  fun_cases billSeen b e u <;> simp [h]
@[simp] theorem upholds_tubeSense (n : Fin 64) (e : Sense) : Upholds s (tubeSense n e u).1 := by
  fun_cases tubeSense n e u <;> simp [h]
@[simp] theorem upholds_bookPaid (x : Nat) : Upholds s (u.bookPaid x) := by
  fun_cases State.bookPaid u x <;> simp [h]
@[simp] theorem upholds_overpaidReport (n : Fin 64) (k a : Nat) : Upholds s (u.overpaidReport n k a) := by
  fun_cases State.overpaidReport u n k a <;> simp [h]
theorem upholds_paidFull (c : PayCmd) (n : Fin 64) (k : Nat) : Upholds s (paidFull c n k u).1 := by
  have booked := upholds_tubeResult (upholds_bookPaid h (c.coins * c.value)) c.tube fun t => t.paidFull k
  simp [paidFull, booked]
@[simp] theorem upholds_paidItem (n : Fin 64) (k : Nat) : Upholds s (paidItem n k u).1 := by
  fun_cases paidItem n k u with
  | case1 _ _ c => exact upholds_paidFull h c n k
  | case2 => simp [paidShort, h]
  | case3 => simp [paidUnasked, h]
  | case4 => simp [h]
@[simp] theorem upholds_keyItem (n : Nat) : Upholds s (keyItem n u).1 := by
  fun_cases keyItem n u <;> simp [h]
@[simp] theorem upholds_chargeAnswer (n : Nat) (b : Bool) : Upholds s (chargeAnswer n b u).1 := by
  fun_cases chargeAnswer n b u <;> simp +zetaDelta [h]
/-- An item's own effect, whichever block owns it (R165). -/
@[simp] theorem upholds_itemOut (st : StationId) (i : Item) : Upholds s (itemOut st i u).1 := by
  unfold itemOut
  split
  · cases i <;> simp [cardOn, h]
  · simp [h]

end

theorem upholds_takeItems (st : StationId) : ∀ (l : List Item) {u : State}, Upholds s u →
    Upholds s (takeItems st l u)
  | [], _, h => h
  | i :: l, _, h => upholds_takeItems st l (upholds_event (upholds_itemOut h st i) _)

section
variable {s u : State} (h : Upholds s u)
include h

/-! ### The exchange (R167 to R170) -/

@[simp] theorem upholds_endExchange : Upholds s (endExchange u).1 := by
  fun_cases endExchange u <;> simp +zetaDelta [h]
@[simp] theorem upholds_waitTaken (x : Exchange) : Upholds s (waitTaken x u).1 := by
  fun_cases waitTaken x u <;> simp +zetaDelta [h]
@[simp] theorem upholds_missTaken (x : Exchange) : Upholds s (missTaken x u).1 := by
  fun_cases missTaken x u <;> simp +zetaDelta [h]
@[simp] theorem upholds_mirror (x : Exchange) (p : List Byte) : Upholds s (u.mirror x p) := by
  fun_cases State.mirror u x p <;> simp +zetaDelta [h]
@[simp] theorem upholds_flagUnknown (b : Bool) : Upholds s (u.flagUnknown b) := by
  fun_cases State.flagUnknown u b <;> simp +zetaDelta [h]
@[simp] theorem upholds_replyTaken (x : Exchange) (p : List Byte) (b : Bool) :
    Upholds s (u.replyTaken x p b) := by simp [State.replyTaken, h]
@[simp] theorem upholds_firstFrames (st : StationId) : Upholds s (u.firstFrames st) := by
  fun_cases State.firstFrames u st <;> simp +zetaDelta [h]
@[simp] theorem upholds_joinReply (st : StationId) (r l : Byte) : Upholds s (joinReply st r l u) := by
  fun_cases joinReply st r l u <;> simp +zetaDelta [h]
@[simp] theorem upholds_joinTaken (x : Exchange) (p : List Byte) : Upholds s (joinTaken x p u) := by
  fun_cases joinTaken x p u <;> simp +zetaDelta [h]
@[simp] theorem upholds_takeReply (x : Exchange) (p : List Byte) (l : List Item) (b : Bool) :
    Upholds s (takeReply x p l b u) := by
  fun_cases takeReply x p l b u with
  | case1 => exact upholds_joinTaken h x p
  | case2 => exact upholds_takeItems _ l (upholds_replyTaken h x p b)
/-- The end of an exchange, whatever the reply was judged to be. -/
@[simp] theorem upholds_exchangeEnds (x : Exchange) (j : ReplyJudgement) :
    Upholds s (Machine.exchangeEnds x j u) := by
  fun_cases Machine.exchangeEnds x j u with
  | case1 p l b => exact upholds_event (upholds_endExchange (upholds_takeReply h x p l b)) _
  | case2 => exact upholds_event (upholds_waitTaken h x) _
  | case3 => exact upholds_event (upholds_missTaken (upholds_flagUnknown h _) x) _

/-! ### The requests (R178, R183) -/

@[simp] theorem upholds_writeCoins (n : Nat) (l : List RawValue) : Upholds s (writeCoins n l u).1 := by
  fun_cases writeCoins n l u <;> simp [h]
@[simp] theorem upholds_writeBills (n : Nat) (l : List RawValue) : Upholds s (writeBills n l u).1 := by
  fun_cases writeBills n l u <;> simp [h]
@[simp] theorem upholds_writeTubes (n : Nat) (l : List RawTube) : Upholds s (writeTubes n l u).1 := by
  fun_cases writeTubes n l u <;> simp +zetaDelta [h]
@[simp] theorem upholds_writeSelections (n : Nat) (l : List RawSelection) : Upholds s (writeSelections n l u).1 := by
  fun_cases writeSelections n l u <;> simp +zetaDelta [h]
@[simp] theorem upholds_columnChanged (c : ColumnId) (b : ColState) (k : ColCause) :
    Upholds s (u.columnChanged c b k) := by
  fun_cases State.columnChanged u c b k <;> simp [State.columnReport, h]
@[simp] theorem upholds_writtenReports (m : SelMap) : Upholds s (u.writtenReports m) := by
  unfold State.writtenReports
  exact upholds_foldl (fun _ _ hv => upholds_columnChanged hv _ _ _) _ h
@[simp] theorem upholds_writeColumns (n : Nat) (l : List RawColumn) : Upholds s (writeColumns n l u).1 := by
  fun_cases writeColumns n l u <;> simp +zetaDelta [h]
@[simp] theorem upholds_writeCalibration (n : Nat) (l : List RawBreakpoint) :
    Upholds s (writeCalibration n l u).1 := by
  fun_cases writeCalibration n l u <;> simp [h]
@[simp] theorem upholds_writeChannels (n : Nat) (l : List Byte) : Upholds s (writeChannels n l u).1 := by
  fun_cases writeChannels n l u <;> simp [h]
@[simp] theorem upholds_writeZones (n : Nat) (l : List RawZone) : Upholds s (writeZones n l u).1 := by
  fun_cases writeZones n l u <;> simp +zetaDelta [h]
@[simp] theorem upholds_minOffWritten : Upholds s (minOffWritten u).1 := by
  fun_cases minOffWritten u <;> simp [h]
@[simp] theorem upholds_writeSettings (n : Nat) (l : List RawSettings) : Upholds s (writeSettings n l u).1 := by
  fun_cases writeSettings n l u <;> simp +zetaDelta [h]
@[simp] theorem upholds_writeRelays (n : Nat) (l : List Byte) : Upholds s (writeRelays n l u).1 := by
  fun_cases writeRelays n l u <;> simp [h]
@[simp] theorem upholds_readTable (t f c : Nat) : Upholds s (readTable t f c u).1 := by
  fun_cases readTable t f c u <;> simp [h]
@[simp] theorem upholds_modeRequest (v : Byte) : Upholds s (modeRequest v u).1 := by
  fun_cases modeRequest v u with
  | case1 m => exact upholds_modeChange h (requested := m) rfl rfl
  | case2 => simp [h]
@[simp] theorem upholds_doorMoved (d : Door) : Upholds s (doorMoved d u).1 :=
  upholds_modeChange h (door := d) rfl rfl
/-- R187: the flag is set in SERVICE alone. -/
@[simp] theorem upholds_fillRequest (b : Bool) : Upholds s (fillRequest b u).1 := by
  have set : u.mode.effective = .service →
      Upholds s ((u.answer .fill .ok .empty).setMode { u.mode with fill := b }) := fun serving =>
    ⟨h.reports, fun hs => ⟨(h.mode hs).1, fun _ => serving⟩⟩
  fun_cases fillRequest b u with
  | case1 serving => simpa using set serving
  | case2 serving s1 =>
    have kept : Upholds s s1 := set serving
    simp [kept]
  | case3 => simp [h]
@[simp] theorem upholds_selectRequest (n : Nat) : Upholds s (selectRequest n u).1 := by
  fun_cases selectRequest n u <;> simp +zetaDelta [h]
@[simp] theorem upholds_approveRequest (n : Nat) (b : Bool) : Upholds s (approveRequest n b u).1 := by
  fun_cases approveRequest n b u <;> simp +zetaDelta [h]
@[simp] theorem upholds_leverRequest : Upholds s (leverRequest u).1 := by simp [leverRequest, h]
@[simp] theorem upholds_testRequest (n : Nat) : Upholds s (testRequest n u).1 := by
  fun_cases testRequest n u <;> simp +zetaDelta [h]
@[simp] theorem upholds_tubeOutRequest (n c : Nat) : Upholds s (tubeOutRequest n c u).1 := by
  fun_cases tubeOutRequest n c u <;> simp [payManual, h]
@[simp] theorem upholds_releaseRequest (n : Nat) : Upholds s (releaseRequest n u).1 := by
  fun_cases releaseRequest n u <;> simp +zetaDelta [h]
@[simp] theorem upholds_defrostRequest : Upholds s (defrostRequest u).1 := by
  fun_cases defrostRequest u <;> simp +zetaDelta [h]
@[simp] theorem upholds_statusRequest (n : Nat) : Upholds s (statusRequest n u).1 := by
  fun_cases statusRequest n u <;> simp [h]
@[simp] theorem upholds_restartRequest : Upholds s (restartRequest u).1 := by
  fun_cases restartRequest u <;> simp [h]
@[simp] theorem upholds_relayTo (st : StationId) (k : Byte) (p : List Byte) : Upholds s (relayTo st k p u).1 := by
  fun_cases relayTo st k p u <;> simp +zetaDelta [h]
@[simp] theorem upholds_relayRequest (st : Fin 8) (k : Byte) (p : List Byte) :
    Upholds s (relayRequest st k p u).1 := by
  fun_cases relayRequest st k p u <;> simp [h]

/-! ### The spiral drive's events, and the other commands' own effects -/

@[simp] theorem upholds_columnAfter (c : ColumnId) (r : Column) (k : ColCause) :
    Upholds s (u.columnAfter c r k) := by simp [State.columnAfter, State.driveColumn, h]
@[simp] theorem upholds_handResult (b : Bool) : Upholds s (handResult b u).1 := by
  fun_cases handResult b u <;> simp [h]
@[simp] theorem upholds_endAttempt (a : Attempt) (r : DriveResult) (b : Bool) :
    Upholds s (endAttempt a r b u).1 := by simp [endAttempt, h]
@[simp] theorem upholds_stopEarly (a : Attempt) (r : DriveResult) : Upholds s (stopEarly a r u).1 := by
  fun_cases stopEarly a r u <;> simp [h]
@[simp] theorem upholds_turnDone (a : Attempt) : Upholds s (turnDone a u).1 := by
  fun_cases turnDone a u <;> simp [h]
@[simp] theorem upholds_windowEnds (a : Attempt) : Upholds s (windowEnds a u).1 := by
  fun_cases windowEnds a u <;> simp [h]
@[simp] theorem upholds_strayDrop : Upholds s u.strayDrop := by simp [State.strayDrop, h]
@[simp] theorem upholds_dropCounted : Upholds s (dropCounted u).1 := by
  fun_cases dropCounted u <;> simp [h]
@[simp] theorem upholds_beamBreaks : Upholds s (beamBreaks u).1 := by
  fun_cases beamBreaks u <;> simp [h]
@[simp] theorem upholds_beamClears : Upholds s u.beamClears := by
  fun_cases State.beamClears u <;> simp [h]
@[simp] theorem upholds_senseCurrent (a : Attempt) (n : Nat) : Upholds s (u.senseCurrent a n) := by
  fun_cases State.senseCurrent u a n <;> simp [h]
@[simp] theorem upholds_homeOpens (a : Attempt) (n : Nat) : Upholds s (homeOpens a n u).1 := by
  fun_cases homeOpens a n u <;> simp +zetaDelta [h]
@[simp] theorem upholds_homeCloses (a : Attempt) : Upholds s (homeCloses a u).1 := by
  fun_cases homeCloses a u <;> simp +zetaDelta [h]
@[simp] theorem upholds_currentChanges (a : Attempt) (n : Nat) : Upholds s (currentChanges a n u).1 := by
  fun_cases currentChanges a n u <;> simp +zetaDelta [h]
@[simp] theorem upholds_openChecked (a : Attempt) (n : Nat) : Upholds s (openChecked a n u).1 := by
  fun_cases openChecked a n u <;> simp +zetaDelta [h]
@[simp] theorem upholds_leaveHomeEnds (a : Attempt) (n : Nat) : Upholds s (leaveHomeEnds a n u).1 :=
  upholds_endAttempt h _ _ _
@[simp] theorem upholds_takeSample (c : ChannelId) (n : Nat) : Upholds s (takeSample c n u).1 := by
  fun_cases takeSample c n u <;> simp +zetaDelta [h]
@[simp] theorem upholds_payLimitEnds (c : PayCmd) : Upholds s (payLimitEnds c u).1 := by simp [payLimitEnds, h]
end

end Sys2Proof.Laws
end

section
/-! SUPPORT. Every command upholds the report queue's bound and the derived mode (R184, R186, R191). -/

namespace Sys2Proof.Laws
open Sys2Proof Sys2Proof.Machine

section
variable {s u : State}

theorem upholds_finish {before : State} {o : Out} (h : Upholds s o.1) : NextHas (Upholds s) (finish before o) :=
  nextHas_next.mpr (upholds_stepEnd (upholds_event h before))

theorem upholds_next (h : Upholds s u) : NextHas (Upholds s) (.next u) := nextHas_next.mpr h

@[simp] theorem upholds_refl : Upholds s s := .refl s

theorem takeRequest_upholds {r : ReqHeader} {k : ReqKind} {body : State → Out}
    (hb : ∀ {u}, Upholds s u → Upholds s (body u).1) : NextHas (Upholds s) (takeRequest r k body s) := by
  have noted : Upholds s (s.noteHeader r) := by simp
  unfold takeRequest
  dsimp only
  split
  · exact upholds_next ((upholds_flag _).mpr noted)
  · split
    · exact upholds_finish ((upholds_refuse _ _).mpr noted)
    · exact upholds_finish (hb noted)

theorem execRelay_upholds (r : ReqHeader) (k : Byte) (p : List Byte) :
    NextHas (Upholds s) (execRelay r k p s) := by
  fun_cases execRelay r k p s with
  | case1 => exact upholds_next (by simp +zetaDelta)
  | case2 => exact upholds_finish (upholds_relayRequest (by simp +zetaDelta) _ k p)

theorem takeCommand_upholds (c : Instr) : NextHas (Upholds s) (takeCommand c s) := by
  cases c with
  | relay r k p => exact execRelay_upholds r k p
  | read | writeCoinTable | writeBillTable | writeTubeTable | writeSelectionTable | writeColumnTable
  | writeCalibrationTable | writeChannelTable | writeZoneTable | writeSettings | writeRelayTable | mode | select
  | approve | lever | testDrive | tubeOut | fill | release | defrost | status | restart =>
    exact takeRequest_upholds fun hu => by simp [hu]
  | _ => exact upholds_next (.refl s)

theorem takeJudged_upholds (j : FrameJudgement) : NextHas (Upholds s) (takeJudged j s) := by
  fun_cases takeJudged j s with
  | case1 => exact upholds_next (.refl s)
  | case2 => exact upholds_next (by unfold State.discardFrame; split <;> simp)
  | case3 c => exact takeCommand_upholds c
  | case4 => exact takeRequest_upholds fun hu => by simp [hu]

/-- The end of an exchange and of the step, from a state that has what `s` has. -/
theorem exchange_upholds (x : Exchange) (j : ReplyJudgement) (h : Upholds s u) :
    NextHas (Upholds s) (.next (Machine.exchangeEnds x j u).stepEnd) :=
  upholds_next (upholds_stepEnd (upholds_exchangeEnds h x j))

/-- Every command upholds the report queue's bound and the derived mode. -/
theorem exec_upholds (c : Instr) (s : State) : NextHas (Upholds s) (exec c s) := by
  have same : NextHas (Upholds s) (.next s) := upholds_next (.refl s)
  cases c with
  | powerOn =>
    refine upholds_next ⟨fun _ => ?_, fun _ => ⟨rfl, nofun⟩⟩
    rw [State.setPending_port, State.powerOn, Port.powerOn]
    dsimp only
    split <;> simp
  | holdAsserted => exact upholds_next (by simp)
  | serviceFrameDiscarded l => exact takeJudged_upholds _
  | serviceByteGap l => exact takeJudged_upholds _
  | relay r k p => exact execRelay_upholds r k p
  | read | writeCoinTable | writeBillTable | writeTubeTable | writeSelectionTable | writeColumnTable
  | writeCalibrationTable | writeChannelTable | writeZoneTable | writeSettings | writeRelayTable | mode | select
  | approve | lever | testDrive | tubeOut | fill | release | defrost | status | restart =>
    exact takeRequest_upholds fun hu => by simp [hu]
  | doorSwitch | holdReleased | beamBroken | beamUnbroken | sample | temps => exact upholds_finish (by simp)
  | frameTransmitted =>
    simp only [exec, execFrameTransmitted]
    split
    · exact same
    · exact upholds_finish ⟨id, id⟩
  | replyReceived | replyWindowExpiry | replyGap =>
    simp only [exec, execReplyReceived, execReplyWindowExpiry, execReplyGap]
    split
    · exact exchange_upholds _ _ (by simp)
    · exact same
    · exact same
  | lineBreakEnd | probeDue | retryAt | stackingLimitExpiry | payLimitExpiry | hostApprovalLimitExpiry
  | readerApprovalLimitExpiry | loadLimitExpiry =>
    simp only [exec, execLineBreakEnd, execProbeDue, execRetryAt, execStackingLimitExpiry, execPayLimitExpiry,
      execHostApprovalLimitExpiry, execReaderApprovalLimitExpiry, execLoadLimitExpiry]
    split <;> simp -implicitDefEqProofs [same, upholds_finish]
  | homeSwitchOpens | homeSwitchCloses | motorCurrentChange | clearTimerExpiry | blockTimerExpiry
  | testLoadLimitExpiry | promotionTimerExpiry =>
    simp only [exec, execHomeSwitchOpens, execHomeSwitchCloses, execMotorCurrentChange, execClearTimerExpiry,
      execBlockTimerExpiry, execTestLoadLimitExpiry, execPromotionTimerExpiry]
    split <;> simp -implicitDefEqProofs [same, upholds_finish]
  | openCheckExpiry | leaveHomeLimitExpiry | turnLimitExpiry | jamRunExpiry | dropWindowExpiry =>
    simp only [exec, execOpenCheckExpiry, execLeaveHomeLimitExpiry, execTurnLimitExpiry, execJamRunExpiry,
      execDropWindowExpiry]
    split
    · split <;> simp -implicitDefEqProofs [same, upholds_finish]
    · exact same
  | dutyPhaseExpiry | minOffPassed | startWindowExpiry | minRunExpiry | defrostIntervalReached | heaterTimerExpiry
  | dripTimerExpiry | excursionTimerExpiry =>
    simp only [exec, execDutyPhaseExpiry, execMinOffPassed, execStartWindowExpiry, execMinRunExpiry,
      execDefrostIntervalReached, execHeaterTimerExpiry, execDripTimerExpiry, execExcursionTimerExpiry]
    split <;> simp -implicitDefEqProofs [same, upholds_finish]

/-- A millisecond leaves the reports and the mode record alone, and every command upholds what is said of them. -/
theorem step_upholds {t : State} (h : step s = .next t) : Upholds s t := by
  unfold step at h
  split at h
  · injection h with h
    subst h
    simp [State.tick]
  · rename_i c rest _
    obtain ⟨reports, mode⟩ := exec_upholds c (s.setPending rest) t h
    exact ⟨reports, mode⟩

end

/-- Settles O8: what a step puts into the report queue joins where there is room, or room is made for it. -/
theorem reportsBoundedByStep : Obligations.ReportsBoundedByStep := by
  unfold Obligations.ReportsBoundedByStep
  exact fun _ _ hs ht => (step_upholds ht).reports hs

/-- Settles O12: the mode record changes where the mode is derived again, which clears the flag as SERVICE is left, and
where FILL sets the flag in SERVICE. -/
theorem modeDerivedByStep : Obligations.ModeDerivedByStep := by
  unfold Obligations.ModeDerivedByStep
  exact fun s t hs ht => (modeDerived_iff t).mpr ((step_upholds ht).mode ((modeDerived_iff s).mp hs))

end Sys2Proof.Laws
end

section
/-! SUPPORT. A service-link frame that fails a step of R178, and a request that meets a full reply slot. -/

namespace Sys2Proof.Laws
open Sys2Proof Sys2Proof.Machine

/-! ### The steps of R178 after the header check -/

/-- R178, steps 2 and 3: a station of 0 to 7, the request direction, and the spare bits clear. -/
structure RequestHeader (g : Header) : Prop where
  station : g.station < 8
  direction : g.direction = false
  spare : g.h1.toNat < 64

section
variable {g : Header} {rest : List Byte} {gap corrected : Bool}

theorem judgeRequest_badStation (h : 8 ≤ g.station) :
    judgeRequest gap corrected g rest = .discarded corrected .stationInvalid :=
  dif_neg (Nat.not_lt.mpr h)

theorem judgeRequest_badHeader (hs : g.station < 8) (h : g.direction = true ∨ 64 ≤ g.h1.toNat) :
    judgeRequest gap corrected g rest = .discarded corrected .headerBad := by
  have bad : (!g.spareClear || g.direction) = true := by
    rcases h with hd | hb
    · rw [hd, Bool.or_true]
    · rw [Header.spareClear, decide_eq_false (Nat.not_lt.mpr hb)]
      rfl
  rw [judgeRequest, dif_pos hs, if_pos bad]

/-- The test of a sound header's direction and spare bits finds nothing. -/
theorem RequestHeader.passes (h : RequestHeader g) : (!g.spareClear || g.direction) = false := by
  rw [h.direction, Header.spareClear, decide_eq_true h.spare]
  rfl

/-- R178, step 4: the test of the length, and of the gap that breaks the frame off. -/
theorem tooLong_iff (g : Header) (gap : Bool) :
    (decide (Config.payloadMax < g.length) || gap) = true ↔ gap = true ∨ 120 < g.length := by
  rw [Bool.or_eq_true, decide_eq_true_iff, or_comm]
  rfl

/-- R178, step 4: the length, and the frame broken off or not there in full. -/
theorem judgeRequest_badLength (h : RequestHeader g)
    (hl : gap = true ∨ 120 < g.length ∨ splitPayload g.length rest = none) :
    judgeRequest gap corrected g rest = .discarded corrected .lengthBad := by
  rw [judgeRequest, dif_pos h.station, h.passes, if_neg Bool.false_ne_true]
  by_cases early : gap = true ∨ 120 < g.length
  · rw [if_pos ((tooLong_iff g gap).mpr early)]
  · obtain ⟨whole, short⟩ := not_or.mp early
    rw [if_neg fun long => early ((tooLong_iff g gap).mp long), (hl.resolve_left whole).resolve_left short]

variable {payload : List Byte} {good : Bool}

/-- R178: a frame there in full goes on to its size, its CRC and its kind. -/
theorem judgeRequest_whole (h : RequestHeader g) (hl : g.length ≤ 120)
    (hp : splitPayload g.length rest = some (payload, good)) :
    (sizeFits g.h0 payload = false →
      judgeRequest false corrected g rest = .discarded corrected .lengthBad) ∧
    (sizeFits g.h0 payload = true → good = false →
      judgeRequest false corrected g rest = .discarded corrected .crcBad) ∧
    (sizeFits g.h0 payload = true → good = true → (∀ r : ReqHeader, readRequest r g.h0 payload = none) →
      judgeRequest false corrected g rest = .discarded corrected .kindUnknown) := by
  have fits : ¬ (decide (Config.payloadMax < g.length) || false) = true := fun long =>
    ((tooLong_iff g false).mp long).elim Bool.false_ne_true (Nat.not_lt.mpr hl)
  unfold judgeRequest
  rw [dif_pos h.station, h.passes, if_neg Bool.false_ne_true, if_neg fits, hp]
  refine ⟨fun size => ?_, fun size crc => ?_, fun size crc kind => ?_⟩
  · simp [size]
  · simp [size, crc]
  · simp [size, crc, kind]
end

/-- A kind of no request requires no size, and spells none (R163, R177). -/
theorem noRequest_kind {kind : Byte} (h : kind.toNat = 0 ∨ 14 < kind.toNat) (payload : List Byte) :
    sizeFits kind payload = true ∧ ∀ r : ReqHeader, readRequest r kind payload = none := by
  unfold sizeFits readRequest
  generalize kind.toNat = n at h
  rcases h with rfl | h
  · exact ⟨rfl, fun _ => rfl⟩
  · obtain ⟨m, rfl⟩ : ∃ m, n = m + 15 := ⟨n - 15, by omega⟩
    exact ⟨rfl, fun _ => rfl⟩

theorem splitPayload_goodCrc {n : Nat} {rest : List Byte} (hn : 0 < n) (hl : rest.length = n + 2)
    (hc : rest.drop n = twoBytes (crc (rest.take n)).toNat) : splitPayload n rest = some (rest.take n, true) := by
  have hcrc : (rest.drop n).take 2 = rest.drop n := List.take_of_length_le (by rw [List.length_drop]; omega)
  rw [splitPayload, if_neg (by omega), if_neg (by omega), hcrc, decide_eq_true hc]

/-! ### From the bytes to the condition flagged (R161, R178, R179) -/

section
variable {h g : Header} {rest : List Byte} {gap corrected : Bool}

theorem judgeService_uncorrectable (hj : judgeHeader h = .uncorrectable) :
    judgeService gap (0x5A#8 :: h.h0 :: h.h1 :: h.h2 :: h.check :: rest) = .discarded false .headerBad := by
  unfold judgeService
  rw [afterSync_sync]
  dsimp only [splitHeader]
  rw [hj]

/-- A header that is clean or corrected goes on to the further steps, as corrected. -/
theorem judgeService_header (hj : judgeHeader h = if corrected then .corrected g else .clean g) :
    judgeService gap (0x5A#8 :: h.h0 :: h.h1 :: h.h2 :: h.check :: rest) = judgeRequest gap corrected g rest := by
  cases corrected with
  | false => exact judgeService_clean gap rest hj
  | true => exact judgeService_corrected gap rest hj

/-- R179: the conditions after a frame discarded, and nothing else changed. -/
theorem discardFrame_eq (s : State) (corrected : Bool) (c : Condition) :
    s.discardFrame corrected c = { s with port := { s.port with
      conditions := (if corrected then s.port.conditions.flag .headerCorrected else s.port.conditions).flag c } } := by
  cases corrected <;> rfl
end

/-- Settles O22: each failing step's judgement, in the order of R178, and the condition it flags. -/
theorem discardedFrameFlagsFirstFailure : Obligations.DiscardedFrameFlagsFirstFailure := by
  unfold Obligations.DiscardedFrameFlagsFirstFailure
  intro s h g rest corrected whole flags flagged discards
  have discarded : ∀ (gap b : Bool) (c : Condition), judgeService gap whole = .discarded b c →
      takeJudged (judgeService gap whole) s =
        flagged (if b then s.port.conditions.flag .headerCorrected else s.port.conditions) c := by
    intro gap b c hj
    rw [hj]
    exact congrArg Host.Outcome.next (discardFrame_eq s b c)
  have both : ∀ (b : Bool) (c : Condition), (∀ gap, judgeService gap whole = .discarded b c) →
      discards (if b then s.port.conditions.flag .headerCorrected else s.port.conditions) c :=
    fun b c hj => ⟨discarded false b c (hj false), discarded true b c (hj true)⟩
  refine ⟨fun hj => both false _ fun _ => judgeService_uncorrectable hj, fun hj => ?_⟩
  have judged : ∀ gap, judgeService gap whole = judgeRequest gap corrected g rest := fun _ => judgeService_header hj
  refine ⟨fun hs => both corrected _ fun gap => (judged gap).trans (judgeRequest_badStation hs),
    fun hs hb => both corrected _ fun gap => (judged gap).trans (judgeRequest_badHeader hs hb), fun hs hd hb => ?_⟩
  have sound : RequestHeader g := ⟨hs, hd, hb⟩
  refine ⟨discarded true corrected _ ((judged true).trans (judgeRequest_badLength sound (.inl rfl))),
    fun long => both corrected _ fun gap => (judged gap).trans (judgeRequest_badLength sound (.inr (.inl long))),
    fun some short => both corrected _ fun gap => (judged gap).trans
      (judgeRequest_badLength sound (.inr (.inr (splitPayload_short some short)))),
    fun fits some there => ⟨fun size => ?_, fun size bad => ?_, fun kind good => ?_⟩⟩
  · obtain ⟨good, hp⟩ : ∃ good, splitPayload g.length rest = .some (rest.take g.h2.toNat, good) := by
      by_cases hc : rest.drop g.h2.toNat = twoBytes (crc (rest.take g.h2.toNat)).toNat
      · exact ⟨true, splitPayload_goodCrc some there.symm hc⟩
      · exact ⟨false, splitPayload_badCrc some there.symm hc⟩
    obtain ⟨badSize, -, -⟩ := judgeRequest_whole (corrected := corrected) sound fits hp
    exact discarded false corrected _ ((judged false).trans (badSize size))
  · obtain ⟨-, badCrc, -⟩ := judgeRequest_whole (corrected := corrected) sound fits
      (splitPayload_badCrc some there.symm bad)
    exact discarded false corrected _ ((judged false).trans (badCrc size rfl))
  · obtain ⟨size, unread⟩ := noRequest_kind kind (rest.take g.h2.toNat)
    obtain ⟨-, -, unknown⟩ := judgeRequest_whole (corrected := corrected) sound fits
      (splitPayload_goodCrc some there.symm good)
    exact discarded false corrected _ ((judged false).trans (unknown size rfl unread))

/-! ### A full reply slot (R178, R180) -/

/-- `s` as a request leaves it that meets a full slot. -/
theorem overrun_eq (s : State) (h : ReqHeader) : (s.noteHeader h).flag .requestOverrun =
    { s with port := { s.port with conditions :=
      (if h.corrected then s.port.conditions.flag .headerCorrected
       else s.port.conditions).flag .requestOverrun } } := by
  unfold State.noteHeader
  split <;> rfl

section
variable {s : State} {a : Answer} (full : s.port.slot = some a)
include full

theorem takeRequest_overrun (h : ReqHeader) (k : ReqKind) (body : State → Out) :
    takeRequest h k body s = .next ((s.noteHeader h).flag .requestOverrun) := by
  simp [takeRequest, full]

theorem execRelay_overrun (h : ReqHeader) (k : Byte) (p : List Byte) :
    execRelay h k p s = .next ((s.noteHeader h).flag .requestOverrun) := by
  simp [execRelay, full]
end

/-- Settles O23: each request is taken by the one test of the slot, a RELAY by its own. -/
theorem requestOverrunDiscards : Obligations.RequestOverrunDiscards := by
  unfold Obligations.RequestOverrunDiscards
  intro s h a c full hc
  rw [← overrun_eq s h]
  rcases hc with rfl | rfl | rfl | ⟨v, rfl⟩ | ⟨v, rfl⟩ | ⟨n, y, rfl⟩ | ⟨v, rfl⟩ | ⟨n, k, rfl⟩ | ⟨v, rfl⟩ | ⟨z, rfl⟩ |
    ⟨p, rfl⟩ | ⟨k, b, rfl⟩ | ⟨x, y, z, rfl⟩ | ⟨i, r, rfl⟩ | ⟨i, r, rfl⟩ | ⟨i, r, rfl⟩ | ⟨i, r, rfl⟩ | ⟨i, r, rfl⟩ |
    ⟨i, r, rfl⟩ | ⟨i, r, rfl⟩ | ⟨i, r, rfl⟩ | ⟨i, r, rfl⟩ | ⟨i, r, rfl⟩
  pick_goal 12
  · exact execRelay_overrun full h k b
  all_goals exact takeRequest_overrun full h _ _

end Sys2Proof.Laws
end

section
/-! SUPPORT. READ (R182): the records of a table as they stand, or BAD_INDEX. -/

namespace Sys2Proof.Laws
open Sys2Proof Sys2Proof.Machine

/-- A corrected header is no part of a record. -/
theorem tableRecords_noteHeader (s : State) (h : ReqHeader) (table first count : Nat) :
    tableRecords (s.noteHeader h) table first count = tableRecords s table first count := by
  unfold State.noteHeader
  split <;> rfl

/-- Section 11.3: the records of each table and its most per READ, as a list. -/
theorem tableSizes_eq : ∀ table : Nat,
    ([(16, 16), (8, 8), (6, 6), (100, 20), (64, 24), (1, 1), (4, 4), (3, 3), (1, 1), (7, 7)] :
      List (Nat × Nat))[table]? = tableSizes table
  | 0 | 1 | 2 | 3 | 4 | 5 | 6 | 7 | 8 | 9 => rfl
  | _ + 10 => rfl

/-- Of each table a READ may carry a record. -/
theorem tableSizes_pos {table size most : Nat} (h : tableSizes table = some (size, most)) : 0 < most := by
  revert h
  fun_cases tableSizes table <;> simp <;> omega

section
variable {s : State} {h : ReqHeader} {table first count : Byte}

/-- R182: the count is clamped to 1, to the table's end and to its most, and the code tells whether it was. -/
theorem readCountOf_code {size most first : Nat} (count : Nat) (hf : first < size) (hm : 0 < most) :
    takenCode (readCountOf size most first count).2 =
      if (readCountOf size most first count).1 = count then .ok else .clamped := by
  have kept := clampNat_kept (lo := 1) (hi := min most (size - first)) (n := count) (by omega)
  unfold readCountOf takenCode
  split
  · rename_i clamped
    rw [if_neg fun same => Bool.false_ne_true ((kept.mpr same).symm.trans clamped)]
  · rename_i unclamped
    rw [if_pos (kept.mp (Bool.eq_false_of_not_eq_true unclamped))]

/-- R182: a READ inside a table carries the records as they stand. -/
theorem read_inside {size most : Nat} (ht : s.takes h) (hsize : tableSizes table.toNat = some (size, most))
    (hf : first.toNat < size) :
    let n := (readCountOf size most first.toNat count.toNat).1
    let code : ResultCode := if n = count.toNat then .ok else .clamped
    let data : AnswerData := .records table.toNat first.toNat n (tableRecords s table.toNat first.toNat n)
    ∃ t : State, exec (.read h table first count) s = .next t ∧
      LinksOnly { s with port := answeredPort s h .read code data } t ∧
      t.newestAnswer = some (answerTo s h .read code data) := by
  intro n code data
  have body : readTable table.toNat first.toNat count.toNat (s.noteHeader h) =
      (s.setPort (answeredPort s h .read code data), []) := by
    rw [readTable, hsize]
    dsimp only
    rw [if_pos hf, tableRecords_noteHeader, State.noteHeader_answer, readCountOf_code _ hf (tableSizes_pos hsize)]
    rfl
  have taken : exec (.read h table first count) s = finish s (readTable table.toNat first.toNat count.toNat
      (s.noteHeader h)) := takeRequest_taken h .read _ s ht
  rw [taken, body]
  exact request_answered s _ _ rfl

/-- R182: a READ of no table, or from an index outside, is refused. -/
theorem read_outside (ht : s.takes h)
    (hout : ∀ size most, tableSizes table.toNat = some (size, most) → size ≤ first.toNat) :
    ∃ t : State, exec (.read h table first count) s = .next t ∧
      LinksOnly { s with port := answeredPort s h .read .badIndex .empty } t ∧
      t.newestAnswer = some (answerTo s h .read .badIndex .empty) := by
  refine request_refused (c := .read h table first count) ht rfl ?_
  unfold readTable
  split
  · rfl
  · rename_i size most hsize
    exact if_neg (Nat.not_lt.mpr (hout size most hsize))
end

/-- Settles O25: inside the ten tables the records of the table's number, elsewhere BAD_INDEX. -/
theorem readAnswersRecords : Obligations.ReadAnswersRecords := by
  unfold Obligations.ReadAnswersRecords
  intro s h table first count ht sizes
  have same : ∀ n : Nat, sizes[n]? = tableSizes n := tableSizes_eq
  refine ⟨fun size most hsize hf => ?_, fun hout => ?_⟩
  · intro n
    obtain ⟨t, he, hlinks, hanswer⟩ := read_inside (count := count) ht ((same _).symm.trans hsize) hf
    refine ⟨t, tableRecords s table.toNat first.toNat n, he, ⟨hlinks, hanswer⟩,
      ?_, ?_, ?_, ?_, ?_, ?_, ?_, ?_, ?_, ?_⟩ <;> exact fun hnumber => hnumber ▸ rfl
  · refine read_outside ht fun size most hsize => ?_
    rcases hout with hno | ⟨size', most', hsize', hle⟩
    · obtain ⟨k, hk⟩ := Nat.exists_eq_add_of_le' hno
      rw [hk] at hsize
      cases hsize
    · have hpair := ((same _).trans hsize).symm.trans hsize'
      cases hpair
      exact hle

end Sys2Proof.Laws
end

section
/-! SUPPORT. The mode unit (R184 to R187): a change of the effective mode with nothing under way that it would end. -/

namespace Sys2Proof.Laws
open Sys2Proof Sys2Proof.Machine

/-! ### The owners (R186, step 2) -/

/-- No test drive and no manual payout is under way, and no bill is HELD (R89, R55, R19). -/
structure NothingToEnd (s : State) : Prop where
  request : s.drive.testRequest = none
  attempt : ∀ a, s.drive.attempt = some a → a.requester = .sale
  payout : s.payout.manual = false
  escrow : ∀ b v, s.cash.escrow ≠ .held b v

section
variable {s : State}

theorem serviceLeft_nothing (h : NothingToEnd s) : serviceLeft s = (s, []) := by
  have test : testLeave s = (s, []) := by
    unfold testLeave
    rw [h.request]
    dsimp only
    split
    · rename_i a ha
      rw [if_neg (by rw [h.attempt a ha]; decide)]
      rfl
    · rfl
  have pay : payCut s = (s, []) := if_neg (by rw [h.payout]; decide)
  rw [serviceLeft, test, pay]
  rfl

theorem returnEscrow_nothing (h : NothingToEnd s) : s.returnEscrow = s := by
  unfold State.returnEscrow
  split
  · rename_i b v hheld
    exact absurd hheld (h.escrow b v)
  · rfl

/-! ### The end of a mode change (R186, steps 3 to 5) -/

theorem modePanel_links (s : State) (before : Mode) : LinksOnly s (s.modePanel before) := by
  unfold State.modePanel
  split
  · exact .show _ _ _
  · split
    · exact .show _ _ _
    · exact .refl s

theorem modePanel_grows (s : State) (before : Mode) : PortGrows s.port (s.modePanel before).port := by
  unfold State.modePanel
  split
  · exact s.show_grows _ _
  · split
    · exact s.show_grows _ _
    · exact .refl _

theorem modeNote_links (s : State) (before : Mode) (cause : ModeCause) : LinksOnly s (s.modeNote before cause) :=
  .report s _ rfl

theorem modeNote_grows (s : State) (before : Mode) (cause : ModeCause) :
    PortGrows s.port (s.modeNote before cause).port := s.report_grows _ rfl

/-- The set, the panel's message and the note are the links' own doing. -/
theorem modeTail_links (s : State) (before : Mode) (cause : ModeCause) : LinksOnly s (s.modeTail before cause) :=
  ((LinksOnly.refreshSet s).trans (modePanel_links _ before)).trans (modeNote_links _ before cause)

theorem modeTail_slot (s : State) (before : Mode) (cause : ModeCause) :
    (s.modeTail before cause).port.slot = s.port.slot :=
  (((State.refreshSet_grows s).trans (modePanel_grows _ before)).trans (modeNote_grows _ before cause)).slot

/-- With nothing to end, the inner steps of a mode change are its end alone. -/
theorem modeOwners_runs (h : NothingToEnd s) (before after : Mode) (cause : ModeCause) : ∃ k ≤ 3,
    Runs k (s, modeOwners before after ++ [.modeTail before cause]) (s.modeTail before cause, []) := by
  have tail : Runs 1 (s, [.modeTail before cause]) (s.modeTail before cause, []) := Runs.quiet rfl
  have service : ∀ js, Runs 1 (s, .serviceLeft :: js) (s, js) := fun _ => Runs.quiet (serviceLeft_nothing h)
  have vend : ∀ js, Runs 1 (s, .returnEscrow :: js) (s, js) := fun _ =>
    Runs.quiet (congrArg (·, []) (returnEscrow_nothing h))
  unfold modeOwners
  split <;> split
  · exact ⟨3, le_rfl, ((service _).trans (vend _)).trans tail⟩
  · exact ⟨2, by omega, (service _).trans tail⟩
  · exact ⟨2, by omega, (vend _).trans tail⟩
  · exact ⟨1, by omega, tail⟩

/-! ### The mode derived again (R184, R186) -/

/-- A change of the effective mode is applied to the mode record, and its end comes behind the owners. -/
theorem modeChange_changed {u : State} (cause : ModeCause)
    (h : deriveMode u.mode.requested u.mode.door ≠ u.mode.effective) : ∃ (m : ModeRecord) (before after : Mode),
      modeChange cause u = some (u.setMode m, modeOwners before after ++ [.modeTail before cause]) :=
  ⟨_, _, _, if_neg h⟩

/-- A request or a door set in `s`, as `u` has it: the mode record moves, and the links alone do more. -/
theorem modeChange_runs {u : State} {requested : Mode} {door : Door} (cause : ModeCause) (h : NothingToEnd u)
    (hu : u.mode = { s.mode with requested := requested, door := door }) :
    let w := runOut ((modeChange cause u).getD u.only)
    LinksOnly (u.setMode (movedMode s.mode requested door)) w ∧ w.port.slot = u.port.slot := by
  intro w
  have moved := modeChange_mode cause s u requested door hu
  by_cases stands : deriveMode u.mode.requested u.mode.door = u.mode.effective
  · have none : modeChange cause u = none := if_pos stands
    have hw : w = u := by
      show runOut ((modeChange cause u).getD u.only) = u
      rw [none, Option.getD_none, runOut_only]
    rw [none] at moved
    have same : u.setMode (movedMode s.mode requested door) = u := congrArg u.setMode moved.symm
    exact ⟨by rw [same, hw]; exact .refl u, by rw [hw]⟩
  · obtain ⟨m, before, after, hm⟩ := modeChange_changed cause stands
    rw [hm] at moved
    have hmode : m = movedMode s.mode requested door := moved
    subst hmode
    obtain ⟨k, hk, hruns⟩ := modeOwners_runs (s := u.setMode (movedMode s.mode requested door))
      ⟨h.request, h.attempt, h.payout, h.escrow⟩ before after cause
    have hw : w = (u.setMode (movedMode s.mode requested door)).modeTail before cause := by
      show runOut ((modeChange cause u).getD u.only) = _
      rw [hm]
      exact hruns.runOut (by omega)
    rw [hw]
    exact ⟨modeTail_links _ _ _, modeTail_slot _ _ _⟩

/-! ### MODE, the door and FILL (R184 to R187) -/

/-- R185: the mode numbers. -/
theorem readMode_named {v : Byte} {m : Mode}
    (h : v = 0#8 ∧ m = .setup ∨ v = 1#8 ∧ m = .vend ∨ v = 2#8 ∧ m = .service) : readMode v = some m := by
  rcases h with ⟨rfl, rfl⟩ | ⟨rfl, rfl⟩ | ⟨rfl, rfl⟩ <;> rfl

theorem readMode_unnamed {v : Byte} (h : 2 < v.toNat) : readMode v = none := by
  obtain ⟨n, hn⟩ : ∃ n, v.toNat = n + 3 := ⟨v.toNat - 3, by omega⟩
  unfold readMode
  rw [hn]
  rfl

/-- The ANSWER of a request is placed beside a change of the mode record. -/
theorem setMode_answer (s : State) (h : ReqHeader) (v : ModeRecord) (k : ReqKind) (c : ResultCode) (d : AnswerData) :
    ((s.noteHeader h).answer k c d).setMode v = (s.setMode v).setPort (answeredPort s h k c d) :=
  congrArg (State.setMode · v) (s.noteHeader_answer h k c d)

theorem doorSwitch_moves (h : NothingToEnd s) (d : Door) : ∃ t : State, exec (.doorSwitch d) s = .next t ∧
    LinksOnly { s with mode := movedMode s.mode s.mode.requested d } t := by
  obtain ⟨links, -⟩ := modeChange_runs (s := s) (u := s.setMode { s.mode with door := d }) .door
    ⟨h.request, h.attempt, h.payout, h.escrow⟩ rfl
  exact ⟨_, rfl, links.trans (.ends _ _)⟩

variable {h : ReqHeader}

theorem mode_moves (hn : NothingToEnd s) (ht : s.takes h) {v : Byte} {m : Mode} (hm : readMode v = some m) :
    ∃ t : State, exec (.mode h v) s = .next t ∧
      LinksOnly { s with mode := movedMode s.mode m s.mode.door, port := answeredPort s h .mode .ok .empty } t ∧
      t.newestAnswer = some (answerTo s h .mode .ok .empty) := by
  let u := (s.setMode { s.mode with requested := m }).setPort (answeredPort s h .mode .ok .empty)
  obtain ⟨links, slot⟩ := modeChange_runs (s := s) (u := u) .mode ⟨hn.request, hn.attempt, hn.payout, hn.escrow⟩ rfl
  have taken : exec (.mode h v) s = finish s ((modeChange .mode u).getD u.only) := by
    show takeRequest h .mode (modeRequest v) s = _
    rw [takeRequest_taken h .mode _ s ht, modeRequest, hm]
    dsimp only [setRequested]
    rw [setMode_answer, State.noteHeader_mode]
  rw [taken]
  exact finish_answered links slot

theorem fill_set (ht : s.takes h) (v : Byte) (serving : s.mode.effective = .service) :
    ∃ t : State, exec (.fill h v) s = .next t ∧
      LinksOnly { s with mode := { s.mode with fill := decide (v ≠ 0#8) }
                         port := answeredPort s h .fill .ok .empty } t ∧
      t.newestAnswer = some (answerTo s h .fill .ok .empty) := by
  let u := (s.setMode { s.mode with fill := decide (v ≠ 0#8) }).setPort (answeredPort s h .fill .ok .empty)
  have taken : exec (.fill h v) s = finish s
      (if s.mode.fill = decide (v ≠ 0#8) then u.only else (u.refreshSet.modeNote .service .fill).only) := by
    show takeRequest h .fill (fillRequest _) s = _
    rw [takeRequest_taken h .fill _ s ht, fillRequest, State.noteHeader_mode, if_pos serving, setMode_answer]
  rw [taken]
  split
  · exact request_answered s u _ rfl
  · have noted : LinksOnly u (u.refreshSet.modeNote .service .fill) :=
      (LinksOnly.refreshSet u).trans (modeNote_links _ _ _)
    have slot := ((State.refreshSet_grows u).trans (modeNote_grows _ .service .fill)).slot
    rw [State.only]
    exact finish_answered (by rw [runOut_nil]; exact noted) (by rw [runOut_nil]; exact slot)

theorem fill_closed (ht : s.takes h) (v : Byte) (away : s.mode.effective ≠ .service) :
    ∃ t : State, exec (.fill h v) s = .next t ∧
      LinksOnly { s with port := answeredPort s h .fill .closed .empty } t ∧
      t.newestAnswer = some (answerTo s h .fill .closed .empty) := by
  refine request_refused (c := .fill h v) ht rfl ?_
  rw [fillRequest, State.noteHeader_mode, if_neg away]
end

/-- Settles O24: the mode record moves by R184's table; nothing stands that leaving SERVICE or VEND would end. -/
theorem modeFollowsRequestAndDoor : Obligations.ModeFollowsRequestAndDoor := by
  unfold Obligations.ModeFollowsRequestAndDoor
  refine ⟨fun m d => by cases m <;> cases d <;> rfl, fun s request attempt payout escrow => ?_⟩
  intro moved
  have nothing : NothingToEnd s := ⟨request, attempt, payout, escrow⟩
  refine ⟨doorSwitch_moves nothing, fun h ht => ⟨fun v m named => mode_moves nothing ht (readMode_named named),
    fun v unnamed => ?_, fill_set ht, fill_closed ht⟩⟩
  refine request_refused (c := .mode h v) ht rfl ?_
  rw [modeRequest, readMode_unnamed unnamed]

end Sys2Proof.Laws
end

section
/-! SUPPORT. The step with a command waiting (model log 3). -/

namespace Sys2Proof.Laws
open Sys2Proof Sys2Proof.Machine

/-- The command leaves the queue before it runs: it sees the rest, and not itself, behind it. -/
theorem step_of_pending {s : State} {c : Instr} {rest : List Instr} (front : s.pending = c :: rest) :
    step s = exec c (s.setPending rest) := by
  rw [step, front]

/-- Settles O1: the rest overwrites the queue that held the command, so nothing of that queue is left. -/
theorem stepRunsFrontCommand : Obligations.StepRunsFrontCommand := by
  unfold Obligations.StepRunsFrontCommand
  intro c rest s
  calc step (s.setPending (c :: rest))
      = exec c ((s.setPending (c :: rest)).setPending rest) := step_of_pending (State.setPending_pending _ _)
    _ = exec c (s.setPending rest) := by rw [State.setPending_twice]

end Sys2Proof.Laws
end
